-- ==== Sys2Proof/Word.lean ====
section
/-! DEFINITION. The byte (00_scope 5.1). Byte order lives in Machine/Formats.lean. -/

namespace Sys2Proof

/-- A byte is 8 bits (00_scope 5.1). -/
abbrev Byte := BitVec 8

/-- The byte that holds the low eight bits of a number. -/
def byte (n : Nat) : Byte := BitVec.ofNat 8 n

end Sys2Proof
end

