-- ==== Sys2Proof/Machine/Crc.lean ====
section
/-! DEFINITION. The two cyclic redundancy checks: CRC-32 (R42) and CRC-16 (R188). -/

namespace Sys2Proof.Machine

/-- R42: eight shifts towards the low end, the reversed generator added when a 1 falls out. -/
def crc32Shift : Nat → BitVec 32 → BitVec 32
  | 0, r => r
  | n + 1, r => crc32Shift n (if r.getLsbD 0 then (r >>> 1) ^^^ 0xEDB88320#32 else r >>> 1)

/-- R42: one input byte, combined into the low eight bits. -/
def crc32Byte (r : BitVec 32) (b : Byte) : BitVec 32 := crc32Shift 8 (r ^^^ b.setWidth 32)

/-- R42: the register extended over bytes, in order. -/
def crc32Extend (r : BitVec 32) (bs : List Byte) : BitVec 32 := bs.foldl crc32Byte r

/-- R42: the register before the first byte. -/
def crc32Preset : BitVec 32 := 0xFFFFFFFF#32

/-- R42: the register is inverted after the last byte. -/
def crc32Finish (r : BitVec 32) : BitVec 32 := ~~~r

/-- R42. -/
def crc32 (bs : List Byte) : BitVec 32 := crc32Finish (crc32Extend crc32Preset bs)

/-- R188: eight shifts towards the high end, the generator added when a 1 falls out. -/
def crc16Shift : Nat → BitVec 16 → BitVec 16
  | 0, r => r
  | n + 1, r => crc16Shift n (if r.getLsbD 15 then (r <<< 1) ^^^ 0x1021#16 else r <<< 1)

/-- R188: one input byte, combined into the high eight bits. -/
def crc16Byte (r : BitVec 16) (b : Byte) : BitVec 16 := crc16Shift 8 (r ^^^ (b.setWidth 16 <<< 8))

/-- R188: preset to 0xFFFF, no final inversion. -/
def crc16 (bs : List Byte) : BitVec 16 := bs.foldl crc16Byte 0xFFFF#16

/-- R188: a CRC-16 is written most significant byte first. -/
def crc16Bytes (r : BitVec 16) : List Byte := [(r >>> 8).setWidth 8, r.setWidth 8]

/-- R42: a CRC-32 is written least significant byte first. -/
def crc32Bytes (r : BitVec 32) : List Byte :=
  [r.setWidth 8, (r >>> 8).setWidth 8, (r >>> 16).setWidth 8, (r >>> 24).setWidth 8]

end Sys2Proof.Machine
end

