-- ==== Sys2Proof/Config.lean ====
section
/-! DEFINITION. What is fixed for the machine: the fixed timer lengths and sizes of the manual, and the free values
(constants with no body) for what the manual leaves open. -/

namespace Sys2Proof.Config

/-! ### Free values (log entries 5 and 6) -/

/-- Which of several events that one step raises is taken first, where the manual says "whichever is taken first"
(R24, R52, R56, R92). Applied to the counter `Dev.races`. -/
opaque race : Nat → Nat

/-- The value a counter of the given number of bits shows when its exact value no longer fits. -/
opaque beyond : Nat → Nat → Nat

/-! ### Fixed lengths, in milliseconds -/

/-- R72. -/
def insertReadyMs : Nat := 180000
/-- R97. -/
def pickerMs : Nat := 90000
/-- R178. -/
def holdMs : Nat := 30000
/-- R183. -/
def debounceMs : Nat := 20
/-- R65. -/
def rateWindowMs : Nat := 2000

/-! ### Sizes -/

/-- R50. -/
def pages : Nat := 896
/-- R52: the most pages one channel may hold. -/
def maxHeld : Nat := 832
/-- R52: the pages kept reachable for the other channel. -/
def reserve : Nat := 64
/-- R31. -/
def blockBytes : Nat := 65536
/-- R55. -/
def creditBytes : Nat := 4096
/-- R58. -/
def maxFiles : Nat := 2048
/-- R80. -/
def maxWaiting : Nat := 8
/-- R91. -/
def maxOrders : Nat := 16
/-- R171. -/
def maxRequests : Nat := 4
/-- R176. -/
def maxNotices : Nat := 16
/-- MiB in bytes (00_scope 5.1). -/
def mib : Nat := 1048576
/-- R165. -/
def maxHardRun : Nat := 16
/-- Log entry 4: how many follow-up items one step carries out before the rest are left to the next step. -/
def fuel : Nat := 4096

end Sys2Proof.Config
end

