-- ==== Sys2Proof/Syntax.lean ====
section
/-! DEFINITION. The commands of the controller: one constructor of `Instr` per row of spec/opcode_table.json, with the
operands that the message or event of that row carries. -/

namespace Sys2Proof

/-- The three ports (00_scope 3). -/
inductive Port | A | B | P
  deriving DecidableEq, Repr

/-- The two drive channels (R69). -/
inductive Chan | ch0 | ch1
  deriving DecidableEq, Repr

/-- The 28 places (R1): S00 to S23, M0 and M1, D0 and D1. -/
inductive Place
  | slot (n : Fin 24)
  | mail (m : Fin 2)
  | drive (c : Chan)
  deriving DecidableEq, Repr

/-- A row of the cartridge table, C00 to C63 (R3). -/
abbrev CartIx := Fin 64
/-- A row of the set table, E000 to E255 (R16). -/
abbrev SetIx := Fin 256
/-- A label's 6 to 8 characters, as ASCII bytes (R3, R196). -/
abbrev Label := List Byte

/-- A good request frame at a port (R170): the fields of R197 but the kind, which the constructor gives, and the CRC. -/
structure Req where
  port : Port
  tag : Byte
  handle : Byte
  flags : Byte
  payload : List Byte
  deriving DecidableEq, Repr

/-- Completion kinds of a drive link (R70). -/
inductive DriveKind
  | ok | okWarning | softRecovered | blank | hardRead | endOfMedia | writeProtected | hardWrite | noMedia | notReady
  deriving DecidableEq, Repr

/-- What completes a STATUS: the contents of the drive mouth (R73), or a kind of R70. -/
inductive StatusAnswer
  | none
  | loaded (capacity rate : Nat)
  | ejected
  | kind (k : DriveKind)
  deriving DecidableEq, Repr

/-- Completions of a MOVE (R97). -/
inductive MoveKind | ok | fromEmpty | toOccupied | gripFault | doorOpen
  deriving DecidableEq, Repr

/-- Completions of a SCAN (R97). -/
inductive ScanKind
  | label (text : List Byte)
  | empty
  | noLabel
  | doorOpen
  deriving DecidableEq, Repr

/-- How the read of one store copy ends (R193): with what the slot holds, with other bytes (a slot that has decayed or was
exchanged), or failed. -/
inductive StoreRead
  | stored
  | other (bytes : List Byte)
  | failed
  deriving DecidableEq, Repr

/-- The level of a library line (R182). -/
inductive Level | high | low
  deriving DecidableEq, Repr

/-- What the inputs show when power is applied: the raw level of each line (R183) and whether each client link is present
(R178). -/
structure Inputs where
  l0 : Level
  l1 : Level
  l2 : Level
  l3 : Level
  linkA : Bool
  linkB : Bool
  deriving DecidableEq, Repr

/-- The commands: one constructor per row of the table of operations and events. -/
inductive Instr
  | powerOn (i : Inputs)
  | storeReadCompletion (r : StoreRead)
  | startUp
  | frameError (p : Port)
  | unknownFrameKind (p : Port) (tag handle : Byte)
  | inquire (f : Req)
  | cartridgeList (f : Req)
  | setList (f : Req)
  | setStatus (f : Req)
  | sessionStatus (f : Req)
  | openBackup (f : Req)
  | fileBegin (f : Req)
  | data (f : Req)
  | fileEnd (f : Req)
  | closeSet (f : Req)
  | abort (f : Req)
  | cancel (f : Req)
  | openVerify (f : Req)
  | openRestore (f : Req)
  | grant (f : Req)
  | recycle (f : Req)
  | importCarts (f : Req)
  | exportCart (f : Req)
  | relocate (f : Req)
  | inventory (f : Req)
  | erase (f : Req)
  | rebuild (f : Req)
  | pools (f : Req)
  | lockPool (f : Req)
  | day (f : Req)
  | config (f : Req)
  | noticeMask (f : Req)
  | stopResume (f : Req)
  | clearFaultDrive (f : Req)
  | clearFaultChanger (f : Req)
  | clearFaultStore (f : Req)
  | reset (f : Req)
  | frameLeft (p : Port)
  | panelReadCutShort
  | linkDown (p : Port)
  | linkUp (p : Port)
  | holdTimerExpiry (p : Port)
  | statusCompletion (c : Chan) (num : Nat) (a : StatusAnswer)
  | locateCompletion (c : Chan) (num : Nat) (k : DriveKind)
  | rewindCompletion (c : Chan) (num : Nat) (k : DriveKind)
  | writeCompletion (c : Chan) (num : Nat) (k : DriveKind)
  | readCompletion (c : Chan) (num : Nat) (k : DriveKind) (record : List Byte)
  | speedCompletion (c : Chan) (num : Nat) (k : DriveKind)
  | ejectCompletion (c : Chan) (num : Nat) (k : DriveKind)
  | mediaReady (c : Chan) (capacity rate : Nat)
  | commandTimerExpiry (c : Chan)
  | insertReadyTimerExpiry (c : Chan)
  | idleUnloadTimerExpiry (c : Chan)
  | openWaitTimerExpiry (handle : Nat)
  | mediaWaitTimerExpiry (c : Chan)
  | rateWindowExpiry (c : Chan)
  | encodeCompletion (c : Chan)
  | decodeCompletion (c : Chan)
  | settleTimerExpiry (c : Chan)
  | moveCompletion (tag : Nat) (k : MoveKind)
  | scanCompletion (tag : Nat) (k : ScanKind)
  | changerStatusCompletion (tag : Nat) (answered : Bool)
  | pickerTimerExpiry
  | lineInputChange (l : Fin 4) (v : Level)
  | debounceTimerExpiry (l : Fin 4)
  | storeWriteCompletion (ok : Bool)
  deriving DecidableEq, Repr

end Sys2Proof
end

