-- ==== Sys2Proof/Machine/State.lean ====
section
/-! DEFINITION. The state of the controller: plain data, every register, table, queue, mark, mode and timer the manual
gives its blocks. A field's default is its value at power-on. A timer is `none` while stopped and `some length` while it
runs, the length being the one it was started with, in milliseconds (the settle and debounce timers) or seconds × 1000. -/

namespace Sys2Proof.Machine

/-- Two things alike: one per channel, per drive or per mail slot. -/
structure Pair (α : Type) where
  zero : α
  one : α
  deriving DecidableEq, Repr

/-! ### The catalogue (chapter 1) -/

/-- A place's occupant (R1). -/
inductive Occupant | none | cart (i : CartIx) | unregistered
  deriving DecidableEq, Repr

/-- A place record (R1, R2). -/
structure PlaceRec where
  occ : Occupant := .none
  confirmed : Bool := false
  deriving DecidableEq, Repr

/-- R5. -/
inductive CartState | scratch | active | full | foreign
  deriving DecidableEq, Repr

/-- A registered entry of the cartridge table (R3). `location` is `none` for ABSENT. -/
structure Cart where
  label : Option Label := none
  state : CartState := .foreign
  suspect : Bool := false
  writeProt : Bool := false
  retired : Bool := false
  location : Option Place := none
  home : Option (Fin 24) := none
  pool : Nat := 0
  loads : Nat := 0
  stops : Nat := 0
  capacity : Option Nat := none
  written : Nat := 0
  endPos : Nat := 0
  live : Nat := 0
  claim : Option Nat := none
  deriving DecidableEq, Repr

/-- R12. -/
inductive PoolKind | rotation | retained
  deriving DecidableEq, Repr
/-- R12. -/
inductive PoolOwner | a | b | shared
  deriving DecidableEq, Repr
/-- One pool's kind, owner and lock (R12). -/
structure Pool where
  kind : PoolKind := .rotation
  owner : PoolOwner := .shared
  lock : Bool := false
  deriving DecidableEq, Repr
/-- A pool map: the boundaries b1 to b4 and the five pools (R12). The default is the factory map. -/
structure PoolMap where
  b1 : Nat := 24
  b2 : Nat := 24
  b3 : Nat := 24
  b4 : Nat := 24
  pools : List Pool := [{}, {}, {}, {}, {}]
  deriving DecidableEq, Repr

/-- R16. -/
inductive SetState | opened | closed | aborted | expired | recovered
  deriving DecidableEq, Repr
/-- A segment entry (R17). -/
structure Segment where
  ordinal : Nat
  cart : CartIx
  firstPos : Nat
  firstSeq : Nat
  count : Nat
  deriving DecidableEq, Repr
/-- The index locator (R17). -/
structure Locator where
  cart : CartIx
  pos : Nat
  count : Nat
  deriving DecidableEq, Repr
/-- R18. -/
inductive VerifyResult | unverified | passed | passedNoDigest | failed | incomplete
  deriving DecidableEq, Repr
/-- The causes of R146, in its order. -/
inductive Cause
  | readFault | headerFault | sequenceFault | decodeFault | crcFault | trailerMismatch | digestMismatch | indexMismatch
  deriving DecidableEq, Repr
/-- The failure locator (R18, R146). -/
structure FailLoc where
  ordinal : Nat
  record : Nat
  cause : Cause
  deriving DecidableEq, Repr
/-- The verify record (R18). -/
structure VerifyRec where
  result : VerifyResult := .unverified
  soft : Nat := 0
  hard : Nat := 0
  locator : Option FailLoc := none
  day : Option Nat := none
  deriving DecidableEq, Repr
/-- How a group ended (R166). -/
inductive GroupEnd | close | span | abort | none
  deriving DecidableEq, Repr
/-- A set (R16). `ownerB` says that the owner port is B, else A. `ends` is the model's own: how each group that a rebuild joined
to the set ended, by ordinal (R167); the store does not keep it (log entry 36). `closeLoc` is the model's own too: the index locator
that a CLOSE group gave, which the set shows in every state but ABORTED (R17, R167; log entry 51). -/
structure BackupSet where
  number : Nat
  tape : Nat
  state : SetState
  ownerB : Bool
  pool : Nat
  expiry : Nat
  writeDay : Nat
  digestOff : Bool := false
  noSpanMark : Bool := false
  renumbered : Bool := false
  indexMissing : Bool := false
  segments : List Segment := []
  dataCount : Nat := 0
  locator : Option Locator := none
  fileCount : Nat := 0
  rawBytes : Nat := 0
  storedBytes : Nat := 0
  digest : Option (BitVec 32) := none
  verify : VerifyRec := {}
  inUse : Option Nat := none
  ends : List (Nat × GroupEnd) := []
  closeLoc : Option Locator := none
  deriving DecidableEq, Repr
/-- An entry of the set table (R16). -/
inductive SetEntry | free | lost | holds (x : BackupSet)
  deriving DecidableEq, Repr

/-- What CTU owns (00_scope 2); the retire limit stands with the settings. -/
structure Catalogue where
  places : List PlaceRec := List.replicate 28 {}
  carts : List (Option Cart) := List.replicate 64 none
  live : PoolMap := {}
  staged : Option PoolMap := none
  sets : List SetEntry := List.replicate 256 .free
  day : Nat := 0
  nextSet : Nat := 1
  deriving DecidableEq, Repr

/-! ### Stored configuration (R192, R177, R182) -/

/-- R182. -/
inductive LineFn | none | door | powerFail | mailRequest | stop
  deriving DecidableEq, Repr

/-- The settings of R192 and the notice masks of R177; the defaults are the factory values. Seconds, and for the settle
value milliseconds. -/
structure Settings where
  openWait : Nat := 600
  idleUnload : Nat := 300
  settle : Nat := 500
  watermark : Nat := 32
  readAhead : Nat := 16
  spanReserve : Nat := 256
  retireLimit : Nat := 20000
  fns : List LineFn := [.none, .none, .none, .none]
  maskA : List Bool := List.replicate 12 true
  maskB : List Bool := List.replicate 12 true
  maskP : List Bool := List.replicate 12 true
  deriving DecidableEq, Repr

/-! ### Ports (chapter 9) -/

/-- The request kinds, in the order of the table of section 9.2 (R197). -/
inductive ReqKind
  | inquire | cartridgeList | setList | setStatus | sessionStatus | openBackup | fileBegin | data | fileEnd | closeSet
  | abort | cancel | openVerify | openRestore | grant | recycle | importCarts | exportCart | relocate | inventory
  | erase | rebuild | pools | lockPool | day | config | noticeMask | stopResume | clearFault | reset
  deriving DecidableEq, Repr

/-- The status codes, in the order of R173. -/
inductive Status
  | ok | busy | badRequest | badState | notOwner | noSet | setInUse | setOpen | setIncomplete | setFull | noCartridge
  | retained | catalogueFull | noCredit | timeout | mediaProtected | indexMissing | notWaiting | held | fault | aborted
  | frameError
  deriving DecidableEq, Repr

/-- The reasons of SESSION_ENDED, in the order of R197. -/
inductive Reason
  | closed | verified | restored | rebuilt | damaged | catalogueFull | abortedByClient | linkLost | spanLimit
  | mediaTimeout | writeFault | driveFault | reset
  deriving DecidableEq, Repr

/-- A request that has joined a request queue (R171). `serial` is the model's own name for it: tags may repeat (R170). -/
structure ReqId where
  port : Port
  serial : Nat
  kind : ReqKind
  tag : Nat
  handle : Nat
  deriving DecidableEq, Repr

/-- What MEDIA_NEEDED names (R117, R134, R142): a pool, a label, or the entry of an unlabelled cartridge. -/
inductive Need | pool (k : Nat) | cart (i : CartIx)
  deriving DecidableEq, Repr

/-- The units a FAULT notice and CLEAR_FAULT name, in the order of R177. -/
inductive FaultUnit | drive (c : Chan) | changer | store
  deriving DecidableEq, Repr

/-- R74; `unknown` is the state between a start-up and the answer to its STATUS (R75, R194). -/
inductive DriveState | unknown | absent | empty | inserting | ready | ejecting | fault
  deriving DecidableEq, Repr

/-- What a drive's FAULT notice reports of it beside its unit (R75; log entry 37). -/
structure DriveReport where
  state : DriveState
  claim : Option Nat
  label : Option Label
  deriving DecidableEq, Repr

/-- The outcome counts of SESSION_ENDED: a restore's set number and files by outcome (R163), or a rebuild's counts (R169). -/
inductive EndCounts
  | none
  | restored (set ok damaged notInSet indexDamaged : Nat)
  | rebuilt (entries merged known dropped skipped : Nat)
  deriving DecidableEq, Repr

/-- The twelve notices (R177). -/
inductive Notice
  | credit (handle count : Nat) (restated : Bool)
  | sessionEnded (handle : Nat) (reason : Reason) (status : Option Status) (counts : EndCounts)
  | spanned (setNo ordinal : Nat) (label : Option Label)
  | mediaNeeded (handle : Nat) (need : Need) (label : Option Label)
  | verifyDone (setNo : Nat) (result : VerifyResult) (soft hard : Nat) (locator : Option FailLoc)
  | door (isOpen : Bool)
  | inventoryDone (missing registered : Nat)
  | fault (u : FaultUnit) (drive : Option DriveReport)
  | powerHold
  | poolsApplied
  | catalogueDegraded (blocks : List Nat)
  | tableFull (p : Place)
  deriving DecidableEq, Repr

/-- A file's outcome in a restore (R153). -/
inductive FileOutcome | pending | ok | damaged | notInSet | indexDamaged
  deriving DecidableEq, Repr

/-- Delivery frames (R158, R159). -/
inductive Delivery
  | head (file : Nat) (tag : List Byte) (length : Nat) (restart : Bool)
  | data (bytes : List Byte)
  | done (file : Nat) (outcome : FileOutcome) (delivered : Nat) (crcMatched : Bool)
  deriving DecidableEq, Repr

/-- A frame on its way out of a port (R174). An answer's `serial` names its entry in the request queue, if it has one; a delivery
frame's names the session that handed it, since handles are given again (R78; log entry 7). -/
inductive OutFrame
  | answer (serial : Option Nat) (tag handle : Nat) (status : Status) (result : List Byte)
  | overflow (tag handle : Nat)
  | frameError
  | notice (n : Notice)
  | delivery (handle serial : Nat) (f : Delivery)
  deriving DecidableEq, Repr

/-- R178. -/
inductive LinkState | up | holding | down
  deriving DecidableEq, Repr

/-- A port unit (R171 to R181). -/
structure PortUnit where
  /-- The request queue (R171). -/
  queue : List ReqId := []
  /-- The requests routed and not yet answered, in arrival order, with or without an entry (R173, R180). -/
  unanswered : List ReqId := []
  /-- The model's own: the serial the next request takes. -/
  serial : Nat := 0
  /-- The response path (R174). -/
  path : List OutFrame := []
  /-- The notice queue (R176). -/
  notices : List Notice := []
  lost : Bool := false
  /-- The frame the transmitter holds (R174). -/
  tx : Option OutFrame := none
  /-- Whether the transmitter last took from the notice queue (R174). -/
  lastNotice : Bool := true
  /-- R178; port P has none and stands at UP. -/
  link : LinkState := .up
  /-- What the link interface last reported. -/
  present : Bool := true
  hold : Option Nat := none
  deriving DecidableEq, Repr

/-! ### Records and stage memory (chapters 2 and 3) -/

/-- The record kinds (R32). -/
inductive RecKind | data | index | close | span | abort
  deriving DecidableEq, Repr

/-- A finished record in a page (R32): the header's fields and the payload. `ordinal` is 0 until the WRITE is issued. -/
structure Record where
  kind : RecKind
  shrunk : Bool
  rawLength : Nat
  payload : List Byte
  rawCrc : BitVec 32
  tape : Nat
  seq : Nat
  ordinal : Nat := 0
  deriving DecidableEq, Repr

/-- The fields of a CLOSE trailer (R130). `digestMark` is the digest presence byte as read (R198). -/
structure CloseTrailer where
  dataCount : Nat
  ordinal : Nat
  digestMark : Nat
  fileCount : Nat
  indexCount : Nat
  indexPos : Nat
  digest : BitVec 32
  stored : Nat
  raw : Nat
  deriving DecidableEq, Repr

/-- A trailer kind (R125). -/
inductive TrailerKind | close | span | abort
  deriving DecidableEq, Repr

/-- An entry of the write queue (R59): a coded record, or a trailer whose fields are filled at issue (R125). -/
inductive WItem | item (r : Record) | trailer (k : TrailerKind)
  deriving DecidableEq, Repr

/-- An index entry (R58). -/
structure IndexEntry where
  file : Nat
  tag : List Byte
  startSeq : Nat
  startOff : Nat
  length : Nat
  crc : BitVec 32
  deriving DecidableEq, Repr

/-- R54. -/
inductive HalfState | free | filling | handed
  deriving DecidableEq, Repr
/-- A raw half (R54). -/
structure RawHalf where
  state : HalfState := .free
  bytes : List Byte := []
  deriving DecidableEq, Repr

/-- An entry of an encoder's work list, and its descriptor (R45). `fromB` says that the source is half B, else A. The page
is held exactly while the encoder is CODING. -/
structure Block where
  kind : RecKind
  fromB : Bool
  length : Nat
  tape : Nat
  seq : Nat
  deriving DecidableEq, Repr
/-- R46. -/
inductive EncState | idle | waitPage | coding
  deriving DecidableEq, Repr
/-- An entry of the encoder's hash table (R33): a hash and the position last seen with it. -/
structure HashEntry where
  hash : Nat
  pos : Nat
  deriving DecidableEq, Repr
/-- A shrink encoder (R45, R46). The hash table lists its non-empty entries in rising order of hash. -/
structure Encoder where
  state : EncState := .idle
  work : List Block := []
  desc : Option Block := none
  hash : List HashEntry := []
  deriving DecidableEq, Repr

/-- A read queue entry (R62). `kind` is absent while the READ is in flight; `dropped` marks an entry whose READ was in
flight when the session ended its run (R63). -/
structure ReadEntry where
  pos : Nat
  kind : Option DriveKind := none
  bytes : List Byte := []
  dropped : Bool := false
  deriving DecidableEq, Repr

/-- A reader's run (R62): the count of records left to read, or an open run. -/
inductive Run | count (n : Nat) | openEnded
  deriving DecidableEq, Repr

/-! ### Requesters and the move queue (chapter 5) -/

/-- Who asked for an order or an unload (R91, R86): a session, port P with a request, the start-up unload or the import. -/
inductive Requester | session (handle : Nat) | panel (r : ReqId) | startUp | importing
  deriving DecidableEq, Repr
/-- R91. -/
inductive OrderKind | load | unload | importing | exporting | scan | relocate
  deriving DecidableEq, Repr
/-- R91; an order that is done or failed has left the queue. -/
inductive OrderState | waiting | sent
  deriving DecidableEq, Repr
/-- R91. -/
inductive WaitReason | none | notReady | noPlace
  deriving DecidableEq, Repr
/-- An order (R91). -/
structure Order where
  kind : OrderKind
  cart : Occupant
  src : Place
  dst : Option Place := none
  reqs : List Requester := []
  state : OrderState := .waiting
  wait : WaitReason := .none
  retry : Nat := 0
  halted : Bool := false
  tag : Option Nat := none
  deriving DecidableEq, Repr
/-- R102. -/
inductive ChangerState | unknown | ready | fault
  deriving DecidableEq, Repr
/-- The message outstanding on the changer link (R97). -/
inductive ChangerMsg | order | status
  deriving DecidableEq, Repr
/-- A message on the changer link waiting for its completion (R97). -/
structure Sent where
  tag : Nat
  msg : ChangerMsg
  deriving DecidableEq, Repr

/-- The cartridge an export mark names (R110): a registered one, or one whose entry ERASE has freed since, by its label (DEDUCED, log
entry 61). -/
inductive Marked | cart (i : CartIx) | erased (label : Option Label)
  deriving DecidableEq, Repr

/-- What MQU owns (R91 to R112). -/
structure Mover where
  queue : List Order := []
  changer : ChangerState := .unknown
  nextTag : Nat := 0
  sent : Option Sent := none
  picker : Option Nat := none
  /-- A message sent before a RESET request whose completion is still to come (R102). -/
  stale : Option Nat := none
  /-- A STATUS to be sent as soon as no message is outstanding (R102, R105). -/
  statusWant : Bool := false
  clearReq : Option ReqId := none
  holdDoor : Bool := false
  holdStop : Bool := false
  holdPower : Bool := false
  holdFault : Bool := false
  scanList : List Place := []
  stopList : List Place := []
  /-- The halted places whose SCAN, once it joins the queue, goes before the other ready orders (R187). -/
  first : List Place := []
  settle : Pair (Option Nat) := ⟨none, none⟩
  settled : Pair Bool := ⟨false, false⟩
  inventory : Bool := false
  missing : List CartIx := []
  /-- How many of the cartridges found missing ERASE has since freed the entries of (DEDUCED, log entry 62). -/
  missingErased : Nat := 0
  registered : Nat := 0
  importMark : Pair Bool := ⟨false, false⟩
  exportMark : Pair (Option Marked) := ⟨none, none⟩
  /-- IMPORT offers refused because the queue was full, to be made again (R110). -/
  importWait : Pair (Option CartIx) := ⟨none, none⟩
  deriving DecidableEq, Repr

/-! ### Drives (chapter 4) -/

/-- An UNLOAD that waits for a STATUS answer of EJECTED to be offered (again), and the answer for a port P requester when it
is not (R87, R101). -/
structure UnloadRetry where
  reqs : List Requester
  status : Status
  deriving DecidableEq, Repr

/-- What a STATUS is for (R73). -/
structure Wants where
  startUp : Bool := false
  clear : Option ReqId := none
  retry : Option UnloadRetry := none
  other : Bool := false
  deriving DecidableEq, Repr

/-- A command on a drive link (R69). `eject` and `rewind true` belong to the unload procedure. -/
inductive DriveCmd
  | status (w : Wants)
  | locate (p : Nat)
  | rewind (forUnload : Bool)
  | write (r : Record) (pos : Nat)
  | read
  | speed (s : Nat)
  | eject
  deriving DecidableEq, Repr

/-- An outstanding command (R69): its kind, number, and the session that sent it (R89). -/
structure Outstanding where
  cmd : DriveCmd
  num : Nat
  owner : Option Nat := none
  deriving DecidableEq, Repr

/-- The stages of an unload (R86); `waitReady` is an unload asked for while the drive is INSERTING. -/
inductive UnloadStage | waitReady | rewind | eject
  deriving DecidableEq, Repr
/-- An unload in progress (R74). -/
structure Unload where
  stage : UnloadStage
  req : Option Requester
  deriving DecidableEq, Repr

/-- A drive context (R74). -/
structure Drive where
  state : DriveState := .unknown
  claim : Option Nat := none
  mounted : Occupant := .none
  pos : Option Nat := none
  rate : Option Nat := none
  speed : Option Nat := none
  speedPending : Bool := false
  out : Option Outstanding := none
  cmdTimer : Option Nat := none
  insertTimer : Option Nat := none
  idleTimer : Option Nat := none
  unload : Option Unload := none
  cmdNum : Nat := 0
  /-- A command sent before a RESET request, still to complete (R90). -/
  stale : Option Nat := none
  /-- The STATUS wanted and not yet sent (R73). -/
  wants : Wants := {}
  /-- An UNLOAD the move queue refused, to be offered again, with its requesters (R87). -/
  offer : Option (List Requester) := none
  deriving DecidableEq, Repr

/-! ### Sessions (chapters 6 to 8) -/

/-- R113. -/
inductive BState | waitMedia | positioning | active | spanning | closing | aborting
  deriving DecidableEq, Repr
/-- Where a span stands (R133 to R135). -/
inductive SpanPhase | none | trailer | choosing | loading
  deriving DecidableEq, Repr
/-- Where an append's index reload stands (R119). -/
inductive AppendPhase | none | locating | reading | relocating
  deriving DecidableEq, Repr
/-- R61. -/
inductive Writer | stream | refill
  deriving DecidableEq, Repr
/-- The open file (R113). -/
structure OpenFile where
  file : Nat
  tag : List Byte
  startSeq : Nat
  startOff : Nat
  length : Nat := 0
  crc : BitVec 32 := 0xFFFFFFFF
  deriving DecidableEq, Repr

/-- A backup session's own context (R113, and R54 to R65 for its credits, stop count, writer and window). -/
structure Backup where
  state : BState := .waitMedia
  returnClosing : Bool := false
  append : Bool := false
  verifyAfter : Bool := false
  pool : Nat := 0
  expiry : Nat := 0
  nextData : Nat := 0
  nextIndex : Nat := 0
  openFile : Option OpenFile := none
  nextFile : Nat := 1
  written : Nat := 0
  pendingClose : Option ReqId := none
  wasActive : Bool := false
  credits : Nat := 0
  /-- A grant could not be delivered (R55, R56). -/
  undelivered : Bool := false
  stops : Nat := 0
  digest : Option (BitVec 32) := none
  writer : Writer := .refill
  /-- The rate window's byte count P while it runs (R65). -/
  window : Option Nat := none
  /-- Target selection is to be run again (R24): no cartridge chosen yet. -/
  selecting : Bool := false
  span : SpanPhase := .none
  /-- The index builder has been armed (R128), how many entries it has packed, and whether the CLOSE trailer is built. -/
  building : Bool := false
  packed : Nat := 0
  trailerBuilt : Bool := false
  /-- The position at which INDEX record 0 was written (R130). -/
  indexPos : Option Nat := none
  appendPhase : AppendPhase := .none
  /-- The next INDEX record expected in an append's reload, and the stored sizes read (R119). -/
  reload : Nat := 0
  reloadSize : Nat := 0
  /-- The reason and status of an abort under way (R137). -/
  ending : Option (Reason × Option Status) := none
  /-- The link hold expired while the CLOSE trailer's WRITE was in flight (R138). -/
  lostHold : Bool := false
  deriving DecidableEq, Repr

/-- The states of a verify, restore or rebuild session (R139, R153, R164). -/
inductive RState | waitMedia | positioning | reading | readingIndex | delivering
  deriving DecidableEq, Repr

/-- A verify session's own context (R139). `at_` is the place in the current run of the record expected next. -/
structure Verify where
  state : RState := .waitMedia
  segment : Nat := 1
  at_ : Nat := 0
  started : Bool := false
  cutShort : Bool := false
  dataClean : Bool := true
  digest : BitVec 32 := 0xFFFFFFFF
  storedTotal : Nat := 0
  /-- R147: the index read so far is whole; an INDEX record was counted as a hard error. -/
  indexWhole : Bool := true
  indexCounted : Bool := false
  trailer : Option CloseTrailer := none
  deriving DecidableEq, Repr

/-- A file of a restore's list (R153). -/
structure RestoreFile where
  file : Nat
  outcome : FileOutcome := .pending
  doneSent : Bool := false
  deriving DecidableEq, Repr

/-- What became of one record a restore has read, in read order: its DATA sequence, and either the decode half with its
bytes, or how it failed (a cause to count, or none for a BLANK or END_OF_MEDIA). -/
structure InRec where
  seq : Nat
  half : Option Chan
  length : Nat := 0
  cause : Option Cause := none
  deriving DecidableEq, Repr

/-- A restore session's own context (R153). -/
structure Restore where
  state : RState := .waitMedia
  files : List RestoreFile := []
  current : Nat := 0
  /-- FILE_HEAD of the current file has been handed. -/
  headSent : Bool := false
  /-- The current file has stopped or ended; its FILE_DONE is to be handed. -/
  finished : Bool := false
  seq : Nat := 0
  off : Nat := 0
  delivered : Nat := 0
  crc : BitVec 32 := 0xFFFFFFFF
  crcMatched : Bool := false
  lastFailed : Option Nat := none
  credits : Nat := 0
  started : Bool := false
  restart : Bool := false
  /-- R156: the index is being read up to which record, whether it is whole, and whether it has been found unusable. -/
  indexAt : Nat := 0
  indexWhole : Bool := true
  indexBad : Bool := false
  /-- The sequence of the next record of the run to be dealt with, the segment the run lies in, and whether the run can be
  read on (R157). -/
  expect : Nat := 0
  runSegment : Option Nat := none
  inbox : List InRec := []
  deriving DecidableEq, Repr

/-- A group (R166). `indexes` counts the INDEX records taken with sequences 0, 1, … and consecutive positions. -/
structure Group where
  tape : Nat
  ordinal : Nat
  firstPos : Nat
  firstSeq : Option Nat := none
  count : Nat := 0
  stored : Nat := 0
  raw : Nat := 0
  indexes : List (Nat × Nat) := []
  ended : GroupEnd := .none
  close : Option CloseTrailer := none
  deriving DecidableEq, Repr
/-- A rebuild session's own context (R164). -/
structure Rebuild where
  state : RState := .waitMedia
  group : Option Group := none
  /-- The entries made or merged by this rebuild. -/
  made : List SetIx := []
  hardRun : Nat := 0
  /-- The position after the last record read (R164). -/
  lastPos : Nat := 0
  anyHeader : Bool := false
  lastTrailer : Option GroupEnd := none
  /-- The sum of the stored sizes of the records read with data (R168). -/
  storedSum : Nat := 0
  entries : Nat := 0
  merged : Nat := 0
  known : Nat := 0
  dropped : Nat := 0
  skipped : Nat := 0
  deriving DecidableEq, Repr

/-- R78. -/
inductive SessKind
  | backup (b : Backup) | verify (v : Verify) | restore (r : Restore) | rebuild (r : Rebuild)
  deriving DecidableEq, Repr

/-- A session context (R78). -/
structure Session where
  handle : Nat
  owner : Port
  /-- The model's own: the serial of the session's open, which tells it from an earlier session of its handle (log entry 7). -/
  serial : Nat := 0
  /-- The open, while it is not yet answered. -/
  openReq : Option ReqId := none
  set : Option SetIx := none
  cart : Option CartIx := none
  /-- The session cartridge was already another session's when this session came to it, and that session has not ended (R142; log
  entry 23). -/
  yields : Bool := false
  openTimer : Option Nat := none
  mediaTimer : Option Nat := none
  /-- What MEDIA_NEEDED was last noticed for, so that it goes out once for each need. -/
  noted : Option Need := none
  /-- The position POSITIONING moves the tape to. -/
  goal : Option Nat := none
  recordsDone : Nat := 0
  /-- The ABORT waiting for its answer. -/
  pendingAbort : Option ReqId := none
  kind : SessKind
  deriving DecidableEq, Repr

/-- A drive channel (00_scope 2): its drive, session, coding engines, halves, queues and index area. -/
structure Channel where
  drive : Drive := {}
  sess : Option Session := none
  enc : Encoder := {}
  /-- R48: DECODING, with the decode half being written. -/
  dec : Option Chan := none
  rawA : RawHalf := {}
  rawB : RawHalf := {}
  /-- The current half is B. -/
  curB : Bool := false
  /-- A decode half is free, or holds the output of one decode (R48). -/
  halves : Pair (Option (List Byte)) := ⟨none, none⟩
  wq : List WItem := []
  rq : List ReadEntry := []
  run : Run := .count 0
  /-- The reader's take was refused and waits (R62). -/
  readerWait : Bool := false
  /-- The trailer builder's take was refused and waits (R52). -/
  trailerWait : Option TrailerKind := none
  index : List IndexEntry := []
  deriving DecidableEq, Repr

/-! ### The arbiter (R78 to R84) -/

/-- The parameters of an open (R80). -/
inductive OpenKind
  | backup (pool expiry : Nat) (verifyAfter : Bool) (target : Option Label)
  | append (set : SetIx) (pool expiry : Nat) (verifyAfter : Bool)
  | verify (set : SetIx)
  | restore (set : SetIx) (files : List Nat)
  | rebuild (cart : CartIx)
  deriving DecidableEq, Repr
/-- A wait list entry (R80). -/
structure WaitEntry where
  req : ReqId
  handle : Nat
  kind : OpenKind
  needed : Option CartIx
  timer : Option Nat
  deriving DecidableEq, Repr

/-! ### Stage memory counts (R51) -/

/-- SMC's free count and holdings counts (R51). -/
structure Smc where
  free : Nat := 896
  held : Pair Nat := ⟨0, 0⟩
  deriving DecidableEq, Repr

/-! ### The catalogue store (chapter 11) -/

/-- A slot of the store (R188): erased, holding a copy's bytes, or left by a write that failed or was cut off, which is
neither a valid copy nor erased. -/
inductive Slot | erased | torn | holds (bytes : List Byte)
  deriving DecidableEq, Repr
/-- A block's newest valid copy (R188). -/
structure Newest where
  copy : Nat
  gen : Nat
  deriving DecidableEq, Repr
/-- A block write in flight (R189, R190). `retry` says that one retry is still due. -/
structure StoreWrite where
  block : Nat
  copy : Nat
  gen : Nat
  image : List Byte
  retry : Bool
  clear : Option ReqId
  deriving DecidableEq, Repr
/-- A flush pass (R191): the block it has reached, and the blocks that failed in it. -/
structure Pass where
  cursor : Nat := 0
  failed : List Nat := []
  deriving DecidableEq, Repr
/-- A copy as start-up found it (R193). -/
inductive CopyRead | valid (gen : Nat) (body : List Byte) | erased | bad
  deriving DecidableEq, Repr
/-- How far the start-up reads have come (R193). -/
structure ReadPos where
  block : Nat
  first : Option CopyRead
  deriving DecidableEq, Repr
/-- What CST owns (R188 to R195). Slot 2b + c holds copy c of block b. -/
structure Store where
  slots : List Slot := List.replicate 42 .erased
  newest : List (Option Newest) := List.replicate 21 none
  dirty : List Bool := List.replicate 21 false
  write : Option StoreWrite := none
  fault : Bool := false
  pass : Option Pass := none
  read : Option ReadPos := none
  /-- The blocks start-up found bad (R193). -/
  bad : List Nat := []
  /-- The CLEAR_FAULT whose first block write is still to begin (R190). -/
  clear : Option ReqId := none
  deriving DecidableEq, Repr

/-! ### The line unit (chapter 10) -/

/-- One library line (R182, R183). -/
structure Line where
  raw : Level := .high
  level : Level := .high
  timer : Option Nat := none
  deriving DecidableEq, Repr

/-! ### The whole -/

/-- Where the controller stands between power-on or a RESET request and normal running (R193 to R195). -/
inductive Phase | reading | loaded | running | resetting
  deriving DecidableEq, Repr

/-- A message the controller sent on a link. -/
inductive LinkMsg
  | drive (c : Chan) (num : Nat) (cmd : DriveCmd)
  | move (tag : Nat) (src dst : Place)
  | scan (tag : Nat) (p : Place)
  | changerStatus (tag : Nat)
  | halt
  | storeRead (block copy : Nat)
  | storeWrite (block copy : Nat) (image : List Byte)
  deriving DecidableEq, Repr

/-- What follows inside a step from what it has already done (log entry 4): the tests the rules make again at each event
that can change their outcome. -/
inductive Todo
  | transmit (p : Port)
  | creditRetry (p : Port)
  | flush
  | grantRule
  | zeroWait (handle : Nat)
  | bring (c : Chan)
  | command (c : Chan)
  | pages
  | askPage (c : Chan)
  | encoder (c : Chan)
  | decoder (c : Chan)
  | build (c : Chan)
  | readHead (c : Chan)
  | deliver (c : Chan)
  | select
  | selectOn (c : Chan)
  | poolsApply
  | orders
  | send
  | offers
  | feedScan
  | offerUnload (c : Chan)
  | offerImport (m : Fin 2)
  | freshImport (m : Fin 2) (i : CartIx)
  | inventoryEnd
  | changerStatus
  deriving DecidableEq, Repr

/-- The device: every block's state. -/
structure Dev where
  phase : Phase := .reading
  cat : Catalogue := {}
  cfg : Settings := {}
  cst : Store := {}
  smc : Smc := {}
  ch : Pair Channel := ⟨{}, {}⟩
  waitList : List WaitEntry := []
  nextHandle : Nat := 1
  mqu : Mover := {}
  /-- L0 to L3 (R182). -/
  lines : List Line := [{}, {}, {}, {}]
  doorOpen : Bool := false
  pa : PortUnit := {}
  pb : PortUnit := {}
  pp : PortUnit := {}
  /-- The RESET request whose answer start-up gives (R195). -/
  resetReq : Option ReqId := none
  /-- The model's own: what is still to follow in this step (empty between steps), the messages the last command made the
  controller send on its links, and the counter the free choices are taken from. -/
  todo : List Todo := []
  sent : List LinkMsg := []
  races : Nat := 0
  deriving DecidableEq, Repr

/-- The machine: the device, and the commands that wait, first in, first out. -/
structure State where
  pending : List Instr
  dev : Dev
  deriving DecidableEq, Repr

/-- No command of this block ends in a fault: the manual gives every command of its table an effect or discards it. -/
inductive Fault
  deriving DecidableEq, Repr

/-- Why a command is refused. -/
inductive Refusal
  /-- Raised by an arm of `exec` whose command has no meaning yet; safe. No arm raises it. -/
  | notModelled (mnemonic : String)
  deriving DecidableEq, Repr

/-- The machine right after power-on with an erased store (R193): every block clear, the lines high, both client links
present, and the read of the first copy of block 0 sent. -/
def State.reset : State :=
  { pending := [], dev := { cst := { read := some ⟨0, none⟩ }, sent := [.storeRead 0 0] } }

end Sys2Proof.Machine
end

