-- ==== Sys2Proof/Machine/Formats.lean ====
section
/-! DEFINITION. The byte layouts of chapter 12: field encodings (R196), frames (R197), tape records, trailers and index
entries (R198), and store copies (R199). A parser takes bytes and answers what it read with the bytes left over. -/

namespace Sys2Proof.Machine

/-! ### Numbers and fields (R196) -/

/-- A number written in `k` bytes, least significant first. -/
def leBytes : Nat → Nat → List Byte
  | 0, _ => []
  | k + 1, n => byte n :: leBytes k (n / 256)

/-- The number that bytes give, least significant first. -/
def leNat : List Byte → Nat
  | [] => 0
  | b :: bs => b.toNat + 256 * leNat bs

/-- Takes exactly `k` bytes. -/
def takeBytes (k : Nat) (bs : List Byte) : Option (List Byte × List Byte) :=
  if bs.length < k then none else some (bs.take k, bs.drop k)

/-- Takes a number of `k` bytes. -/
def takeNum (k : Nat) (bs : List Byte) : Option (Nat × List Byte) :=
  if bs.length < k then none else some (leNat (bs.take k), bs.drop k)

/-- Takes a number of `k` bytes that must be below `n`. -/
def takeBelow (k n : Nat) (bs : List Byte) : Option (Nat × List Byte) :=
  match takeNum k bs with
  | some (v, r) => if v < n then some (v, r) else none
  | none => none

/-- A truth value in one byte, 1 for yes, set or in fault: R196 gives truth values no code (DESIGN CHOICE, log entry 80). -/
def boolByte (b : Bool) : List Byte := [if b then 1 else 0]

/-- Pad bytes are written 0 (R196). -/
def padTo (n : Nat) (bs : List Byte) : List Byte := bs ++ List.replicate (n - bs.length) 0

/-- An optional field: a presence byte, then the field, zero-filled to its width when absent (R196). -/
def optBytes (width : Nat) : Option (List Byte) → List Byte
  | none => 0 :: List.replicate width 0
  | some bs => 1 :: bs

/-- Takes an optional number of `k` bytes; a presence byte neither 0 nor 1 fails (R197), and the fill of an absent one may be any bytes
(DESIGN CHOICE, log entry 72). -/
def takeOptNum (k : Nat) (bs : List Byte) : Option (Option Nat × List Byte) :=
  match takeBelow 1 2 bs with
  | some (p, r) =>
    match takeNum k r with
    | some (v, r) => some (if p = 1 then some v else none, r)
    | none => none
  | none => none

/-- A character a label may hold: A to Z or 0 to 9 (R3). -/
def labelChar (b : Byte) : Bool := (65 ≤ b.toNat && b.toNat ≤ 90) || (48 ≤ b.toNat && b.toNat ≤ 57)

/-- A label's text: 6 to 8 characters from A–Z and 0–9 (R3, R97). -/
def labelOk (l : List Byte) : Bool := (6 ≤ l.length && l.length ≤ 8) && l.all labelChar

/-- A label in 8 bytes, padded with 0x00; an absent label is eight 0x00 (R196). -/
def labelBytes : Option Label → List Byte
  | none => List.replicate 8 0
  | some l => padTo 8 l

/-- Takes a label field: absent, or a label that R197 allows. -/
def takeLabel (bs : List Byte) : Option (Option Label × List Byte) :=
  match takeBytes 8 bs with
  | none => none
  | some (f, r) =>
    if f.all (· = 0) then some (none, r)
    else
      let l := f.takeWhile (· ≠ 0)
      if labelOk l && (f.drop l.length).all (· = 0) then some (some l, r) else none

/-- A tag: a length byte, then that many bytes (R196). -/
def tagBytes (t : List Byte) : List Byte := byte t.length :: t

/-! ### Codes (R196) -/

/-- A place's code (R196). -/
def placeCode : Place → Nat
  | .slot n => n.val
  | .mail m => 24 + m.val
  | .drive .ch0 => 26
  | .drive .ch1 => 27

/-- The place a code names. -/
def placeOfCode (n : Nat) : Option Place :=
  if h : n < 24 then some (.slot ⟨n, h⟩)
  else if h : n - 24 < 2 then some (.mail ⟨n - 24, h⟩)
  else if n = 26 then some (.drive .ch0)
  else if n = 27 then some (.drive .ch1)
  else none

/-- A location's code; ABSENT is 0xFF. -/
def locCode : Option Place → Nat
  | none => 255
  | some p => placeCode p

/-- A handle, or an absent one, as an optional one-byte field. -/
def optHandle (h : Option Nat) : List Byte := optBytes 1 (h.map (leBytes 1))

def CartState.code : CartState → Nat
  | .scratch => 0 | .active => 1 | .full => 2 | .foreign => 3
def CartState.ofCode : Nat → CartState
  | 0 => .scratch | 1 => .active | 2 => .full | _ => .foreign
def PoolKind.code : PoolKind → Nat
  | .rotation => 0 | .retained => 1
def PoolKind.ofCode : Nat → Option PoolKind
  | 0 => some .rotation | 1 => some .retained | _ => none
def PoolOwner.code : PoolOwner → Nat
  | .a => 0 | .b => 1 | .shared => 2
def PoolOwner.ofCode : Nat → Option PoolOwner
  | 0 => some .a | 1 => some .b | 2 => some .shared | _ => none
def SetState.code : SetState → Nat
  | .opened => 0 | .closed => 1 | .aborted => 2 | .expired => 3 | .recovered => 4
def SetState.ofCode : Nat → SetState
  | 0 => .opened | 1 => .closed | 2 => .aborted | 3 => .expired | _ => .recovered
def VerifyResult.code : VerifyResult → Nat
  | .unverified => 0 | .passed => 1 | .passedNoDigest => 2 | .failed => 3 | .incomplete => 4
def VerifyResult.ofCode : Nat → VerifyResult
  | 0 => .unverified | 1 => .passed | 2 => .passedNoDigest | 3 => .failed | _ => .incomplete
def Cause.code : Cause → Nat
  | .readFault => 0 | .headerFault => 1 | .sequenceFault => 2 | .decodeFault => 3 | .crcFault => 4
  | .trailerMismatch => 5 | .digestMismatch => 6 | .indexMismatch => 7
def Cause.ofCode : Nat → Cause
  | 0 => .readFault | 1 => .headerFault | 2 => .sequenceFault | 3 => .decodeFault | 4 => .crcFault
  | 5 => .trailerMismatch | 6 => .digestMismatch | _ => .indexMismatch
def LineFn.code : LineFn → Nat
  | .none => 0 | .door => 1 | .powerFail => 2 | .mailRequest => 3 | .stop => 4
def LineFn.ofCode : Nat → Option LineFn
  | 0 => some .none | 1 => some .door | 2 => some .powerFail | 3 => some .mailRequest | 4 => some .stop | _ => none
def Level.code : Level → Nat
  | .high => 0 | .low => 1
def ChangerState.code : ChangerState → Nat
  | .unknown => 0 | .ready => 1 | .fault => 2
/-- The drive states of R74 in its order; the state before the start-up STATUS is answered takes the next code. -/
def DriveState.code : DriveState → Nat
  | .absent => 0 | .empty => 1 | .inserting => 2 | .ready => 3 | .ejecting => 4 | .fault => 5 | .unknown => 6
def FileOutcome.code : FileOutcome → Nat
  | .pending => 0 | .ok => 1 | .damaged => 2 | .notInSet => 3 | .indexDamaged => 4
def portCode : Port → Nat
  | .A => 0 | .B => 1 | .P => 2
/-- R173, R197: OK is 0 and FRAME_ERROR is 21. -/
def Status.code : Status → Nat
  | .ok => 0 | .busy => 1 | .badRequest => 2 | .badState => 3 | .notOwner => 4 | .noSet => 5 | .setInUse => 6 | .setOpen => 7
  | .setIncomplete => 8 | .setFull => 9 | .noCartridge => 10 | .retained => 11 | .catalogueFull => 12 | .noCredit => 13
  | .timeout => 14 | .mediaProtected => 15 | .indexMissing => 16 | .notWaiting => 17 | .held => 18 | .fault => 19
  | .aborted => 20 | .frameError => 21
/-- R197. -/
def Reason.code : Reason → Nat
  | .closed => 0 | .verified => 1 | .restored => 2 | .rebuilt => 3 | .damaged => 4 | .catalogueFull => 5
  | .abortedByClient => 6 | .linkLost => 7 | .spanLimit => 8 | .mediaTimeout => 9 | .writeFault => 10 | .driveFault => 11
  | .reset => 12
/-- R177, R197. -/
def FaultUnit.code : FaultUnit → Nat
  | .drive .ch0 => 0 | .drive .ch1 => 1 | .changer => 2 | .store => 3
/-- R197: the kind byte of a request, 1 to 30 in the order of the table of section 9.2. -/
def ReqKind.code : ReqKind → Nat
  | .inquire => 1 | .cartridgeList => 2 | .setList => 3 | .setStatus => 4 | .sessionStatus => 5 | .openBackup => 6
  | .fileBegin => 7 | .data => 8 | .fileEnd => 9 | .closeSet => 10 | .abort => 11 | .cancel => 12 | .openVerify => 13
  | .openRestore => 14 | .grant => 15 | .recycle => 16 | .importCarts => 17 | .exportCart => 18 | .relocate => 19
  | .inventory => 20 | .erase => 21 | .rebuild => 22 | .pools => 23 | .lockPool => 24 | .day => 25 | .config => 26
  | .noticeMask => 27 | .stopResume => 28 | .clearFault => 29 | .reset => 30

/-! ### Flag bytes -/

/-- A byte with the given bits, bit 0 first. -/
def bitsNat : List Bool → Nat
  | [] => 0
  | b :: bs => (if b then 1 else 0) + 2 * bitsNat bs

/-- The low `k` bits of a number, bit 0 first. -/
def natBits : Nat → Nat → List Bool
  | 0, _ => []
  | k + 1, n => (n % 2 = 1) :: natBits k (n / 2)

/-! ### Frames out (R197) -/

/-- The kind of a notice: 128 to 139 in the order of R177. -/
def Notice.index : Notice → Nat
  | .credit .. => 0 | .sessionEnded .. => 1 | .spanned .. => 2 | .mediaNeeded .. => 3 | .verifyDone .. => 4 | .door .. => 5
  | .inventoryDone .. => 6 | .fault .. => 7 | .powerHold => 8 | .poolsApplied => 9 | .catalogueDegraded .. => 10
  | .tableFull .. => 11

/-- A failure locator's fields (R199). -/
def failLocBytes (l : FailLoc) : List Byte := leBytes 1 l.ordinal ++ leBytes 4 l.record ++ leBytes 1 l.cause.code

/-- The counts of SESSION_ENDED by the widths of R196: a set number and a number of entries take two bytes, a count of files, which is
at most 32, one, and a count of groups known or dropped or of records four (log entry 9). -/
def EndCounts.bytes : EndCounts → List Byte
  | .none => []
  | .restored n a b c d => leBytes 2 n ++ leBytes 1 a ++ leBytes 1 b ++ leBytes 1 c ++ leBytes 1 d
  | .rebuilt e m k d s => leBytes 2 e ++ leBytes 2 m ++ leBytes 4 k ++ leBytes 4 d ++ leBytes 4 s

/-- What R75 has a drive's FAULT notice report, after its unit (log entry 37). -/
def DriveReport.bytes (r : DriveReport) : List Byte := leBytes 1 r.state.code ++ optHandle r.claim ++ labelBytes r.label

/-- A notice's payload: the fields of R177, in its order. MEDIA_NEEDED for a cartridge with no label carries an absent label and
then the index of its entry (log entry 9). -/
def Notice.payload : Notice → List Byte
  | .credit h n r => leBytes 1 h ++ leBytes 1 n ++ boolByte r
  | .sessionEnded h r s cs =>
    leBytes 1 h ++ leBytes 1 r.code ++ optBytes 1 (s.map fun x => leBytes 1 x.code) ++ cs.bytes
  | .spanned n o l => leBytes 2 n ++ leBytes 1 o ++ labelBytes l
  | .mediaNeeded h (.pool k) _ => leBytes 1 h ++ leBytes 1 k
  | .mediaNeeded h (.cart _) (some l) => leBytes 1 h ++ labelBytes (some l)
  | .mediaNeeded h (.cart i) none => leBytes 1 h ++ labelBytes none ++ leBytes 1 i.val
  | .verifyDone n r s h l => leBytes 2 n ++ leBytes 1 r.code ++ leBytes 2 s ++ leBytes 2 h ++ optBytes 6 (l.map failLocBytes)
  | .door o => [if o then 0 else 1]
  | .inventoryDone m r => leBytes 1 m ++ leBytes 1 r
  | .fault u r => leBytes 1 u.code ++ (r.map DriveReport.bytes).getD []
  | .powerHold => []
  | .poolsApplied => []
  | .catalogueDegraded bs => leBytes 1 bs.length ++ bs.flatMap (leBytes 1)
  | .tableFull p => leBytes 1 (placeCode p)

/-- A delivery frame's payload (R159). A file's raw length and the bytes delivered take 8 bytes, the width of R198's index entry (DESIGN
CHOICE, log entry 9). -/
def Delivery.payload : Delivery → List Byte
  | .head f t n _ => leBytes 2 f ++ tagBytes t ++ leBytes 8 n
  | .data bs => bs
  | .done f o n c => leBytes 2 f ++ leBytes 1 o.code ++ leBytes 8 n ++ boolByte c

/-- The bytes of a frame but its CRC-16 (R197). -/
def frameBody (kind tag handle flags : Nat) (payload : List Byte) : List Byte :=
  [byte kind, byte tag, byte handle, byte flags] ++ leBytes 2 payload.length ++ payload

/-- A frame's bytes (R197): the CRC-16 covers everything before it. -/
def frameBytes (kind tag handle flags : Nat) (payload : List Byte) : List Byte :=
  let b := frameBody kind tag handle flags payload
  b ++ crc16Bytes (crc16 b)

/-- The bytes a port sends for a frame (R197): responses are kind 64, notices 128 + n, delivery frames 192 to 194. A notice carries tag 0
and handle 0, a delivery frame tag 0 and the session's handle (DESIGN CHOICE, log entry 60). -/
def OutFrame.bytes : OutFrame → List Byte
  | .answer _ t h s r => frameBytes 64 t h 0 (byte s.code :: r)
  | .overflow t h => frameBytes 64 t h 0 [byte Status.busy.code]
  | .frameError => frameBytes 64 0 0 0 [byte Status.frameError.code]
  | .notice n => frameBytes (128 + n.index) 0 0 (match n with | .credit _ _ true => 1 | _ => 0) n.payload
  | .delivery h _ f =>
    match f with
    | .head _ _ _ r => frameBytes 192 0 h (if r then 1 else 0) f.payload
    | .data _ => frameBytes 193 0 h 0 f.payload
    | .done .. => frameBytes 194 0 h 0 f.payload

/-! ### Tape records (R198) -/

def RecKind.code : RecKind → Nat
  | .data => 1 | .index => 2 | .close => 3 | .span => 4 | .abort => 5

def RecKind.ofCode : Nat → Option RecKind
  | 1 => some .data | 2 => some .index | 3 => some .close | 4 => some .span | 5 => some .abort | _ => none

/-- The first 30 bytes of a record's header (R198). -/
def headerBody (r : Record) : List Byte :=
  leBytes 1 r.kind.code ++ boolByte r.shrunk ++ leBytes 1 r.ordinal ++ [0] ++ leBytes 4 r.rawLength
    ++ leBytes 4 r.payload.length ++ crc32Bytes r.rawCrc ++ leBytes 2 r.tape ++ leBytes 4 r.seq ++ List.replicate 8 0

/-- A record as it is written: the 32-byte header with its header check, then the payload (R32, R198). -/
def recordBytes (r : Record) : List Byte := headerBody r ++ crc16Bytes (crc16 (headerBody r)) ++ r.payload

/-- A record's stored size: 32 bytes plus its payload length (R60). -/
def Record.stored (r : Record) : Nat := 32 + r.payload.length

/-- A header as it was read from tape (R198). `check` says that the header check is correct. -/
structure Header where
  kind : Option RecKind
  coding : Nat
  ordinal : Nat
  rawLength : Nat
  payloadLength : Nat
  rawCrc : BitVec 32
  tape : Nat
  seq : Nat
  check : Bool
  deriving DecidableEq, Repr

/-- A field of `k` bytes at an offset; bytes that are not there count as 0. -/
def fieldAt (bs : List Byte) (off k : Nat) : Nat := leNat ((bs.drop off).take k)

/-- The header of what a READ returned (R198). -/
def readHeader (bs : List Byte) : Header :=
  { kind := RecKind.ofCode (fieldAt bs 0 1), coding := fieldAt bs 1 1, ordinal := fieldAt bs 2 1
    rawLength := fieldAt bs 4 4, payloadLength := fieldAt bs 8 4, rawCrc := BitVec.ofNat 32 (fieldAt bs 12 4)
    tape := fieldAt bs 16 2, seq := fieldAt bs 18 4
    check := 32 ≤ bs.length && (bs.drop 30).take 2 == crc16Bytes (crc16 (bs.take 30)) }

/-- The payload of what a READ returned. -/
def readPayload (bs : List Byte) : List Byte := bs.drop 32

/-- The payload of a CLOSE trailer (R198). -/
def closeTrailerBytes (t : CloseTrailer) : List Byte :=
  leBytes 4 t.dataCount ++ List.replicate 8 0 ++ leBytes 1 t.ordinal ++ leBytes 1 t.digestMark ++ leBytes 2 t.fileCount
    ++ leBytes 4 t.indexCount ++ leBytes 4 t.indexPos ++ crc32Bytes t.digest ++ leBytes 8 t.stored ++ leBytes 8 t.raw
    ++ List.replicate 20 0

/-- A CLOSE trailer as it was read (R198). -/
def readCloseTrailer (p : List Byte) : CloseTrailer :=
  { dataCount := fieldAt p 0 4, ordinal := fieldAt p 12 1, digestMark := fieldAt p 13 1, fileCount := fieldAt p 14 2
    indexCount := fieldAt p 16 4, indexPos := fieldAt p 20 4, digest := BitVec.ofNat 32 (fieldAt p 24 4)
    stored := fieldAt p 28 8, raw := fieldAt p 36 8 }

/-- The payload of a SPAN trailer (R198): the segment's DATA record count and first sequence, the first sequence not yet
written, and the segment's ordinal. -/
def spanTrailerBytes (count first next ordinal : Nat) : List Byte :=
  leBytes 4 count ++ leBytes 4 first ++ leBytes 4 next ++ leBytes 1 ordinal ++ List.replicate 51 0

/-- The payload of an ABORT trailer (R198). -/
def abortTrailerBytes (count ordinal : Nat) : List Byte :=
  leBytes 4 count ++ List.replicate 8 0 ++ leBytes 1 ordinal ++ List.replicate 51 0

/-- An index entry packed (R198). -/
def entryBytes (e : IndexEntry) : List Byte :=
  leBytes 2 e.file ++ leBytes 4 e.startSeq ++ leBytes 2 e.startOff ++ leBytes 8 e.length ++ crc32Bytes e.crc ++ tagBytes e.tag

/-- An entry's encoded length, 21 + t (R198). -/
def IndexEntry.size (e : IndexEntry) : Nat := 21 + e.tag.length

/-- R129: as many entries as fit in one INDEX raw block of at most `room` bytes. -/
def packEntries : Nat → List IndexEntry → List IndexEntry
  | _, [] => []
  | room, e :: es => if e.size ≤ room then e :: packEntries (room - e.size) es else []

/-- One packed entry, read whole within its block (R198). -/
def takeEntry (bs : List Byte) : Option (IndexEntry × List Byte) :=
  if bs.length < 21 then none
  else
    let t := fieldAt bs 20 1
    let f := fieldAt bs 0 2
    if 64 < t ∨ bs.length < 21 + t ∨ f = 0 ∨ 2048 < f then none
    else
      some ({ file := f, startSeq := fieldAt bs 2 4, startOff := fieldAt bs 6 2, length := fieldAt bs 8 8
              crc := BitVec.ofNat 32 (fieldAt bs 16 4), tag := (bs.drop 21).take t }, bs.drop (21 + t))

/-- R147, R198: adds a decoded INDEX block's entries to an index area in the order they stand, until one breaks a condition
of R147; the second part says that none did. `fuel` bounds the number of entries by the block's length. -/
def unpackEntries : Nat → List Byte → List IndexEntry → List IndexEntry × Bool
  | 0, bs, area => (area, bs.isEmpty)
  | fuel + 1, bs, area =>
    if bs.isEmpty then (area, true)
    else
      match takeEntry bs with
      | none => (area, false)
      | some (e, rest) =>
        if area.length < 2048 && area.all (fun x => x.file < e.file) then unpackEntries fuel rest (area ++ [e])
        else (area, false)

/-! ### Store copies (R199) -/

/-- A segment slot of 14 bytes (R199). -/
def segmentBytes (s : Segment) : List Byte :=
  leBytes 1 s.ordinal ++ leBytes 1 s.cart.val ++ leBytes 4 s.firstPos ++ leBytes 4 s.firstSeq ++ leBytes 4 s.count

/-- A locator's fields. -/
def locatorBytes (l : Locator) : List Byte := leBytes 1 l.cart.val ++ leBytes 4 l.pos ++ leBytes 4 l.count

/-- A cartridge entry's fields as the store and CARTRIDGE_LIST give them (R199, R3), the claim left out. -/
def cartFields (c : Cart) : List Byte :=
  labelBytes c.label ++ leBytes 1 c.state.code ++ leBytes 1 (bitsNat [c.suspect, c.writeProt, c.retired])
    ++ leBytes 1 (locCode c.location) ++ leBytes 1 ((c.home.map Fin.val).getD 255) ++ leBytes 1 c.pool
    ++ leBytes 2 c.loads ++ leBytes 2 c.stops ++ optBytes 4 (c.capacity.map (leBytes 4)) ++ leBytes 8 c.written
    ++ leBytes 4 c.endPos ++ leBytes 2 c.live

/-- A cartridge entry in 48 bytes (R199). -/
def cartEntryBytes : Option Cart → List Byte
  | none => List.replicate 48 0
  | some c => padTo 48 (1 :: cartFields c)

/-- A set entry in 128 bytes (R199). -/
def setEntryBytes : SetEntry → List Byte
  | .free => List.replicate 128 0
  | .lost => padTo 128 [1]
  | .holds x => padTo 128 ([2] ++ leBytes 2 x.number ++ leBytes 2 x.tape ++ leBytes 1 x.state.code ++ boolByte x.ownerB
      ++ leBytes 1 x.pool ++ leBytes 2 x.expiry ++ leBytes 2 x.writeDay
      ++ leBytes 1 (bitsNat [x.digestOff, x.noSpanMark, x.renumbered, x.indexMissing])
      ++ leBytes 1 x.segments.length ++ padTo 56 (x.segments.flatMap segmentBytes)
      ++ leBytes 4 x.dataCount ++ optBytes 9 (x.locator.map locatorBytes)
      ++ leBytes 2 x.fileCount ++ leBytes 8 x.rawBytes ++ leBytes 8 x.storedBytes
      ++ optBytes 4 (x.digest.map crc32Bytes) ++ leBytes 1 x.verify.result.code ++ leBytes 2 x.verify.soft
      ++ leBytes 2 x.verify.hard ++ optBytes 6 (x.verify.locator.map failLocBytes) ++ optBytes 2 (x.verify.day.map (leBytes 2)))

/-- One pool's kind, owner and lock (R199). -/
def poolBytes (p : Pool) : List Byte := leBytes 1 p.kind.code ++ leBytes 1 p.owner.code ++ boolByte p.lock

/-- A pool map: four boundaries, then three bytes per pool (R199). -/
def mapBytes (m : PoolMap) : List Byte :=
  leBytes 1 m.b1 ++ leBytes 1 m.b2 ++ leBytes 1 m.b3 ++ leBytes 1 m.b4 ++ m.pools.flatMap poolBytes

/-- Block 0's items (R188, R199), padded to the body's 2,048 bytes. -/
def block0Body (cat : Catalogue) (g : Settings) : List Byte :=
  padTo 2048 (mapBytes cat.live ++ optBytes 19 (cat.staged.map mapBytes) ++ leBytes 2 cat.day ++ leBytes 2 cat.nextSet
    ++ leBytes 2 g.retireLimit ++ leBytes 2 g.openWait ++ leBytes 2 g.idleUnload ++ leBytes 1 (g.settle / 10)
    ++ leBytes 2 g.watermark ++ leBytes 1 g.readAhead ++ leBytes 2 g.spanReserve ++ g.fns.flatMap (fun f => leBytes 1 f.code)
    ++ leBytes 2 (bitsNat g.maskA) ++ leBytes 2 (bitsNat g.maskB) ++ leBytes 2 (bitsNat g.maskP))

/-- The body of a block as it stands now (R188): settings, 16 cartridge entries, or 16 set entries. -/
def blockBody (cat : Catalogue) (g : Settings) (b : Nat) : List Byte :=
  if b = 0 then block0Body cat g
  else if b ≤ 4 then padTo 2048 (((cat.carts.drop (16 * (b - 1))).take 16).flatMap cartEntryBytes)
  else padTo 2048 (((cat.sets.drop (16 * (b - 5))).take 16).flatMap setEntryBytes)

/-- A copy of 2,054 bytes (R199). -/
def copyBytes (block gen : Nat) (body : List Byte) : List Byte :=
  let h := leBytes 1 block ++ [0] ++ leBytes 2 gen ++ body
  h ++ crc16Bytes (crc16 h)

/-- What the bytes of a slot are for a block (R188, R193). -/
def readCopy (block : Nat) (bs : List Byte) : CopyRead :=
  if bs.length = 2054 && bs.all (· = 0xFF) then .erased
  else if bs.length = 2054 && (bs.drop 2052 == crc16Bytes (crc16 (bs.take 2052))) && fieldAt bs 0 1 = block then
    .valid (fieldAt bs 2 2) ((bs.drop 4).take 2048)
  else .bad

/-! ### Reading store bodies back; a value outside its range fails (R199) -/

/-- Takes an optional field whose content another parser takes when it is present. When it is not, its fill is skipped unread (R196; DESIGN
CHOICE, log entry 72). -/
def takeOpt {α : Type} (width : Nat) (f : List Byte → Option (α × List Byte)) (bs : List Byte) :
    Option (Option α × List Byte) :=
  match takeBelow 1 2 bs with
  | none => none
  | some (p, r) =>
    if p = 1 then (f r).map fun (x, r) => (some x, r) else (takeBytes width r).map fun (_, r) => (none, r)

def takeCartIx (bs : List Byte) : Option (CartIx × List Byte) :=
  match takeNum 1 bs with
  | some (v, r) => if h : v < 64 then some (⟨v, h⟩, r) else none
  | none => none

def takeCrc32 (bs : List Byte) : Option (BitVec 32 × List Byte) :=
  (takeNum 4 bs).map fun (v, r) => (BitVec.ofNat 32 v, r)

/-- Takes `n` things alike. -/
def takeMany {α : Type} (f : List Byte → Option (α × List Byte)) : Nat → List Byte → Option (List α × List Byte)
  | 0, bs => some ([], bs)
  | n + 1, bs =>
    match f bs with
    | none => none
    | some (x, r) => (takeMany f n r).map fun (xs, r) => (x :: xs, r)

def takeLocation (bs : List Byte) : Option (Option Place × List Byte) :=
  match takeNum 1 bs with
  | none => none
  | some (v, r) => if v = 255 then some (none, r) else (placeOfCode v).map fun p => (some p, r)

def takeHome (bs : List Byte) : Option (Option (Fin 24) × List Byte) :=
  match takeNum 1 bs with
  | none => none
  | some (v, r) => if v = 255 then some (none, r) else if h : v < 24 then some (some ⟨v, h⟩, r) else none

/-- A registered cartridge entry's fields, read back. -/
def takeCart (bs : List Byte) : Option Cart := do
  let (label, r) ← takeLabel bs
  let (st, r) ← takeBelow 1 4 r
  let (fl, r) ← takeBelow 1 8 r
  let (loc, r) ← takeLocation r
  let (home, r) ← takeHome r
  let (pool, r) ← takeBelow 1 5 r
  let (loads, r) ← takeNum 2 r
  let (stops, r) ← takeNum 2 r
  let (cap, r) ← takeOpt 4 (takeNum 4) r
  let (written, r) ← takeNum 8 r
  let (endPos, r) ← takeNum 4 r
  let (live, _) ← takeBelow 2 257 r
  let f := natBits 3 fl
  return { label := label, state := CartState.ofCode st, suspect := f.getD 0 false, writeProt := f.getD 1 false
           retired := f.getD 2 false, location := loc, home := home, pool := pool, loads := loads, stops := stops
           capacity := cap, written := written, endPos := endPos, live := live }

/-- One cartridge entry of 48 bytes, read back; what follows the condition byte of a free one is skipped unread (DESIGN CHOICE, log entry
81). -/
def readCartEntry (bs : List Byte) : Option (Option Cart) :=
  match fieldAt bs 0 1 with
  | 0 => some none
  | 1 => (takeCart (bs.drop 1)).map some
  | _ => none

def takeSegment (bs : List Byte) : Option (Segment × List Byte) := do
  let (o, r) ← takeBelow 1 5 bs
  if o = 0 then none
  let (c, r) ← takeCartIx r
  let (p, r) ← takeNum 4 r
  let (s, r) ← takeNum 4 r
  let (n, r) ← takeNum 4 r
  return (⟨o, c, p, s, n⟩, r)

def takeLocator (bs : List Byte) : Option (Locator × List Byte) := do
  let (c, r) ← takeCartIx bs
  let (p, r) ← takeNum 4 r
  let (n, r) ← takeNum 4 r
  return (⟨c, p, n⟩, r)

def takeFailLoc (bs : List Byte) : Option (FailLoc × List Byte) := do
  let (o, r) ← takeBelow 1 5 bs
  if o = 0 then none
  let (n, r) ← takeNum 4 r
  let (c, r) ← takeBelow 1 8 r
  return (⟨o, n, Cause.ofCode c⟩, r)

/-- A set's fields, read back, each in its own range: relations between fields are not tested (DESIGN CHOICE, log entry 82), and segment
slots beyond the count are skipped unread (DESIGN CHOICE, log entry 81). -/
def takeSet (bs : List Byte) : Option BackupSet := do
  let (number, r) ← takeNum 2 bs
  let (tape, r) ← takeNum 2 r
  if number = 0 ∨ tape = 0 then none
  let (st, r) ← takeBelow 1 5 r
  let (ow, r) ← takeBelow 1 2 r
  let (pool, r) ← takeBelow 1 5 r
  let (expiry, r) ← takeNum 2 r
  let (writeDay, r) ← takeNum 2 r
  let (fl, r) ← takeBelow 1 16 r
  let (nseg, r) ← takeBelow 1 5 r
  if nseg = 0 then none
  let (slots, r) ← takeBytes 56 r
  let (segs, _) ← takeMany takeSegment nseg slots
  let (dataCount, r) ← takeNum 4 r
  let (locator, r) ← takeOpt 9 takeLocator r
  let (files, r) ← takeBelow 2 2049 r
  let (raw, r) ← takeNum 8 r
  let (stored, r) ← takeNum 8 r
  let (digest, r) ← takeOpt 4 takeCrc32 r
  let (res, r) ← takeBelow 1 5 r
  let (soft, r) ← takeNum 2 r
  let (hard, r) ← takeNum 2 r
  let (floc, r) ← takeOpt 6 takeFailLoc r
  let (day, _) ← takeOpt 2 (takeNum 2) r
  let f := natBits 4 fl
  return { number := number, tape := tape, state := SetState.ofCode st, ownerB := ow = 1, pool := pool, expiry := expiry
           writeDay := writeDay, digestOff := f.getD 0 false, noSpanMark := f.getD 1 false, renumbered := f.getD 2 false
           indexMissing := f.getD 3 false, segments := segs, dataCount := dataCount, locator := locator, fileCount := files
           rawBytes := raw, storedBytes := stored, digest := digest
           verify := { result := VerifyResult.ofCode res, soft := soft, hard := hard, locator := floc, day := day } }

/-- One set entry of 128 bytes, read back; what follows the condition byte of a free or LOST one is skipped unread (DESIGN CHOICE, log
entry 81). -/
def readSetEntry (bs : List Byte) : Option SetEntry :=
  match fieldAt bs 0 1 with
  | 0 => some .free
  | 1 => some .lost
  | 2 => (takeSet (bs.drop 1)).map .holds
  | _ => none

/-- Takes one entry of `k` bytes. -/
def takeEntryOf {α : Type} (k : Nat) (f : List Byte → Option α) (bs : List Byte) : Option (α × List Byte) :=
  match takeBytes k bs with
  | none => none
  | some (e, r) => (f e).map fun x => (x, r)

/-- The 16 entries of a cartridge block's body. -/
def readCartBody (body : List Byte) : Option (List (Option Cart)) :=
  (takeMany (takeEntryOf 48 readCartEntry) 16 body).map Prod.fst

/-- The 16 entries of a set block's body. -/
def readSetBody (body : List Byte) : Option (List SetEntry) :=
  (takeMany (takeEntryOf 128 readSetEntry) 16 body).map Prod.fst

def takePool (bs : List Byte) : Option (Pool × List Byte) := do
  let (k, r) ← takeNum 1 bs
  let (o, r) ← takeNum 1 r
  let (l, r) ← takeBelow 1 2 r
  let kind ← PoolKind.ofCode k
  let owner ← PoolOwner.ofCode o
  return (⟨kind, owner, l = 1⟩, r)

/-- R12: the boundaries rise and none is above 24. -/
def boundsOk (b1 b2 b3 b4 : Nat) : Bool := b1 ≤ b2 && b2 ≤ b3 && b3 ≤ b4 && b4 ≤ 24

def takeMap (bs : List Byte) : Option (PoolMap × List Byte) := do
  let (b1, r) ← takeNum 1 bs
  let (b2, r) ← takeNum 1 r
  let (b3, r) ← takeNum 1 r
  let (b4, r) ← takeNum 1 r
  if boundsOk b1 b2 b3 b4 then
    let (ps, r) ← takeMany takePool 5 r
    return (⟨b1, b2, b3, b4, ps⟩, r)
  else none

def takeLineFn (bs : List Byte) : Option (LineFn × List Byte) :=
  match takeNum 1 bs with
  | none => none
  | some (v, r) => (LineFn.ofCode v).map fun f => (f, r)

/-- A notice mask of two bytes, bit n for kind 128 + n (R199). One with a bit above the twelve is outside its range (DESIGN CHOICE, log
entry 70). -/
def takeMask (bs : List Byte) : Option (List Bool × List Byte) :=
  (takeBelow 2 4096 bs).map fun (v, r) => (natBits 12 v, r)

/-- A number of `k` bytes in a range that includes both ends. -/
def takeIn (k lo hi : Nat) (bs : List Byte) : Option (Nat × List Byte) :=
  match takeNum k bs with
  | some (v, r) => if lo ≤ v ∧ v ≤ hi then some (v, r) else none
  | none => none

/-- What block 0 holds (R188). -/
structure Block0 where
  live : PoolMap
  staged : Option PoolMap
  day : Nat
  nextSet : Nat
  cfg : Settings
  deriving DecidableEq, Repr

/-- Block 0's body, read back. -/
def readBlock0 (body : List Byte) : Option Block0 := do
  let (live, r) ← takeMap body
  let (staged, r) ← takeOpt 19 takeMap r
  let (day, r) ← takeNum 2 r
  let (next, r) ← takeIn 2 1 65535 r
  let (retire, r) ← takeIn 2 1 65535 r
  let (ow, r) ← takeIn 2 0 3600 r
  let (iu, r) ← takeIn 2 0 3600 r
  let (st, r) ← takeNum 1 r
  let (wm, r) ← takeIn 2 4 256 r
  let (ra, r) ← takeIn 1 8 128 r
  let (sr, r) ← takeNum 2 r
  let (fns, r) ← takeMany takeLineFn 4 r
  let (ma, r) ← takeMask r
  let (mb, r) ← takeMask r
  let (mp, _) ← takeMask r
  return { live := live, staged := staged, day := day, nextSet := next
           cfg := { openWait := ow, idleUnload := iu, settle := 10 * st, watermark := wm, readAhead := ra
                    spanReserve := sr, retireLimit := retire, fns := fns, maskA := ma, maskB := mb, maskP := mp } }

end Sys2Proof.Machine
end

