-- ==== Sys2Proof/Machine/Shrink.lean ====
section
/-! DEFINITION. Shrink coding (chapter 2): the encoder's items, groups and choice of coding, and the decoder. -/

namespace Sys2Proof.Machine

/-! ### The encoder (R33 to R37) -/

/-- An item (section 2.2): a literal byte, or a match of `len` bytes starting `off` positions earlier. -/
inductive Item | lit (b : Byte) | mtch (off len : Nat)
  deriving DecidableEq, Repr

/-- How many bytes an item describes. -/
def Item.covers : Item → Nat
  | .lit _ => 1
  | .mtch _ l => l

/-- R33: the hash of three bytes. -/
def hash3 (a b c : Byte) : Nat := (16 * a.toNat + 4 * b.toNat + c.toNat) % 1024

/-- The entry of the hash table at a hash, if it is not empty (R33). -/
def hashGet : List HashEntry → Nat → Option Nat
  | [], _ => none
  | e :: t, h => if e.hash = h then some e.pos else if h < e.hash then none else hashGet t h

/-- Sets the entry at a hash (R35), keeping the list in rising order. -/
def hashSet : List HashEntry → Nat → Nat → List HashEntry
  | [], h, q => [⟨h, q⟩]
  | e :: t, h, q => if e.hash = h then ⟨h, q⟩ :: t else if h < e.hash then ⟨h, q⟩ :: e :: t else e :: hashSet t h q

/-- R34: the number of equal pairs found before the first that differs, at most `n`. -/
def equalPairs : Nat → List Byte → List Byte → Nat
  | n + 1, a :: as, b :: bs => if a = b then equalPairs n as bs + 1 else 0
  | _, _, _ => 0

/-- R34: the item chosen at position `p`, where `here` is the block from `p` on. -/
def chooseItem (block : List Byte) (table : List HashEntry) (p : Nat) (here : List Byte) : Item :=
  match here with
  | a :: b :: c :: _ =>
    match hashGet table (hash3 a b c) with
    | none => .lit a
    | some e =>
      if 4096 < p - e then .lit a
      else
        let l := equalPairs 18 (block.drop e) here
        if 3 ≤ l then .mtch (p - e) l else .lit a
  | a :: _ => .lit a
  | [] => .lit 0

/-- R35: the table after the `k` positions from `p` on are covered in ascending order. -/
def coverTable (table : List HashEntry) : Nat → Nat → List Byte → List HashEntry
  | k + 1, p, a :: b :: c :: rest => coverTable (hashSet table (hash3 a b c) p) k (p + 1) (b :: c :: rest)
  | _, _, _ => table

/-- The items from position `p` on, and the table at the end; `fuel` bounds the number of items by the bytes left. -/
def encodeFrom (block : List Byte) : Nat → List HashEntry → Nat → List Byte → List Item × List HashEntry
  | 0, t, _, _ => ([], t)
  | _ + 1, t, _, [] => ([], t)
  | fuel + 1, t, p, here@(_ :: _) =>
    let it := chooseItem block t p here
    let r := encodeFrom block fuel (coverTable t it.covers p here) (p + it.covers) (here.drop it.covers)
    (it :: r.1, r.2)

/-- R33 to R35: the items of a block, coded with an empty table. -/
def encodeItems (block : List Byte) : List Item := (encodeFrom block block.length [] 0 block).1

/-- R36: the bytes of one item. -/
def Item.bytes : Item → List Byte
  | .lit b => [b]
  | .mtch o l => [byte ((o - 1) % 256), byte (16 * ((o - 1) / 256) + (l - 3))]

/-- R36: the flag byte of a group, bit i set when item i is a match. -/
def groupFlags : List Item → Nat
  | [] => 0
  | .lit _ :: t => 2 * groupFlags t
  | .mtch _ _ :: t => 1 + 2 * groupFlags t

/-- R36: groups of up to eight items; `fuel` bounds the number of groups. -/
def packGroups : Nat → List Item → List Byte
  | 0, _ => []
  | _ + 1, [] => []
  | fuel + 1, items@(_ :: _) =>
    byte (groupFlags (items.take 8)) :: ((items.take 8).flatMap Item.bytes ++ packGroups fuel (items.drop 8))

/-- R36: the coded form of a block. -/
def codedForm (block : List Byte) : List Byte :=
  let items := encodeItems block
  packGroups items.length items

/-- R37: SHRUNK when the coded length is below the raw length; else STORED, the raw block itself. -/
def shrinkBlock (block : List Byte) : Bool × List Byte :=
  let c := codedForm block
  if c.length < block.length then (true, c) else (false, block)

/-! ### The decoder (R38 to R41) -/

/-- R39: copies `l` bytes one at a time from `o` positions back. The output is kept newest first. -/
def copyBack : Nat → Nat → List Byte → List Byte
  | 0, _, out => out
  | l + 1, o, out => copyBack l o (out.getD (o - 1) 0 :: out)

/-- The outcome of decoding the items of one group: done, more to do, or DECODE_FAULT, each with what has been produced. -/
inductive GroupOut | more (out : List Byte) (rest : List Byte) | done (out : List Byte) (rest : List Byte) | bad (out : List Byte)
  deriving DecidableEq, Repr

/-- R39, R40: the items of a group in flag-bit order, `k` of them still to read, for as long as produced is below `n`. -/
def decodeGroup (n : Nat) : Nat → Nat → List Byte → List Byte → GroupOut
  | 0, _, out, rest => if out.length < n then .more out rest else .done out rest
  | k + 1, flags, out, rest =>
    if n ≤ out.length then .done out rest
    else if flags % 2 = 0 then
      match rest with
      | [] => .bad out
      | b :: rest => decodeGroup n k (flags / 2) (b :: out) rest
    else
      match rest with
      | x :: y :: rest =>
        let o := x.toNat + 256 * (y.toNat / 16) + 1
        let l := y.toNat % 16 + 3
        if out.length < o then .bad out
        else if n < out.length + l then .bad out
        else decodeGroup n k (flags / 2) (copyBack l o out) rest
      | _ => .bad out

/-- R39, R40: the groups of a SHRUNK payload: what they leave, and whether the result is OK; `fuel` bounds their number by the
payload's length. -/
def decodeGroups (n : Nat) : Nat → List Byte → List Byte → List Byte × Bool
  | 0, out, _ => (out.reverse, false)
  | fuel + 1, out, payload =>
    match payload with
    | [] => (out.reverse, false)
    | f :: rest =>
      match decodeGroup n 8 f.toNat out rest with
      | .bad out => (out.reverse, false)
      | .done out rest => (out.reverse, decide (rest = []))
      | .more out rest => decodeGroups n fuel out rest

/-- R38: whether a header's coding (0 STORED, 1 SHRUNK; R198), raw length and payload length pass the tests made before decoding, and
the record as read holds the payload that its header counts: one that holds fewer bytes is taken as DECODE_FAULT too (DESIGN
CHOICE, log entry 35). -/
def decodable (coding rawLength payloadLength : Nat) (payload : List Byte) : Bool :=
  decide (rawLength ≠ 0 ∧ rawLength ≤ 65536 ∧ payloadLength ≤ 65536 ∧ payloadLength ≤ payload.length) &&
    match coding with
    | 0 => payloadLength = rawLength
    | 1 => payloadLength < rawLength
    | _ => false

/-- R38 to R41: what a decode of a payload writes into its half, and whether its result is OK, else DECODE_FAULT. Bytes past the
header's payload length are ignored (log entry 35). -/
def decodeInto (coding rawLength payloadLength : Nat) (payload : List Byte) : List Byte × Bool :=
  if decodable coding rawLength payloadLength payload then
    if coding = 0 then (payload.take payloadLength, true)
    else decodeGroups rawLength (payloadLength + 1) [] (payload.take payloadLength)
  else ([], false)

/-- R38 to R40: the raw block a decode gives; `none` is DECODE_FAULT. -/
def decodePayload (coding rawLength payloadLength : Nat) (payload : List Byte) : Option (List Byte) :=
  let r := decodeInto coding rawLength payloadLength payload
  if r.2 then some r.1 else none

end Sys2Proof.Machine
end

