-- ==== Sys2Proof/Machine/Ops.lean ====
section
/-! DEFINITION. The named operations over the device's parts: one accessor and one update per part, the follow-up list, the
dirty marks (R189), and the page pool (R51 to R53). -/

namespace Sys2Proof.Machine

/-! ### Pairs -/

def Pair.get {α : Type} (p : Pair α) : Chan → α
  | .ch0 => p.zero
  | .ch1 => p.one

def Pair.set {α : Type} (p : Pair α) (c : Chan) (x : α) : Pair α :=
  match c with
  | .ch0 => { p with zero := x }
  | .ch1 => { p with one := x }

/-- Mail slot 0 or 1 of a pair. -/
def mailChan (m : Fin 2) : Chan := if m.val = 0 then .ch0 else .ch1

/-- The channel that is not this one. -/
def otherChan : Chan → Chan
  | .ch0 => .ch1
  | .ch1 => .ch0

/-! ### Parts of the device -/

def Dev.chan (d : Dev) (c : Chan) : Channel := d.ch.get c
def Dev.setChan (d : Dev) (c : Chan) (x : Channel) : Dev := { d with ch := d.ch.set c x }
def Dev.modChan (d : Dev) (c : Chan) (f : Channel → Channel) : Dev := d.setChan c (f (d.chan c))
def Dev.drive (d : Dev) (c : Chan) : Drive := (d.chan c).drive
def Dev.modDrive (d : Dev) (c : Chan) (f : Drive → Drive) : Dev := d.modChan c fun x => { x with drive := f x.drive }
def Dev.sess (d : Dev) (c : Chan) : Option Session := (d.chan c).sess
def Dev.setSess (d : Dev) (c : Chan) (s : Option Session) : Dev := d.modChan c fun x => { x with sess := s }
def Dev.modSess (d : Dev) (c : Chan) (f : Session → Session) : Dev := d.modChan c fun x => { x with sess := x.sess.map f }

/-- Changes the backup context of a session, when it is a backup. -/
def Dev.modBackup (d : Dev) (c : Chan) (f : Backup → Backup) : Dev :=
  d.modSess c fun s => match s.kind with | .backup b => { s with kind := .backup (f b) } | _ => s
def Dev.modVerify (d : Dev) (c : Chan) (f : Verify → Verify) : Dev :=
  d.modSess c fun s => match s.kind with | .verify v => { s with kind := .verify (f v) } | _ => s
def Dev.modRestore (d : Dev) (c : Chan) (f : Restore → Restore) : Dev :=
  d.modSess c fun s => match s.kind with | .restore r => { s with kind := .restore (f r) } | _ => s
def Dev.modRebuild (d : Dev) (c : Chan) (f : Rebuild → Rebuild) : Dev :=
  d.modSess c fun s => match s.kind with | .rebuild r => { s with kind := .rebuild (f r) } | _ => s

/-- The backup session on a channel, with its context. -/
def Dev.backup? (d : Dev) (c : Chan) : Option (Session × Backup) :=
  match d.sess c with
  | some s => match s.kind with | .backup b => some (s, b) | _ => none
  | none => none
def Dev.verify? (d : Dev) (c : Chan) : Option (Session × Verify) :=
  match d.sess c with
  | some s => match s.kind with | .verify v => some (s, v) | _ => none
  | none => none
def Dev.restore? (d : Dev) (c : Chan) : Option (Session × Restore) :=
  match d.sess c with
  | some s => match s.kind with | .restore r => some (s, r) | _ => none
  | none => none
def Dev.rebuild? (d : Dev) (c : Chan) : Option (Session × Rebuild) :=
  match d.sess c with
  | some s => match s.kind with | .rebuild r => some (s, r) | _ => none
  | none => none

/-- The channel whose session holds a handle (R78). -/
def Dev.sessionOf (d : Dev) (h : Nat) : Option Chan :=
  if (d.sess .ch0).any (·.handle = h) then some .ch0
  else if (d.sess .ch1).any (·.handle = h) then some .ch1
  else none

def Dev.port (d : Dev) : Port → PortUnit
  | .A => d.pa
  | .B => d.pb
  | .P => d.pp
def Dev.setPort (d : Dev) (p : Port) (u : PortUnit) : Dev :=
  match p with
  | .A => { d with pa := u }
  | .B => { d with pb := u }
  | .P => { d with pp := u }
def Dev.modPort (d : Dev) (p : Port) (f : PortUnit → PortUnit) : Dev := d.setPort p (f (d.port p))

def Dev.modMqu (d : Dev) (f : Mover → Mover) : Dev := { d with mqu := f d.mqu }
def Dev.modCst (d : Dev) (f : Store → Store) : Dev := { d with cst := f d.cst }
def Dev.modCat (d : Dev) (f : Catalogue → Catalogue) : Dev := { d with cat := f d.cat }

/-- A message goes out on a link. -/
def Dev.emit (d : Dev) (m : LinkMsg) : Dev := { d with sent := d.sent ++ [m] }

/-- What is to follow in this step joins the follow-up list, once. -/
def Dev.push (d : Dev) (t : Todo) : Dev := if t ∈ d.todo then d else { d with todo := d.todo ++ [t] }
/-- What is to follow before everything else that follows. -/
def Dev.pushFront (d : Dev) (ts : List Todo) : Dev := { d with todo := ts ++ d.todo.filter (· ∉ ts) }
def Dev.pushAll (d : Dev) (ts : List Todo) : Dev := ts.foldl Dev.push d

/-! ### Free choices (log entry 5) -/

/-- Takes the things of a list in an order the manual leaves open; with fewer than two there is nothing to choose. -/
def shuffle {α : Type} : Nat → Nat → List α → List α
  | 0, _, l => l
  | _ + 1, _, [] => []
  | _ + 1, _, [x] => [x]
  | n + 1, k, l@(_ :: _ :: _) =>
    let i := Config.race k % l.length
    match l[i]? with
    | some x => x :: shuffle n (k + 1) (l.eraseIdx i)
    | none => l

/-- A list in an order the manual leaves open, and the counter moved on. -/
def Dev.shuffled {α : Type} (d : Dev) (l : List α) : List α × Dev :=
  (shuffle l.length d.races l, if l.length < 2 then d else { d with races := d.races + l.length })

/-- Items that reach one piece of state as separate events, whichever is taken first: they follow next, in a free order. -/
def Dev.pushRace (d : Dev) (ts : List Todo) : Dev := (d.shuffled ts).2.pushFront (d.shuffled ts).1

/-! ### Counters that no longer fit (log entry 6) -/

/-- A number as a field of 32 bits shows it. -/
def narrow32 (n : Nat) : Nat := if n < 4294967296 then n else Config.beyond 32 n % 4294967296
/-- A number as a field of 64 bits shows it. -/
def narrow64 (n : Nat) : Nat := if n < 18446744073709551616 then n else Config.beyond 64 n % 18446744073709551616
/-- A 16-bit saturating increment (00_scope 5.2). -/
def satInc (n : Nat) : Nat := if n < 65535 then n + 1 else 65535

/-! ### Dirty marks (R30, R189) -/

/-- The block that holds a cartridge entry (R30). -/
def cartBlock (i : CartIx) : Nat := 1 + i.val / 16
/-- The block that holds a set entry (R30). -/
def setBlock (e : SetIx) : Nat := 5 + e.val / 16

/-- Marks a block dirty (R189). A change made while a flush pass has nothing in flight gives its block one more attempt
(R191). -/
def Dev.dirty (d : Dev) (b : Nat) : Dev :=
  (d.modCst fun s =>
    { s with
      dirty := s.dirty.set b true
      pass := if s.write.isNone then s.pass.map (fun p => { p with failed := p.failed.filter (· ≠ b) }) else s.pass }).push
    .flush

/-! ### The page pool (R51 to R53) -/

def Smc.heldBy (m : Smc) (c : Chan) : Nat := m.held.get c

/-- R52: whether channel `c` may take a page now. -/
def Smc.mayTake (m : Smc) (c : Chan) : Bool :=
  m.heldBy c + 1 ≤ Config.maxHeld && 1 ≤ m.free && Config.reserve - m.heldBy (otherChan c) ≤ m.free - 1

/-- R51: a granted take. -/
def Smc.take (m : Smc) (c : Chan) : Smc := { free := m.free - 1, held := m.held.set c (m.heldBy c + 1) }

/-- R51: `n` of the channel's pages are freed; no more are freed than it holds. -/
def Smc.release (m : Smc) (c : Chan) (n : Nat) : Smc :=
  { free := m.free + min n (m.heldBy c), held := m.held.set c (m.heldBy c - min n (m.heldBy c)) }

/-- A take for channel `c`: the device after it, or none when it is refused (R52). -/
def Dev.takePage (d : Dev) (c : Chan) : Option Dev :=
  if d.smc.mayTake c then some { d with smc := d.smc.take c } else none

/-- Frees `n` pages of channel `c`; the requesters that wait ask again (R52). -/
def Dev.freePages (d : Dev) (c : Chan) (n : Nat) : Dev :=
  if n = 0 then d else { d with smc := d.smc.release c n }.pushFront [.pages]

/-- A requester of channel `c` waits for a page (R52). -/
def Dev.waitsForPage (d : Dev) (c : Chan) : Bool :=
  let x := d.chan c
  x.enc.state = .waitPage || x.readerWait || x.trailerWait.isSome

/-- What follows when a channel's place, drive or session may have changed: its session and its drive are looked at again. -/
def Dev.look (d : Dev) : Dev := d.pushAll [.bring .ch0, .bring .ch1, .command .ch0, .command .ch1, .send]

end Sys2Proof.Machine
end

