-- ==== Sys2Proof/Machine/Ports.lean ====
section
/-! DEFINITION. The port units (chapter 9): answers, notices, the transmitter, and the arrival of a request. -/

namespace Sys2Proof.Machine

/-! ### Answers (R173, R174) -/

/-- An answer to a request that is still to be answered. It joins the response path, with the request's entry if that still
stands; while the port's link is not UP it is discarded (R173, R179, R180). -/
def Dev.answerWith (d : Dev) (r : ReqId) (st : Status) (handle : Nat) (result : List Byte) : Dev :=
  let u := d.port r.port
  if r ∈ u.unanswered then
    let u := { u with unanswered := u.unanswered.filter (· ≠ r) }
    if u.link = .up then
      let serial := if u.queue.any (·.serial = r.serial) then some r.serial else none
      (d.setPort r.port { u with path := u.path ++ [.answer serial r.tag handle st result] }).push (.transmit r.port)
    else d.setPort r.port u
  else d

/-- An answer with no result, under the handle the request named. -/
def Dev.answer (d : Dev) (r : ReqId) (st : Status) : Dev := d.answerWith r st r.handle []

/-- An answer for a request that may be absent. -/
def Dev.answerOpt (d : Dev) (r : Option ReqId) (st : Status) : Dev :=
  match r with
  | some r => d.answer r st
  | none => d

/-- A request whose answer is discarded (R181). -/
def Dev.dropAnswer (d : Dev) (r : ReqId) : Dev :=
  d.modPort r.port fun u => { u with unanswered := u.unanswered.filter (· ≠ r) }

/-! ### Notices (R176, R177) -/

/-- A port's notice mask. -/
def Settings.mask (g : Settings) : Port → List Bool
  | .A => g.maskA
  | .B => g.maskB
  | .P => g.maskP

def Notice.isCredit : Notice → Bool
  | .credit .. => true
  | _ => false

/-- R56: adds a count to the pending CREDIT notice of a session, which keeps its place and its restated mark. -/
def addCredit (h n : Nat) : List Notice → Option (List Notice)
  | [] => none
  | .credit h' m r :: t => if h' = h then some (.credit h' (m + n) r :: t) else (addCredit h n t).map (.credit h' m r :: ·)
  | x :: t => (addCredit h n t).map (x :: ·)

/-- R176: a port is offered a notice; the second part says whether it was taken. -/
def Dev.offer (d : Dev) (p : Port) (n : Notice) : Dev × Bool :=
  let u := d.port p
  let dropped := if n.isCredit then d else d.setPort p { u with lost := true }
  if (d.cfg.mask p).getD n.index true = false then (d, false)
  else if u.link ≠ .up then (dropped, false)
  else
    let coalesced := match n with | .credit h c _ => addCredit h c u.notices | _ => none
    match coalesced with
    | some ns => (d.setPort p { u with notices := ns }, true)
    | none =>
      if Config.maxNotices ≤ u.notices.length then (dropped, false)
      else ((d.setPort p { u with notices := u.notices ++ [n] }).push (.transmit p), true)

/-- Offers a notice to a port. -/
def Dev.notice (d : Dev) (p : Port) (n : Notice) : Dev := (d.offer p n).1

/-- Offers a notice to ports A, B and P. -/
def Dev.noticeAll (d : Dev) (n : Notice) : Dev := ((d.notice .A n).notice .B n).notice .P n

/-- Offers a notice to a port and to port P, once when they are the same (R177). -/
def Dev.noticeOwner (d : Dev) (p : Port) (n : Notice) : Dev := if p = .P then d.notice .P n else (d.notice p n).notice .P n

/-! ### The transmitter (R174, R175) -/

/-- R174: a free transmitter takes the head frame of one source, the one it did not take from last when both hold frames. A
notice that leaves its queue may let an undelivered grant be made (R55). -/
def Dev.transmit (d : Dev) (p : Port) : Dev :=
  let u := d.port p
  if u.tx.isSome || u.link ≠ .up then d
  else
    let takeNotice := match u.path, u.notices with
      | [], _ :: _ => true
      | _ :: _, _ :: _ => !u.lastNotice
      | _, [] => false
    if takeNotice then
      match u.notices with
      | n :: ns => (d.setPort p { u with notices := ns, tx := some (.notice n), lastNotice := true }).push (.creditRetry p)
      | [] => d
    else
      match u.path with
      | f :: fs => d.setPort p { u with path := fs, tx := some f, lastNotice := false }
      | [] => d

/-- R175: ATTN is asserted while port P's response path, notice queue or transmitter holds a frame. -/
def Dev.attn (d : Dev) : Bool := !d.pp.path.isEmpty || !d.pp.notices.isEmpty || d.pp.tx.isSome

/-! ### Arrival (R170 to R172) -/

def OutFrame.isOverflow : OutFrame → Bool
  | .overflow .. => true
  | _ => false
def OutFrame.isFrameError : OutFrame → Bool
  | .frameError => true
  | _ => false

/-- Whether a port unit takes frames now: start-up is done (R194, R195) and the link is UP (R179). -/
def Dev.hears (d : Dev) (p : Port) : Bool := d.phase = .running && (d.port p).link = .up

/-- The name a request takes in its port's request queue (R171). -/
def Dev.newReq (d : Dev) (f : Req) (kind : ReqKind) : ReqId :=
  { port := f.port, serial := (d.port f.port).serial, kind := kind, tag := f.tag.toNat, handle := f.handle.toNat }

/-- R171: a request joins the tail of its port's request queue, to be answered. -/
def Dev.joined (d : Dev) (f : Req) (kind : ReqKind) : Dev :=
  d.modPort f.port fun u =>
    { u with queue := u.queue ++ [d.newReq f kind], unanswered := u.unanswered ++ [d.newReq f kind], serial := u.serial + 1 }

/-- R171: a request that finds the queue full gets an overflow answer, or sets LOST when four already wait. -/
def Dev.overflowed (d : Dev) (f : Req) : Dev :=
  let u := d.port f.port
  if (u.path.filter OutFrame.isOverflow).length < 4 then
    (d.setPort f.port { u with path := u.path ++ [.overflow f.tag.toNat f.handle.toNat] }).push (.transmit f.port)
  else d.setPort f.port { u with lost := true }

/-- R171: a request arrives; one that joins the queue is checked and carried out by `k`. A frame that is not heard is no
request. -/
def Dev.arrive (d : Dev) (f : Req) (kind : ReqKind) (k : ReqId → Dev → Dev) : Dev :=
  if d.hears f.port then
    if Config.maxRequests ≤ (d.port f.port).queue.length then d.overflowed f else k (d.newReq f kind) (d.joined f kind)
  else d

/-- R172, check 1: the payload has the form of its kind. -/
def Dev.withForm {α : Type} (d : Dev) (r : ReqId) (parsed : Option α) (k : α → Dev → Dev) : Dev :=
  match parsed with
  | some x => k x d
  | none => d.answer r .badRequest

/-- R172, check 2: a request of the panel group. -/
def Dev.panelOnly (d : Dev) (r : ReqId) (k : Dev → Dev) : Dev := if r.port = .P then k d else d.answer r .notOwner

/-- R172, check 3: the session the frame's handle names. -/
def Dev.withSession (d : Dev) (r : ReqId) (k : Chan → Session → Dev → Dev) : Dev :=
  if r.handle = 0 ∨ r.handle = 255 then d.answer r .badRequest
  else
    match d.sessionOf r.handle with
    | some c =>
      match d.sess c with
      | some s => if s.owner = r.port then k c s d else d.answer r .notOwner
      | none => d
    | none => if d.waitList.any (·.handle = r.handle) then d.answer r .badState else d.answer r .badRequest

end Sys2Proof.Machine
end

