-- ==== Sys2Proof/Machine/Catalogue.lean ====
section
/-! DEFINITION. The catalogue unit (chapter 1): places, cartridges, pools, sets, allocation and recycling. -/

namespace Sys2Proof.Machine

/-! ### Places (R1, R2) -/

def allPlaces : List Place :=
  (List.finRange 24).map .slot ++ (List.finRange 2).map .mail ++ [.drive .ch0, .drive .ch1]
/-- The storage and mail slots in the order of R106. -/
def allSlots : List Place := (List.finRange 24).map .slot ++ (List.finRange 2).map .mail

def Dev.place (d : Dev) (p : Place) : PlaceRec := d.cat.places.getD (placeCode p) {}
def Dev.setPlace (d : Dev) (p : Place) (x : PlaceRec) : Dev :=
  d.modCat fun k => { k with places := k.places.set (placeCode p) x }
def Dev.occ (d : Dev) (p : Place) : Occupant := (d.place p).occ
def Dev.confirmed (d : Dev) (p : Place) : Bool := (d.place p).confirmed

/-- What follows a change of a place: the send rule and the sessions' conditions are tested again (R88, R95). -/
def Dev.placeChanged (d : Dev) : Dev := d.look.push .orders

/-- A place becomes confirmed or unconfirmed (R2). -/
def Dev.setConfirmed (d : Dev) (p : Place) (v : Bool) : Dev := (d.setPlace p { d.place p with confirmed := v }).placeChanged
/-- Sets a place's occupant. A drive place that becomes empty loses its drive's settled mark (R94). -/
def Dev.setOcc (d : Dev) (p : Place) (o : Occupant) : Dev :=
  let d := d.setPlace p { d.place p with occ := o }
  match p, o with
  | .drive c, .none => (d.modMqu fun m => { m with settled := m.settled.set c false }).placeChanged
  | _, _ => d.placeChanged

/-- A drive place exists unless its drive is ABSENT (R2). -/
def Dev.placeExists (d : Dev) : Place → Bool
  | .drive c => (d.drive c).state ≠ .absent
  | _ => true

/-- A place is free when its occupant is NONE and it is confirmed (R95); a mail slot with an export mark is not (R96). -/
def Dev.isFree (d : Dev) (p : Place) : Bool :=
  d.occ p = .none && d.confirmed p &&
    (match p with | .mail m => (d.mqu.exportMark.get (mailChan m)).isNone | _ => true)

/-! ### Cartridges (R3 to R11) -/

def allCarts : List CartIx := List.finRange 64

def Dev.cart (d : Dev) (i : CartIx) : Option Cart := d.cat.carts.getD i.val none
/-- Writes a cartridge entry and marks its block dirty (R30). -/
def Dev.putCart (d : Dev) (i : CartIx) (x : Option Cart) : Dev :=
  (d.modCat fun k => { k with carts := k.carts.set i.val x }).dirty (cartBlock i)
/-- Changes a registered entry and marks its block dirty (R30). -/
def Dev.modCart (d : Dev) (i : CartIx) (f : Cart → Cart) : Dev :=
  match d.cart i with
  | some x => d.putCart i (some (f x))
  | none => d

/-- R24: an event that makes CTU run the selection again for a session waiting for media. -/
def Dev.reselect (d : Dev) : Dev := d.push .select

/-- R30: a change made only to a claim marks no block. -/
def Dev.setClaim (d : Dev) (i : CartIx) (h : Option Nat) : Dev :=
  match d.cart i with
  | some x => (d.modCat fun k => { k with carts := k.carts.set i.val (some { x with claim := h }) }).reselect
  | none => d

/-- R5: a change of state. -/
def Dev.setCartState (d : Dev) (i : CartIx) (s : CartState) : Dev := (d.modCart i fun x => { x with state := s }).reselect
/-- R8: SUSPECT is set. -/
def Dev.flagSuspect (d : Dev) (i : CartIx) : Dev := (d.modCart i fun x => { x with suspect := true }).reselect
/-- R8: PROTECTED is set. -/
def Dev.flagProtected (d : Dev) (i : CartIx) : Dev := (d.modCart i fun x => { x with writeProt := true }).reselect

/-- The registered entry that holds a label (R3). -/
def Dev.byLabel (d : Dev) (l : Label) : Option CartIx :=
  allCarts.find? fun i => (d.cart i).any fun x => x.label = some l

def Dev.cartLabel (d : Dev) (i : CartIx) : Option Label := (d.cart i).bind (·.label)

/-- R1: a change of location is one change of the location field and of the occupants of the two places. -/
def Dev.moveCart (d : Dev) (i : CartIx) (dest : Option Place) : Dev :=
  let d := match (d.cart i).bind (·.location) with
    | some p => if d.occ p = Occupant.cart i then d.setOcc p .none else d
    | none => d
  let d := match dest with
    | some p => d.setOcc p (.cart i)
    | none => d
  ((d.modCart i fun x => { x with location := dest }).reselect).push .orders

/-- R12: the pool whose slot range holds a storage slot. -/
def PoolMap.poolOf (m : PoolMap) (n : Nat) : Nat :=
  if n < m.b1 then 0 else if n < m.b2 then 1 else if n < m.b3 then 2 else if n < m.b4 then 3 else 4
/-- R12: whether storage slot `n` lies in pool `k`. -/
def PoolMap.inPool (m : PoolMap) (k n : Nat) : Bool := m.poolOf n = k && k ≤ 4
def PoolMap.pool (m : PoolMap) (k : Nat) : Pool := m.pools.getD k {}

/-- R9: a cartridge takes a storage slot as its home; another cartridge that had it loses its home. -/
def Dev.takeHome (d : Dev) (i : CartIx) (n : Fin 24) : Dev :=
  let d := allCarts.foldl (fun d j =>
    if j ≠ i ∧ (d.cart j).any (fun x => x.home = some n) then d.modCart j fun x => { x with home := none } else d) d
  (d.modCart i fun x => { x with home := some n, pool := d.cat.live.poolOf n.val }).reselect

/-- R9: a cartridge with no home comes to rest in a storage slot. -/
def Dev.settleHome (d : Dev) (i : CartIx) (p : Place) : Dev :=
  match p with
  | .slot n => if (d.cart i).any (·.home.isNone) then d.takeHome i n else d
  | _ => d

/-- R4: registers a cartridge at a place in the lowest free entry, FOREIGN; none when no entry is free. -/
def Dev.register (d : Dev) (p : Place) (l : Option Label) : Option Dev :=
  match allCarts.find? fun i => (d.cart i).isNone with
  | none => none
  | some i =>
    let d := d.putCart i (some { label := l, location := some p })
    let d := (d.setOcc p (.cart i)).settleHome i p
    some ({ d with mqu := { d.mqu with registered := d.mqu.registered + 1 } }.reselect)

/-- R6: the report of a write at position `p`. -/
def Dev.writeReport (d : Dev) (i : CartIx) (p figure : Nat) : Dev :=
  let d := d.modCart i fun x => { x with endPos := narrow32 (p + 1), written := narrow64 figure }
  match d.cart i with
  | some x =>
    if x.state = .active ∧ (x.capacity.any fun c => c * Config.mib ≤ x.written) then d.setCartState i .full else d
  | none => d

/-- The handle of the session whose session cartridge this is, other than the session of a given handle (R11). -/
def Dev.sessionCartOf (d : Dev) (i : CartIx) (but : Option Nat) : Bool :=
  let on (c : Chan) := (d.sess c).any fun s => s.cart = some i ∧ some s.handle ≠ but
  on .ch0 || on .ch1

/-- R26, R27, R111, R112: claimed, or the session cartridge of a session. -/
def Dev.cartBusy (d : Dev) (i : CartIx) : Bool := (d.cart i).any (·.claim.isSome) || d.sessionCartOf i none

/-! ### Sets (R16 to R22) -/

def allSets : List SetIx := List.finRange 256

def Dev.entry (d : Dev) (e : SetIx) : SetEntry := d.cat.sets.getD e.val .free
/-- The set an entry holds. -/
def Dev.set? (d : Dev) (e : SetIx) : Option BackupSet :=
  match d.entry e with
  | .holds x => some x
  | _ => none
/-- Writes a set entry and marks its block dirty (R30). -/
def Dev.putSet (d : Dev) (e : SetIx) (x : SetEntry) : Dev :=
  (d.modCat fun k => { k with sets := k.sets.set e.val x }).dirty (setBlock e)
/-- Changes a set and marks its block dirty (R30). -/
def Dev.modSet (d : Dev) (e : SetIx) (f : BackupSet → BackupSet) : Dev :=
  match d.set? e with
  | some x => d.putSet e (.holds (f x))
  | none => d
/-- R30: a change made only to an in-use field marks no block. -/
def Dev.setInUse (d : Dev) (e : SetIx) (h : Option Nat) : Dev :=
  match d.set? e with
  | some x => d.modCat fun k => { k with sets := k.sets.set e.val (.holds { x with inUse := h }) }
  | none => d
/-- Clears the in-use field of a set that a session or open may name. -/
def Dev.freeSet (d : Dev) (e : Option SetIx) : Dev :=
  match e with
  | some e => d.setInUse e none
  | none => d

def BackupSet.onCart (x : BackupSet) (i : CartIx) : Bool := x.segments.any fun s => s.cart = i
def BackupSet.lastSegment (x : BackupSet) : Option Segment := x.segments.getLast?
def BackupSet.segment (x : BackupSet) (o : Nat) : Option Segment := x.segments.find? fun s => s.ordinal = o
def BackupSet.owner (x : BackupSet) : Port := if x.ownerB then .B else .A
/-- R10: the sets a live set count counts. -/
def BackupSet.isLive (x : BackupSet) : Bool := x.state ≠ .expired
/-- R140: the segment ordinals run 1, 2, … without a gap. -/
def BackupSet.noGap (x : BackupSet) : Bool := x.segments.map (·.ordinal) = (List.range x.segments.length).map (· + 1)

/-- R21: the set that is not EXPIRED and holds a number. -/
def Dev.liveSet (d : Dev) (n : Nat) : Option SetIx :=
  allSets.find? fun e => (d.set? e).any fun x => x.number = n ∧ x.state ≠ .expired
/-- R21: what SET_STATUS reports: the live set, else the lowest EXPIRED entry that holds the number. -/
def Dev.reportSet (d : Dev) (n : Nat) : Option SetIx :=
  match d.liveSet n with
  | some e => some e
  | none => allSets.find? fun e => (d.set? e).any fun x => x.number = n

/-- The entries whose set is not EXPIRED and has a segment on a cartridge. -/
def Dev.liveSetsOn (d : Dev) (i : CartIx) : List SetIx :=
  allSets.filter fun e => (d.set? e).any fun x => x.isLive && x.onCart i

/-- R26, R27: a set with a segment on the cartridge is in use. -/
def Dev.setInUseOn (d : Dev) (i : CartIx) : Bool :=
  allSets.any fun e => (d.set? e).any fun x => x.onCart i && x.inUse.isSome

/-- R10: the live set count rises or falls by 1. -/
def Dev.raiseLive (d : Dev) (i : CartIx) : Dev := d.modCart i fun x => { x with live := x.live + 1 }
def Dev.lowerLive (d : Dev) (i : CartIx) : Dev := d.modCart i fun x => { x with live := x.live - 1 }

/-- R10, R19: a set becomes EXPIRED, and the count of each distinct cartridge it names falls by 1. -/
def Dev.expireSet (d : Dev) (e : SetIx) : Dev :=
  match d.set? e with
  | some x =>
    (x.segments.map (·.cart)).dedup.foldl Dev.lowerLive (d.putSet e (.holds { x with state := .expired }))
  | none => d

/-- R26, a taken RECYCLE, steps 1 to 3; R25 does the same for auto-recycle. A SCRATCH cartridge is left unchanged. -/
def Dev.recycleCart (d : Dev) (i : CartIx) : Dev :=
  if (d.cart i).any (·.state = .scratch) then d
  else
    let d := (d.liveSetsOn i).foldl Dev.expireSet d
    (d.modCart i fun x => { x with state := .scratch, endPos := 0, written := 0 }).reselect

/-- R20: the entry taken for a new set: the lowest free or EXPIRED, else the lowest LOST. -/
def Dev.freeEntry (d : Dev) : Option SetIx :=
  match allSets.find? fun e => match d.entry e with | .free => true | .holds x => x.state = .expired | .lost => false with
  | some e => some e
  | none => allSets.find? fun e => d.entry e = .lost

/-- R21: the first number from `n` on that no set that is not EXPIRED holds, stepping from 65,535 to 1. -/
def Dev.numberFrom (d : Dev) : Nat → Nat → Nat
  | 0, n => n
  | fuel + 1, n => if (d.liveSet n).isSome then d.numberFrom fuel (if n = 65535 then 1 else n + 1) else n

/-- R21: allocates a set number and moves the counter on. -/
def Dev.allocNumber (d : Dev) : Nat × Dev :=
  let n := d.numberFrom 257 d.cat.nextSet
  (n, (d.modCat fun k => { k with nextSet := if n = 65535 then 1 else n + 1 }).dirty 0)

/-- R5, R10, R17: a set gains a segment naming a cartridge: its live set count rises, unless the set `named` it already, and the
cartridge becomes ACTIVE when it was SCRATCH. -/
def Dev.joinCart (d : Dev) (i : CartIx) (named : Bool) : Dev :=
  let d := if named then d else d.raiseLive i
  if (d.cart i).any (·.state = .scratch) then d.setCartState i .active else d

/-- R20: allocates the set of a new backup, with segment 1 on its target. -/
def Dev.allocBackup (d : Dev) (handle : Nat) (owner : Port) (pool expiry : Nat) (i : CartIx) : Option (SetIx × Dev) :=
  match d.freeEntry with
  | none => none
  | some e =>
    let (n, d) := d.allocNumber
    let seg : Segment := { ordinal := 1, cart := i, firstPos := ((d.cart i).map (·.endPos)).getD 0, firstSeq := 0, count := 0 }
    let x : BackupSet := { number := n, tape := n, state := .opened, ownerB := owner = .B, pool := pool, expiry := expiry
                           writeDay := d.cat.day, segments := [seg], inUse := some handle }
    some (e, (d.putSet e (.holds x)).joinCart i false)

/-! ### Pools (R12 to R15) -/

/-- R12: whether a port may act on a pool. -/
def Pool.allows (p : Pool) : Port → Bool
  | .A => p.owner ≠ .b
  | .B => p.owner ≠ .a
  | .P => true

/-- R14: the staged map becomes live, the pools of cartridges with a home are computed again, and POOLS_APPLIED goes out. -/
def Dev.applyPools (d : Dev) : Dev :=
  match d.cat.staged with
  | none => d
  | some m =>
    let d := (d.modCat fun k => { k with live := m, staged := none }).dirty 0
    let d := allCarts.foldl (fun d i =>
      match d.cart i with
      | some x =>
        match x.home with
        | some n => if x.pool = m.poolOf n.val then d else d.modCart i fun x => { x with pool := m.poolOf n.val }
        | none => d
      | none => d) d
    (d.noticeAll .poolsApplied).reselect

/-! ### Target selection (R23 to R25) -/

/-- R23, condition 2, for a session on channel `c`. -/
def Dev.locationFits (d : Dev) (c : Chan) : Option Place → Bool
  | some (.slot _) => true
  | some (.drive c') =>
    c' = c || (((d.drive c').state = .ready || (d.drive c').state = .inserting) && (d.drive c').claim.isNone)
  | _ => false

/-- R23: the cartridge is a candidate in pool `k` for the session of handle `h` on channel `c`. -/
def Dev.candidate (d : Dev) (c : Chan) (h k : Nat) (i : CartIx) : Bool :=
  match d.cart i with
  | none => false
  | some x =>
    x.pool = k && d.locationFits c x.location && !x.suspect && !x.writeProt && !x.retired
      && (x.state = .scratch || x.state = .active) && x.claim.isNone && !d.sessionCartOf i (some h)
      && (x.state ≠ .active || (match x.capacity with
          | none => true
          | some cap => x.written + d.cfg.spanReserve * Config.mib < cap * Config.mib))

/-- R25: the cartridge can be auto-recycled in pool `k`. -/
def Dev.recyclable (d : Dev) (c : Chan) (k : Nat) (i : CartIx) : Bool :=
  match d.cart i with
  | none => false
  | some x =>
    x.pool = k && (d.cat.live.pool k).kind = .rotation && d.locationFits c x.location && !x.suspect && !x.writeProt
      && !x.retired && (x.state = .active || x.state = .full) && x.claim.isNone && !d.sessionCartOf i none
      && !d.setInUseOn i && (d.liveSetsOn i).all fun e => (d.set? e).all fun y => y.expiry ≤ d.cat.day

/-- The greatest expiry day over a cartridge's live sets plus 1, or 0 when it has none (R25). -/
def Dev.recycleRank (d : Dev) (i : CartIx) : Nat :=
  (d.liveSetsOn i).foldl (fun m e => max m (((d.set? e).map (·.expiry + 1)).getD 0)) 0

def Dev.loadsOf (d : Dev) (i : CartIx) : Nat := ((d.cart i).map (·.loads)).getD 0

/-- The first of a list for which a measure is lowest. -/
def firstLeast {α : Type} (le : α → α → Bool) : List α → Option α
  | [] => none
  | x :: t =>
    match firstLeast le t with
    | none => some x
    | some y => if le x y then some x else some y

/-- R24, step 1: an ACTIVE candidate mounted in the granted drive. -/
def Dev.pickMounted (d : Dev) (c : Chan) (h k : Nat) : Option CartIx :=
  match (d.drive c).mounted with
  | .cart i => if d.candidate c h k i && (d.cart i).any (·.state = .active) then some i else none
  | _ => none

/-- R24, step 3: the SCRATCH candidate with the lowest load count, ties going to the lowest index. -/
def Dev.pickScratch (d : Dev) (c : Chan) (h k : Nat) : Option CartIx :=
  firstLeast (fun i j => d.loadsOf i ≤ d.loadsOf j)
    (allCarts.filter fun i => d.candidate c h k i && (d.cart i).any (·.state = .scratch))

/-- R25: the cartridge auto-recycle takes. -/
def Dev.pickRecycle (d : Dev) (c : Chan) (k : Nat) : Option CartIx :=
  firstLeast (fun i j =>
      d.recycleRank i < d.recycleRank j || (d.recycleRank i = d.recycleRank j && d.loadsOf i ≤ d.loadsOf j))
    (allCarts.filter (d.recyclable c k))

/-- R24: the choice for a grant, or for a continuation after a span (steps 3 and 4 alone). -/
def Dev.pickTarget (d : Dev) (c : Chan) (h k : Nat) (continuation : Bool) : Option CartIx :=
  let first :=
    if continuation then none
    else
      match d.pickMounted c h k with
      | some i => some i
      | none => allCarts.find? fun i => d.candidate c h k i && (d.cart i).any (·.state = .active)
  match first with
  | some i => some i
  | none =>
    match d.pickScratch c h k with
    | some i => some i
    | none => if (d.cat.live.pool k).kind = .rotation then d.pickRecycle c k else none

end Sys2Proof.Machine
end

