-- ==== Sys2Proof/Machine/Drives.lean ====
section
/-! DEFINITION. The drive context's own operations (chapter 4): commands, wants, the idle-unload timer and the beginning of
the unload procedure. -/

namespace Sys2Proof.Machine

/-- R69: the command timers, in milliseconds. -/
def DriveCmd.ms : DriveCmd → Nat
  | .status _ => 5000
  | .locate _ => 300000
  | .rewind _ => 300000
  | .write _ _ => 60000
  | .read => 60000
  | .speed _ => 5000
  | .eject => 120000

/-- R69: a command is sent under the command number, which then rises by 1: the first after power-on carries 0 (DESIGN CHOICE, log
entry 38). Its timer starts. -/
def Dev.sendCmd (d : Dev) (c : Chan) (cmd : DriveCmd) (owner : Option Nat) : Dev :=
  let n := (d.drive c).cmdNum
  (d.modDrive c fun x =>
    { x with out := some ⟨cmd, n, owner⟩, cmdNum := (n + 1) % 256, cmdTimer := some cmd.ms }).emit (.drive c n cmd)

/-- Two wants served by one STATUS (R73). -/
def Wants.merge (a b : Wants) : Wants :=
  { startUp := a.startUp || b.startUp
    clear := a.clear.orElse fun _ => b.clear
    retry := match a.retry, b.retry with
      | some x, some y => some { reqs := x.reqs ++ y.reqs, status := y.status }
      | some x, none => some x
      | none, y => y
    other := a.other || b.other }

def Wants.any (w : Wants) : Bool := w.startUp || w.clear.isSome || w.retry.isSome || w.other

/-- R73: the channel wants a STATUS. An ABSENT drive takes no command (R74). -/
def Dev.wantStatus (d : Dev) (c : Chan) (w : Wants) : Dev :=
  if (d.drive c).state = .absent then d
  else (d.modDrive c fun x => { x with wants := x.wants.merge w }).push (.command c)

/-- R85: the idle-unload timer of a READY, unclaimed drive starts; a value of 0 leaves it stopped. -/
def Dev.startIdle (d : Dev) (c : Chan) : Dev :=
  if (d.drive c).state = .ready ∧ (d.drive c).claim = none ∧ d.cfg.idleUnload ≠ 0 then
    d.modDrive c fun x => { x with idleTimer := some (d.cfg.idleUnload * 1000) }
  else d

/-- R81: a drive that may be granted. -/
def Drive.isFree (x : Drive) : Bool :=
  (x.state = .empty || x.state = .inserting || x.state = .ready) && x.claim.isNone && x.unload.isNone

/-- R86: an unload is asked for. A READY drive becomes EJECTING and its REWIND is wanted; an INSERTING drive begins it when
it becomes READY. -/
def Dev.beginUnload (d : Dev) (c : Chan) (req : Option Requester) : Dev :=
  let x := d.drive c
  if x.unload.isSome then d
  else
    match x.state with
    | .inserting => (d.modDrive c fun x => { x with unload := some ⟨.waitReady, req⟩ }).look
    | .ready =>
      (d.modDrive c fun x =>
        { x with state := .ejecting, unload := some ⟨.rewind, req⟩, idleTimer := none, rate := none, speed := none
                 speedPending := false }).look
    | _ => d

/-- R87, R94: the drive has ejected; its settle timer starts. A value of 0 expires at once. -/
def Dev.startSettle (d : Dev) (c : Chan) : Dev :=
  if d.cfg.settle = 0 then
    (d.modMqu fun m => { m with settle := m.settle.set c none, settled := m.settled.set c true }).push .send
  else d.modMqu fun m => { m with settle := m.settle.set c (some d.cfg.settle), settled := m.settled.set c false }

/-- The label of the mounted cartridge (R75). -/
def Dev.mountedLabel (d : Dev) (c : Chan) : Option Label :=
  match (d.drive c).mounted with
  | .cart i => d.cartLabel i
  | _ => none

/-- R75: what a FAULT notice reports of a drive as it stands (log entry 37). -/
def Dev.driveReport (d : Dev) (c : Chan) : DriveReport :=
  { state := (d.drive c).state, claim := (d.drive c).claim, label := d.mountedLabel c }

/-- The drive that holds a cartridge in its place (R1). -/
def Dev.driveOf (d : Dev) (i : CartIx) : Option Chan :=
  match (d.cart i).bind (·.location) with
  | some (.drive c) => some c
  | _ => none

end Sys2Proof.Machine
end

