-- ==== Sys2Proof/Machine/Moves.lean ====
section
/-! DEFINITION. The move queue unit (chapter 5): orders and their admission, the send rule, completions, the changer, scans,
the inventory, and imports. -/

namespace Sys2Proof.Machine

/-! ### The queue (R91 to R93) -/

def Order.isMove (o : Order) : Bool := o.kind ≠ .scan
def Dev.sentOrder (d : Dev) : Option Order := d.mqu.queue.find? fun o => o.state = .sent
/-- An order in the queue names the cartridge. -/
def Dev.orderNames (d : Dev) (i : CartIx) : Bool := d.mqu.queue.any fun o => o.cart = Occupant.cart i
def Dev.scanQueued (d : Dev) (p : Place) : Bool := d.mqu.queue.any fun o => o.kind = .scan && o.src = p

/-- R92, R95, R106, R107: what is tested again when an order leaves the queue. -/
def Dev.orderLeft (d : Dev) : Dev := (d.pushFront [.offers]).pushAll [.send, .inventoryEnd, .bring .ch0, .bring .ch1]

/-- R106: a place joins the scan list, and is unconfirmed from then on. With `fresh`, a SCAN of it that has been sent does
not stand in the way (R186). -/
def Dev.joinScan (d : Dev) (fresh : Bool) (p : Place) : Dev :=
  let d := d.setConfirmed p false
  let queued := d.mqu.queue.any fun o => o.kind = .scan && o.src = p && !(fresh && o.state = .sent)
  if p ∈ d.mqu.scanList ∨ queued then d
  else
    (d.modMqu fun m => { m with scanList := allSlots.filter fun q => q ∈ m.scanList ∨ q = p }).push .feedScan

/-- Puts one slot on the scan list, or has a drive place's channel send STATUS (R99, R104). A slot of the stop list whose halted SCAN is
still SENT at STOP_RESUME does not join, as R106 has it of a place with a SCAN in the queue (R187; DEDUCED, log entry 71). -/
def Dev.checkPlace (d : Dev) (p : Place) : Dev :=
  match p with
  | .drive c => d.wantStatus c { other := true }
  | _ => d.joinScan false p

/-- Takes an order out of the queue; the SCAN of a halted place goes first no longer (R187). -/
def Dev.dropOrder (d : Dev) (o : Order) : Dev :=
  (d.modMqu fun m =>
    { m with queue := m.queue.erase o, first := if o.kind = .scan then m.first.filter (· ≠ o.src) else m.first }).orderLeft

/-- How an offer to the move queue ends (R92). -/
inductive Admit | taken | absorbed | merged | busy | notTaken
  deriving DecidableEq, Repr

/-- The WAITING LOAD of an order's cartridge (R92, cases 2 and 3). -/
def Dev.waitingLoad (d : Dev) (o : Order) : Option Order :=
  match o.cart with
  | .cart i => d.mqu.queue.find? fun (x : Order) => x.kind = .load && x.state = .waiting && x.cart = Occupant.cart i
  | _ => none

/-- An order in the queue names the order's cartridge (R92, case 4). -/
def Dev.cartNamed (d : Dev) (o : Order) : Bool :=
  match o.cart with
  | .cart i => d.orderNames i
  | _ => false

/-- R92, cases 4 to 6. -/
def Dev.admitOrder (d : Dev) (o : Order) : Dev × Admit :=
  if d.cartNamed o = true ∨ Config.maxOrders ≤ d.mqu.queue.length then (d, .busy)
  else ((d.modMqu fun m => { m with queue := m.queue ++ [o] }).push .send, .taken)

/-- R92. -/
def Dev.offerOrder (d : Dev) (o : Order) : Dev × Admit :=
  if o.kind = .scan ∧ (d.scanQueued o.src ∨ o.src ∈ d.mqu.scanList) then (d, .absorbed)
  else
    match d.waitingLoad o with
    | some l =>
      if o.kind = .unload then ((d.dropOrder l).joinScan false l.src, .notTaken)
      else if o.kind = .load ∧ l.dst = o.dst then
        let l' := { l with reqs := l.reqs ++ o.reqs.filter fun r => r ∉ l.reqs }
        ((d.modMqu fun m => { m with queue := m.queue.map fun x => if x = l then l' else x }).push .send, .merged)
      else d.admitOrder o
    | none => d.admitOrder o

/-- R87: the channel offers the UNLOAD of what its drive place holds. One refused as full is kept to be offered again; one
not taken (R92, case 2) wants a STATUS; an EXPORT tag that then finds no new UNLOAD is answered NO_CARTRIDGE (R101; DESIGN CHOICE, log
entry 77). -/
def Dev.offerUnload (d : Dev) (c : Chan) (reqs : List Requester) : Dev :=
  let d := d.modDrive c fun x => { x with offer := none }
  match d.occ (.drive c) with
  | .none => reqs.foldl (fun d r => match r with | .panel q => d.answer q .noCartridge | _ => d) d
  | o =>
    match d.offerOrder { kind := .unload, cart := o, src := .drive c, reqs := reqs } with
    | (d, .busy) => d.modDrive c fun x => { x with offer := some reqs }
    | (d, .notTaken) => d.wantStatus c { retry := some ⟨reqs, .noCartridge⟩ }
    | (d, _) => d

/-- R101: an order's requesters are told. An EXPORT tag carried by an UNLOAD is not answered here. -/
def Dev.tell (d : Dev) (o : Order) (st : Status) : Dev :=
  let d := o.reqs.foldl (fun d r =>
    match r with
    | .panel q => if o.kind = .unload then d else d.answer q st
    | _ => d) d
  d.look

/-- R87: an UNLOAD has failed; its channel wants a STATUS, and offers the UNLOAD again if the answer is EJECTED. -/
def Dev.unloadFailed (d : Dev) (o : Order) (st : Status) : Dev :=
  match o.src with
  | .drive c =>
    let d := d.modMqu fun m => { m with settled := m.settled.set c false }
    if (d.drive c).state = .absent then
      o.reqs.foldl (fun d r => match r with | .panel q => d.answer q st | _ => d) d
    else d.wantStatus c { retry := some ⟨o.reqs, st⟩ }
  | _ => d

/-- R91, R101: an order becomes FAILED and leaves the queue. -/
def Dev.failOrder (d : Dev) (o : Order) (st : Status) : Dev :=
  let d := (d.dropOrder o).tell o st
  if o.kind = .unload then d.unloadFailed o st else d

/-- R93: one WAITING order follows the catalogue. -/
def Dev.orderFollows (d : Dev) (o : Order) : Dev :=
  if o.state ≠ .waiting ∨ o ∉ d.mqu.queue then d
  else if o.kind = .load ∧ o.reqs = [] then d.dropOrder o
  else
    match o.cart with
    | .cart i =>
      match (d.cart i).bind (·.location) with
      | none => d.failOrder o .noCartridge
      | some (.drive c) => if o.kind = .unload ∧ d.occ (.drive c) = Occupant.none then d.failOrder o .noCartridge else d
      | some p =>
        if o.kind = .unload ∨ o.kind = .scan ∨ o.src = p then d
        else
          let there := match o.kind, p with
            | .importing, .slot _ => true
            | .exporting, .mail _ => true
            | .relocate, p => o.dst = some p
            | _, _ => false
          if there then (d.dropOrder o).tell o .ok
          else (d.modMqu fun m => { m with queue := m.queue.map fun x => if x = o then { o with src := p } else x }).push .send
    | .unregistered => if d.occ o.src = .none then d.failOrder o .noCartridge else d
    | .none => d

/-- R93. -/
def Dev.ordersFollow (d : Dev) : Dev := d.mqu.queue.foldl Dev.orderFollows d

/-- R89, R93: a session has ended; no order and no unload names it any more. -/
def Dev.forgetRequester (d : Dev) (h : Nat) : Dev :=
  let drop (l : List Requester) := l.filter (· ≠ .session h)
  let one (x : Drive) : Drive :=
    { x with unload := x.unload.map fun u => if u.req = some (.session h) then { u with req := none } else u
             offer := x.offer.map drop
             wants := { x.wants with retry := x.wants.retry.map fun r => { r with reqs := drop r.reqs } } }
  ((((d.modMqu fun m => { m with queue := m.queue.map fun o => { o with reqs := drop o.reqs } }).modDrive .ch0 one).modDrive
    .ch1 one).push .orders).push .send

/-! ### The send rule (R95 to R97) -/

/-- R103. -/
def Mover.held (m : Mover) : Bool := m.holdDoor || m.holdStop || m.holdPower || m.holdFault

def Dev.freeSlots (d : Dev) : List Place := ((List.finRange 24).map Place.slot).filter d.isFree
def Dev.freeMail (d : Dev) : Option Place := ((List.finRange 2).map Place.mail).find? d.isFree
def Dev.freeInPool (d : Dev) (k : Nat) : Option Place :=
  d.freeSlots.find? fun p => match p with | .slot n => d.cat.live.inPool k n.val | _ => false
def Dev.freeHome (d : Dev) (i : CartIx) : Option Place :=
  match (d.cart i).bind (·.home) with
  | some n => if d.isFree (.slot n) then some (.slot n) else none
  | none => none

/-- The first that exists. -/
def firstSome {α : Type} : List (Option α) → Option α
  | [] => none
  | some x :: _ => some x
  | none :: t => firstSome t

/-- R96: the destination chosen at send; LOAD and RELOCATE carry theirs, and a SCAN has none. -/
def Dev.chooseDest (d : Dev) (o : Order) : Option Place :=
  match o.kind with
  | .unload =>
    if Requester.startUp ∈ o.reqs then
      match o.cart with
      | .cart i => firstSome [d.freeHome i, d.freeMail]
      | _ => d.freeMail
    else
      match o.cart with
      | .cart i =>
        firstSome [d.freeHome i, d.freeInPool (((d.cart i).map (·.pool)).getD 0), d.freeSlots.head?, d.freeMail]
      | _ => firstSome [d.freeSlots.head?, d.freeMail]
  | .importing =>
    match o.cart with
    | .cart i => firstSome [d.freeHome i, d.freeInPool 0]
    | _ => none
  | .exporting => d.freeMail
  | _ => o.dst

/-- R95: an order's condition but for its destination. -/
def Dev.readyBut (d : Dev) (o : Order) : Bool :=
  match o.kind with
  | .load =>
    d.confirmed o.src &&
      (match o.dst with
        | some (.drive c) =>
          let x := d.drive c
          x.state = .empty && d.occ (.drive c) = .none &&
            (match x.claim with | none => true | some h => o.reqs.any fun r => r = Requester.session h)
        | _ => false)
  | .unload => (match o.src with | .drive c => d.mqu.settled.get c | _ => false) && d.confirmed o.src
  | .importing | .exporting => d.confirmed o.src
  | .relocate => d.confirmed o.src && (match o.dst with | some p => d.isFree p | none => false)
  | .scan => true

/-- R95: whether an order needs a destination and none can be chosen. -/
def Dev.noPlace (d : Dev) (o : Order) : Bool :=
  match o.kind with
  | .unload | .importing | .exporting => (d.chooseDest o).isNone
  | _ => false

def Dev.isReady (d : Dev) (o : Order) : Bool := o.state = .waiting && d.readyBut o && !d.noPlace o

/-- R95: the wait reason of a WAITING order. NO_PLACE is for a destination still to be chosen; a RELOCATE whose own destination is
not free carries NOT_READY (DEDUCED, log entry 40). -/
def Dev.waitReason (d : Dev) (o : Order) : Order :=
  if o.state ≠ .waiting then o
  else if d.isReady o then { o with wait := .none }
  else { o with wait := if d.readyBut o then .noPlace else .notReady }

/-- R95: a RELOCATE whose source and destination are confirmed and whose destination is occupied. One to a mail slot whose occupant is
NONE and that carries an export mark still (R96) waits, NOT_READY (DESIGN CHOICE, log entry 65). -/
def Dev.relocateFails (d : Dev) (o : Order) : Bool :=
  o.kind = .relocate && o.state = .waiting && d.confirmed o.src &&
    (match o.dst with | some p => d.confirmed p && d.occ p ≠ .none | none => false)

/-- R97: sends one order. -/
def Dev.sendOrder (d : Dev) (o : Order) : Dev :=
  let t := d.mqu.nextTag
  let dst := d.chooseDest o
  let o' := { o with state := .sent, wait := .none, dst := dst, tag := some t }
  let d := d.modMqu fun m =>
    { m with queue := m.queue.map (fun x => if x = o then o' else x), nextTag := (t + 1) % 256, sent := some ⟨t, .order⟩
             picker := some Config.pickerMs }
  match o.kind, dst with
  | .scan, _ => d.emit (.scan t o.src)
  | _, some p => d.emit (.move t o.src p)
  | _, none => d

/-- R95: the order sent next: the oldest that is ready, but that the ready scans of the halted places go first (R187; log entry
48). -/
def Dev.nextOrder (d : Dev) : Option Order :=
  (d.mqu.queue.find? fun o => d.isReady o && (o.kind = .scan && d.mqu.first.contains o.src)).orElse fun _ =>
    d.mqu.queue.find? d.isReady

/-- R95: the send test, on the WAITING orders as the catalogue now has them (R93). -/
def Dev.sendTest (d : Dev) : Dev :=
  let d := d.ordersFollow
  let d := (d.mqu.queue.filter d.relocateFails).foldl (fun d o => d.failOrder o .badState) d
  let d := d.modMqu fun m => { m with queue := m.queue.map d.waitReason }
  if d.mqu.held || d.mqu.changer ≠ .ready || d.mqu.sent.isSome then d
  else
    match d.nextOrder with
    | some o => d.sendOrder o
    | none => d

/-- R102, R105: a wanted STATUS is sent to the changer as soon as no message is outstanding. -/
def Dev.sendChangerStatus (d : Dev) : Dev :=
  if d.mqu.statusWant && d.mqu.sent.isNone && d.mqu.stale.isNone then
    let t := d.mqu.nextTag
    (d.modMqu fun m =>
      { m with statusWant := false, nextTag := (t + 1) % 256, sent := some ⟨t, .status⟩, picker := some Config.pickerMs }).emit
      (.changerStatus t)
  else d

/-! ### The scan list and the inventory (R106 to R109) -/

/-- R106: the first place of the list leaves it and its SCAN joins the queue, when none is there and there is room. -/
def Dev.feedScan (d : Dev) : Dev :=
  match d.mqu.scanList with
  | [] => d
  | p :: rest =>
    if d.mqu.queue.any (fun o => o.kind = .scan) || Config.maxOrders ≤ d.mqu.queue.length then d
    else
      ((d.modMqu fun m =>
        { m with scanList := rest, queue := m.queue ++ [{ kind := .scan, cart := .none, src := p }] }).push .send)

/-- R107: a full inventory starts, or continues the one that runs. -/
def Dev.startInventory (d : Dev) : Dev :=
  let d := d.modMqu fun m =>
    { m with inventory := true, missing := if m.inventory then m.missing else [],
             missingErased := if m.inventory then m.missingErased else 0,
             registered := if m.inventory then m.registered else 0 }
  let d := allPlaces.foldl (fun d p => if d.placeExists p then d.setConfirmed p false else d) d
  let d := allSlots.foldl (fun d p => d.joinScan false p) d
  ((d.wantStatus .ch0 { other := true }).wantStatus .ch1 { other := true }).push .inventoryEnd

/-- R4, R27: what MQU keeps of a cartridge whose entry is freed: an export mark goes on naming it, by its label, and it stays one of
those found missing (DEDUCED, log entries 61 and 62). The entry may hold another cartridge from then on. -/
def Mover.entryFreed (m : Mover) (i : CartIx) (l : Option Label) : Mover :=
  let named (k : Option Marked) : Option Marked := if k = some (.cart i) then some (.erased l) else k
  { m with
    exportMark := ⟨named m.exportMark.zero, named m.exportMark.one⟩, missing := m.missing.filter (· ≠ i)
    missingErased := m.missingErased + if i ∈ m.missing then 1 else 0 }

/-- R107: the inventory ends when no scan is left. -/
def Dev.endInventory (d : Dev) : Dev :=
  if d.mqu.inventory && d.mqu.scanList.isEmpty && !(d.mqu.queue.any fun o => o.kind = .scan) then
    (d.noticeAll (.inventoryDone (d.mqu.missing.length + d.mqu.missingErased) d.mqu.registered)).modMqu fun m =>
      { m with inventory := false, missing := [], missingErased := 0, registered := 0 }
  else d

/-- R108: a registered cartridge recorded at a place is displaced: its location becomes ABSENT. -/
def Dev.displaceAt (d : Dev) (p : Place) : Dev :=
  match d.occ p with
  | .cart i =>
    let d := d.moveCart i none
    if d.mqu.inventory then d.modMqu fun m => { m with missing := if i ∈ m.missing then m.missing else m.missing ++ [i] }
    else d
  | _ => d

/-- R108, R109: registers what was scanned at a place, or records it UNREGISTERED with a TABLE_FULL notice. -/
def Dev.registerAt (d : Dev) (p : Place) (l : Option Label) : Dev :=
  match d.register p l with
  | some d => d
  | none => (d.setOcc p .unregistered).notice .P (.tableFull p)

/-- R108: a label read at a place. -/
def Dev.scanLabel (d : Dev) (x : Place) (l : Label) : Dev :=
  match d.byLabel l with
  | none => (d.displaceAt x).registerAt x (some l)
  | some i =>
    match (d.cart i).bind (·.location) with
    | some (.drive _) => (d.displaceAt x).setOcc x .unregistered
    | some y =>
      if y = x then d
      else if d.confirmed y then (d.displaceAt x).setOcc x .unregistered
      else
        (((d.displaceAt x).moveCart i (some x)).modMqu fun m => { m with missing := m.missing.filter (· ≠ i) }).joinScan false y
    | none => ((d.displaceAt x).moveCart i (some x)).modMqu fun m => { m with missing := m.missing.filter (· ≠ i) }

/-- R109: no label read at a place. -/
def Dev.scanNoLabel (d : Dev) (x : Place) : Dev :=
  match d.occ x with
  | .cart i => if (d.cart i).any (·.label.isNone) then d else (d.displaceAt x).registerAt x none
  | _ => d.registerAt x none

/-- R108: what a scan of place `x` read, as reconciled, is the cartridge an export mark names. One whose entry ERASE has freed is known
by its label alone (DEDUCED, log entry 61). -/
def Dev.shows (d : Dev) (x : Place) (k : ScanKind) : Marked → Bool
  | .cart i =>
    match k with
    | .label l => if labelOk l then d.byLabel l = some i else d.occ x = Occupant.cart i
    | .noLabel => d.occ x = Occupant.cart i
    | _ => false
  | .erased t =>
    match k with
    | .label l => labelOk l && t = some l
    | _ => false

/-- R108, R110: clears a mail slot's export mark when the scan shows EMPTY or another cartridge. -/
def Dev.checkExportMark (d : Dev) (x : Place) (k : ScanKind) : Dev :=
  match x with
  | .mail m =>
    match d.mqu.exportMark.get (mailChan m) with
    | none => d
    | some t =>
      if d.shows x k t then d
      else (d.modMqu fun q => { q with exportMark := q.exportMark.set (mailChan m) none }).push .send
  | _ => d

/-- R108, R109: a SCAN result other than DOOR_OPEN is reconciled. A label R97 does not allow is taken as NO_LABEL. -/
def Dev.reconcile (d : Dev) (x : Place) (k : ScanKind) : Dev :=
  let d := match k with
    | .empty => (d.displaceAt x).setOcc x .none
    | .label l => if labelOk l then d.scanLabel x l else d.scanNoLabel x
    | .noLabel => d.scanNoLabel x
    | .doorOpen => d
  d.checkExportMark x k

/-! ### Imports (R110) -/

/-- R110: an import starts: both mail slots become unconfirmed and join the scan list, marked for import. -/
def Dev.startImport (d : Dev) : Dev :=
  let one (d : Dev) (m : Fin 2) : Dev :=
    (d.joinScan true (.mail m)).modMqu fun q => { q with importMark := q.importMark.set (mailChan m) true }
  one (one d 0) 1

/-- Which IMPORT of a mail slot is to be offered again (R110). -/
def Dev.setImportWait (d : Dev) (m : Fin 2) (i : Option CartIx) : Dev :=
  d.modMqu fun q => { q with importWait := q.importWait.set (mailChan m) i }

/-- The IMPORT of what a mail slot holds (R110). -/
def importOrder (m : Fin 2) (i : CartIx) : Order :=
  { kind := .importing, cart := .cart i, src := .mail m, reqs := [.importing] }

/-- R110: the IMPORT of what a mail slot holds is offered; one refused because the queue is full is kept to be offered again. -/
def Dev.offerImport (d : Dev) (m : Fin 2) (i : CartIx) : Dev :=
  if d.occ (.mail m) = Occupant.cart i then
    match d.offerOrder (importOrder m i) with
    | (d, .busy) => if d.orderNames i then d else d.setImportWait m (some i)
    | (d, _) => d.setImportWait m none
  else d

/-- R110: after the SCAN of a mail slot marked for import has been reconciled, and the orders have followed the catalogue (R93): an
order that this SCAN leaves with nothing to do names the cartridge no longer. The offer is one of those made as the order leaves
the queue, whichever is taken first (R92; log entry 5). While a later press has put the slot on the scan list again, the mark waits for
the fresh SCAN (R186; DESIGN CHOICE, log entry 55). -/
def Dev.importScanned (d : Dev) (x : Place) : Dev :=
  match x with
  | .mail m =>
    if d.mqu.importMark.get (mailChan m) && !(d.mqu.scanList.contains x) then
      let d := (d.modMqu fun q => { q with importMark := q.importMark.set (mailChan m) false }).ordersFollow
      match d.occ x with
      | .cart i => if (d.mqu.exportMark.get (mailChan m)).isNone ∧ ¬ d.orderNames i then d.push (.freshImport m i) else d
      | _ => d
    else d
  | _ => d

/-- R110: an IMPORT offer is made again, at each order that leaves until it is taken, while the cartridge stays in the mail slot. -/
def Dev.reofferImport (d : Dev) (m : Fin 2) : Dev :=
  match d.mqu.importWait.get (mailChan m) with
  | some i =>
    if d.occ (.mail m) = Occupant.cart i then
      match d.offerOrder (importOrder m i) with
      | (d, .busy) => d
      | (d, _) => d.setImportWait m none
    else d.setImportWait m none
  | none => d

/-! ### Completions (R98 to R102) -/

/-- R102: the changer enters FAULT. -/
def Dev.changerFault (d : Dev) : Dev :=
  (d.modMqu fun m => { m with changer := .fault, holdFault := true }).noticeAll (.fault .changer none)

/-- R100: a place becomes unconfirmed after an unclear outcome. -/
def Dev.doubt (d : Dev) (p : Option Place) : Dev :=
  match p with
  | some p => d.setConfirmed p false
  | none => d

/-- R100: the order in flight failed with cause FAULT, and the changer enters FAULT. -/
def Dev.orderFault (d : Dev) (o : Order) : Dev := ((d.doubt (some o.src)).doubt o.dst).failOrder o .fault |>.changerFault

/-- R99, R100: an order returns to WAITING; a destination chosen at send is cleared. It follows the catalogue again at once (R93): a
LOAD whose sessions have all ended meanwhile is removed (DEDUCED, log entry 42). -/
def Dev.requeue (d : Dev) (o : Order) (retry : Nat) : Dev :=
  let keepDst := o.kind = .load || o.kind = .relocate
  let o' := { o with state := .waiting, tag := none, halted := false, retry := retry, dst := if keepDst then o.dst else none }
  (d.modMqu fun m => { m with queue := m.queue.map fun x => if x = o then o' else x }).push .send

/-- R72, R98: an OK LOAD puts its cartridge into an EMPTY drive, which enters INSERTING. The cartridge is claimed when it is the
session cartridge of the session that claims the drive (R11, R79; log entry 47). -/
def Dev.loaded (d : Dev) (i : CartIx) (c : Chan) : Dev :=
  let d := d.modCart i fun x => { x with loads := satInc x.loads }
  if (d.drive c).state = .empty then
    let d := d.modDrive c fun x =>
      { x with state := .inserting, mounted := .cart i, pos := none, insertTimer := some Config.insertReadyMs }
    match (d.drive c).claim with
    | some h =>
      if (d.sess c).any fun s => s.handle = h ∧ s.cart = some i then (d.setClaim i (some h)).look else d.look
    | none => d.look
  else d.setConfirmed (.drive c) false

/-- R8: the RETIRED test of an OK UNLOAD. -/
def Dev.retireTest (d : Dev) (i : CartIx) : Dev :=
  match d.cart i with
  | some x =>
    if d.cfg.retireLimit ≤ x.loads ∧ ¬ x.retired then (d.modCart i fun x => { x with retired := true }).reselect else d
  | none => d

/-- The export mark of a mail slot (R98, R110). -/
def Dev.markExport (d : Dev) (p : Place) (i : Option CartIx) : Dev :=
  match p with
  | .mail m => (d.modMqu fun q => { q with exportMark := q.exportMark.set (mailChan m) (i.map .cart) }).push .send
  | _ => d

/-- R98, R101, UNLOAD of what is now known as `what`: what follows for an EXPORT tag: the EXPORT takes the place the UNLOAD has left, or
the mail slot it landed in is marked and the request answered. The tag of a cartridge found ABSENT, carried by the UNLOAD of what the
drive then showed, is answered too: OK when that landed in a mail slot, NO_CARTRIDGE elsewhere, since no EXPORT can follow (DEDUCED, log
entry 54). -/
def Dev.unloaded (d : Dev) (o : Order) (what : Occupant) (dst : Place) : Dev :=
  let tag := o.reqs.findSome? fun r => match r with | .panel q => some q | _ => none
  match tag, what, dst with
  | some q, .cart i, .slot _ =>
    let e : Order := { kind := .exporting, cart := .cart i, src := dst, reqs := [.panel q] }
    (d.modMqu fun m => { m with queue := m.queue.map fun x => if x = o then e else x }).orderLeft.look
  | some q, .cart i, _ => (((d.dropOrder o).markExport dst (some i)).answer q .ok).look
  | some q, _, .mail _ => ((d.dropOrder o).answer q .ok).look
  | some q, _, _ => ((d.dropOrder o).answer q .noCartridge).look
  | none, _, _ => (d.dropOrder o).look

/-- What an order moves, as the catalogue stands (R93): a cartridge whose entry was freed while the order was SENT is UNREGISTERED, and
lands as one (R98; DEDUCED, log entry 64). -/
def Dev.moved (d : Dev) (o : Order) : Occupant :=
  match o.cart with
  | .cart i => if (d.cart i).isSome then .cart i else .unregistered
  | _ => .unregistered

/-- R98: an OK MOVE, from its source to its destination. -/
def Dev.moveDone (d : Dev) (o : Order) (dst : Place) : Dev :=
  let what := d.moved o
  let d := match what with
    | .cart i => d.moveCart i (some dst)
    | _ => (d.setOcc o.src .none).setOcc dst .unregistered
  let d := if o.halted then d else (d.setConfirmed o.src true).setConfirmed dst true
  match o.kind, what, dst with
  | .load, .cart i, .drive c => ((d.dropOrder o).loaded i c).tell o .ok
  | .unload, .cart i, _ => (((d.setOcc o.src .none).retireTest i).settleHome i dst).unloaded o what dst
  | .unload, _, _ => ((d.setOcc o.src .none).unloaded o what dst).checkPlace dst
  | .importing, .cart i, _ => (((d.settleHome i dst).markExport o.src none).dropOrder o).tell o .ok
  | .exporting, .cart i, _ => ((d.markExport dst (some i)).dropOrder o).tell o .ok
  | .relocate, .cart i, _ => (((d.settleHome i dst).markExport o.src none).dropOrder o).tell o .ok
  | _, _, _ => (d.dropOrder o).tell o .ok

/-- R98 to R100: a MOVE completion is applied to its order. -/
def Dev.applyMove (d : Dev) (o : Order) (k : MoveKind) : Dev :=
  match k, o.dst with
  | .ok, some dst => d.moveDone o dst
  | .ok, none => d.orderFault o
  | .fromEmpty, _ => ((d.setConfirmed o.src false).checkPlace o.src).failOrder o .noCartridge
  | .toOccupied, dst =>
    let d := match dst with
      | some p => ((if d.occ p = Occupant.none then d.setOcc p .unregistered else d).setConfirmed p false).checkPlace p
      | none => d
    if (o.kind = .unload ∨ o.kind = .importing ∨ o.kind = .exporting) ∧ o.retry < 2 then d.requeue o (o.retry + 1)
    else d.failOrder o .badState
  | .gripFault, _ => d.orderFault o
  | .doorOpen, _ => d.requeue o o.retry

/-- R100, R108, R109: a SCAN completion is applied to its order. -/
def Dev.applyScan (d : Dev) (o : Order) (k : ScanKind) : Dev :=
  if k = .doorOpen then d.requeue o o.retry
  else
    let d := d.reconcile o.src k
    let d := if o.halted then d else d.setConfirmed o.src true
    ((d.dropOrder o).tell o .ok).importScanned o.src

/-- R102, R105: how the changer's STATUS ended. -/
def Dev.changerAnswered (d : Dev) (answered : Bool) : Dev :=
  match d.mqu.clearReq with
  | some r =>
    let d := d.modMqu fun m => { m with clearReq := none }
    if answered then
      let d := d.modMqu fun m => { m with changer := .ready, holdFault := false }
      let d := (allSlots.filter fun p => !d.confirmed p).foldl (fun d p => d.joinScan false p) d
      (d.answer r .ok).push .send
    else d.answer r .fault
  | none =>
    if answered then (d.modMqu fun m => { m with changer := .ready }).push .send
    else if d.mqu.changer = .fault then d
    else d.changerFault

/-- R97: takes a completion with a tag: `none` when it is discarded, else the device with nothing outstanding and what the
message was. -/
def Dev.takeChanger (d : Dev) (tag : Nat) : Option (Dev × ChangerMsg) :=
  match d.mqu.sent with
  | some s => if s.tag = tag then some (d.modMqu fun m => { m with sent := none, picker := none }, s.msg) else none
  | none => none

/-- R102: a completion of a message sent before a RESET request is discarded, and the STATUS may go. -/
def Dev.dropStaleMove (d : Dev) : Dev := (d.modMqu fun m => { m with stale := none, picker := none }).push .changerStatus

/-! ### STOP (R104) -/

/-- R104: a STOP event. -/
def Dev.stopEvent (d : Dev) : Dev :=
  let d := if d.mqu.changer = .ready then d.emit .halt else d
  let d := d.modMqu fun m => { m with holdStop := true }
  match d.sentOrder with
  | some o =>
    if o.halted then d
    else
      let ps := o.src :: o.dst.toList
      let d := ps.foldl (fun d p => d.setConfirmed p false) d
      d.modMqu fun m =>
        { m with queue := m.queue.map (fun x => if x = o then { o with halted := true } else x)
                 stopList := m.stopList ++ ps.filter fun p => p ∉ m.stopList }
  | none => d

/-- R104: STOP_RESUME lifts the hold: the places of the stop list are scanned or checked. Their scans go first (R187): the scan list
is fed before the send rule runs. -/
def Dev.stopResumed (d : Dev) : Dev :=
  let ps := d.mqu.stopList
  let d := d.modMqu fun m => { m with holdStop := false, stopList := [], first := m.first ++ ps.filter (· ∈ allSlots) }
  ((ps.foldl Dev.checkPlace d).pushFront [.feedScan]).push .send

/-! ### Orders leaving the queue (R92) -/

/-- R92: the offers made again as an order leaves the queue, a fresh IMPORT's and the feeding of the scan list are separate
events, whichever is taken first (log entry 5). -/
def Dev.pushOffers (d : Dev) (loads : List Chan) : Dev :=
  let unload (c : Chan) : List Todo := if (d.drive c).offer.isSome then [.offerUnload c] else []
  let imports (m : Fin 2) : List Todo := if (d.mqu.importWait.get (mailChan m)).isSome then [.offerImport m] else []
  let scans : List Todo :=
    if d.mqu.scanList.isEmpty || d.mqu.queue.any (fun o => o.kind = .scan) then [] else [.feedScan]
  let fresh := d.todo.filter fun t => match t with | .freshImport _ _ => true | _ => false
  d.pushRace (unload .ch0 ++ unload .ch1 ++ loads.map .bring ++ scans ++ imports 0 ++ imports 1 ++ fresh)

end Sys2Proof.Machine
end

