-- ==== Sys2Proof/Machine/Sessions.lean ====
section
/-! DEFINITION. What every session shares: its cartridge and claims (R11, R79), the stage memory it gives back (R67), its
reader (R62, R63), its timers, its notices, and its end (R78). -/

namespace Sys2Proof.Machine

/-! ### The session cartridge (R11, R79) -/

/-- The claim of a cartridge ends when it is the given session's. -/
def Dev.unclaim (d : Dev) (i : CartIx) (h : Nat) : Dev :=
  if (d.cart i).any (·.claim = some h) then d.setClaim i none else d

/-- A session's cartridge has been released: selection runs again (R24). -/
def Dev.cartReleased (d : Dev) : Dev := d.reselect.look

/-- The session on a channel has ended: a session that yielded its cartridge to it waits no longer (R142). -/
def Dev.stopYielding (d : Dev) (c : Chan) : Dev := d.modSess (otherChan c) fun s => { s with yields := false }

/-- The session on a channel takes a session cartridge; it is claimed when it is mounted in the session's drive (R79). -/
def Dev.setSessCart (d : Dev) (c : Chan) (i : CartIx) : Dev :=
  match d.sess c with
  | none => d
  | some s =>
    if s.cart = some i then d
    else
      let d := match s.cart with
        | some j => (d.unclaim j s.handle)
        | none => d
      let y := d.sessionCartOf i (some s.handle)
      let d := d.modSess c fun s => { s with cart := some i, yields := y, noted := none }
      let d := match s.cart with
        | some _ => d.cartReleased
        | none => d
      let x := d.drive c
      let here := x.mounted = Occupant.cart i ∧ (x.state = .ready ∨ x.state = .inserting)
      let d := if here ∧ x.claim = some s.handle ∧ (d.cart i).any (·.claim.isNone) then d.setClaim i (some s.handle) else d
      d.look

/-! ### Stage memory (R49, R67) -/

/-- R49, R67: the channel's engines give up their work, its queues are emptied and every page it holds is freed, its halves
become free and its index area empty. -/
def Dev.freeChannelMemory (d : Dev) (c : Chan) : Dev :=
  let d := d.modChan c fun x =>
    { x with enc := {}, dec := none, rawA := {}, rawB := {}, curB := false, halves := ⟨none, none⟩, wq := [], rq := []
             run := .count 0, readerWait := false, trailerWait := none, index := [] }
  d.freePages c (d.smc.heldBy c)

/-! ### The reader (R62, R63) -/

/-- A run is given to the reader (R62). -/
def Dev.setRun (d : Dev) (c : Chan) (r : Run) : Dev :=
  ((d.modChan c fun x => { x with run := r, readerWait := false }).push (.command c)).push (.readHead c)

def Run.left : Run → Bool
  | .count n => 0 < n
  | .openEnded => true

def Run.next : Run → Run
  | .count n => .count (n - 1)
  | .openEnded => .openEnded

/-- Frees a decode half (R48). -/
def Dev.freeHalf (d : Dev) (c h : Chan) : Dev :=
  (d.modChan c fun x => { x with halves := x.halves.set h none }).push (.decoder c)

/-- R63: the session ends its run early: every entry is removed with its page, but one whose READ is in flight, which is
removed at its completion. A decode in progress is given up with its entry: its half is freed and no completion follows, as R49 has it
for an abort; R48 and R63 say nothing of a run that ends early (DEDUCED, log entry 56). -/
def Dev.endRun (d : Dev) (c : Chan) : Dev :=
  let x := d.chan c
  let kept := (x.rq.filter fun e => e.kind.isNone).map fun e => { e with dropped := true }
  let d := match x.dec with
    | some h => d.freeHalf c h
    | none => d
  let d := d.modChan c fun y => { y with rq := kept, run := .count 0, readerWait := false, dec := none }
  d.freePages c (x.rq.length - kept.length)

/-- R63: the head entry of the read queue leaves, with its page, and counts as one record done; a backup counts the records
it has written alone (R68). The entry behind it may be the oldest undecoded record now (R48). -/
def Dev.popRead (d : Dev) (c : Chan) : Dev :=
  let d := (d.modChan c fun x => { x with rq := x.rq.tail }).modSess c fun s =>
    match s.kind with
    | .backup _ => s
    | _ => { s with recordsDone := s.recordsDone + 1 }
  ((d.freePages c 1).push (.command c)).pushAll [.readHead c, .decoder c]

/-- R64: a read session becomes READING on its drive: it runs at step 8. -/
def Dev.fullSpeed (d : Dev) (c : Chan) : Dev :=
  d.modDrive c fun x => if x.speed = some 8 then x else { x with speed := some 8, speedPending := true }

/-! ### Answers, timers and notices of a session -/

/-- The open of a session is answered with a refusal or an abort, under the handle it was given (R172). -/
def Dev.refuseOpen (d : Dev) (c : Chan) (st : Status) : Dev :=
  match d.sess c with
  | some s =>
    let d := match s.openReq with
      | some r => d.answerWith r st s.handle []
      | none => d
    d.modSess c fun s => { s with openReq := none, openTimer := none }
  | none => d

/-- The open of a session is answered OK with a result, and its open-wait timer stops (R83). -/
def Dev.acceptOpen (d : Dev) (c : Chan) (result : List Byte) : Dev :=
  match d.sess c with
  | some s =>
    let d := match s.openReq with
      | some r => d.answerWith r .ok s.handle result
      | none => d
    d.modSess c fun s => { s with openReq := none, openTimer := none }
  | none => d

/-- MEDIA_NEEDED goes out once for each need (R117, R134, R142). -/
def Dev.mediaNeeded (d : Dev) (c : Chan) (n : Need) : Dev :=
  match d.sess c with
  | some s =>
    if s.noted = some n then d
    else
      let l := match n with
        | .cart i => d.cartLabel i
        | .pool _ => none
      (d.noticeOwner s.owner (.mediaNeeded s.handle n l)).modSess c fun s => { s with noted := some n }
  | none => d

/-- A cartridge that MEDIA_NEEDED was noticed for is at a place again: its next absence is a need of its own (R117, R142). -/
def Dev.mediaBack (d : Dev) (c : Chan) : Dev :=
  match (d.sess c).bind (·.noted) with
  | some (.cart i) =>
    if (d.cart i).any (·.location.isSome) then d.modSess c fun s => { s with noted := none } else d
  | _ => d

/-- The answer an abort gives to an open not yet answered (R83, R118, R152). -/
def abortStatus (backup : Bool) : Reason → Status
  | .mediaTimeout => .timeout
  | .driveFault => if backup then .fault else .aborted
  | .writeFault => .fault
  | _ => .aborted

/-! ### The end of a session (R78, R79) -/

/-- The context is cleared, its memory given back, the session cartridge released and the claims ended; what follows from a
drive that becomes free follows (R79, R81, R14): the grant rule first, then the test of the staged map, so that an open granted here puts
the application off (DESIGN CHOICE, log entry 73). -/
def Dev.endSession (d : Dev) (c : Chan) : Dev :=
  match d.sess c with
  | none => d
  | some s =>
    let d := d.freeChannelMemory c
    let d := match s.cart with
      | some i => d.unclaim i s.handle
      | none => d
    let d := d.setSess c none
    let d := d.modDrive c fun x =>
      { x with claim := none, out := x.out.map fun o => if o.owner = some s.handle then { o with owner := none } else o }
    let d := match s.cart with
      | some _ => d.cartReleased
      | none => d
    ((((d.stopYielding c).forgetRequester s.handle).startIdle c).pushAll [.grantRule, .poolsApply]).look

/-- SESSION_ENDED goes to a session's owner port and to port P (R177). -/
def Dev.sessionEnded (d : Dev) (s : Session) (why : Reason) (st : Option Status) (counts : EndCounts) : Dev :=
  d.noticeOwner s.owner (.sessionEnded s.handle why st counts)

/-! ### Waiting for media (R117, R142, R155) -/

/-- A session may act on a cartridge: it does not yield it to another session, and no other session claims it (R142). -/
def Dev.mayHave (d : Dev) (s : Session) (i : CartIx) : Bool :=
  !s.yields && (d.cart i).all fun x => x.claim.isNone || x.claim = some s.handle

/-- A cartridge is mounted in the channel's drive, which is READY with no unload under way and its place confirmed. -/
def Dev.cartHere (d : Dev) (c : Chan) (i : CartIx) : Bool :=
  let x := d.drive c
  x.mounted = Occupant.cart i && x.state = .ready && x.unload.isNone && d.confirmed (.drive c)

/-- A session enters WAIT_MEDIA for a cartridge; a stay bounded by the media-wait timer starts it, a value of 0 expiring at
once (R142, R155), unless the session leaves WAIT_MEDIA at once. The second part says that it has expired. -/
def Dev.startMediaWait (d : Dev) (c : Chan) (timed : Bool) : Dev × Bool :=
  let ready := match d.sess c with
    | some s => s.cart.any fun i => d.mayHave s i && d.cartHere c i
    | none => false
  if !timed || ready then (d, false)
  else if d.cfg.openWait = 0 then (d, true)
  else (d.modSess c fun s => { s with mediaTimer := some (d.cfg.openWait * 1000) }, false)

/-! ### Record checks (R145) -/

/-- R145: the cause of a record that was read with data, or none when it passes. `decoded` is what its decode left. -/
def checkRecord (h : Header) (kind : RecKind) (tape seq : Nat) (decoded : Option (List Byte)) : Option Cause :=
  if !h.check then some .headerFault
  else if h.kind ≠ some kind ∨ h.tape ≠ tape ∨ h.seq ≠ seq then some .sequenceFault
  else
    match decoded with
    | none => some .decodeFault
    | some bs => if crc32 bs ≠ h.rawCrc then some .crcFault else none

/-- R41: what the decode of a record as read leaves in the decode half, OK or not. -/
def decodeLeaves (bs : List Byte) : List Byte :=
  let h := readHeader bs
  (decodeInto h.coding h.rawLength h.payloadLength (readPayload bs)).1

/-- R38 to R41: the raw block the decode of a record as read gives; `none` is DECODE_FAULT. -/
def decodeRecord (bs : List Byte) : Option (List Byte) :=
  let h := readHeader bs
  decodePayload h.coding h.rawLength h.payloadLength (readPayload bs)

/-- R146: one hard error in a set's verify record; the locator is written by the first. -/
def VerifyRec.hardError (v : VerifyRec) (ordinal record : Nat) (cause : Cause) : VerifyRec :=
  { v with hard := satInc v.hard, locator := if v.hard = 0 then some ⟨ordinal, record, cause⟩ else v.locator }

/-- R146: the record number of the record a run meets at place `k` of a segment, with the kind and sequence expected. -/
def BackupSet.expected (x : BackupSet) (g : Segment) (k : Nat) : RecKind × Nat × Nat :=
  let i := (x.locator.map (·.count)).getD 0
  if k < g.count then (.data, g.firstSeq + k, g.firstSeq + k)
  else if k - g.count < i then (.index, k - g.count, x.dataCount + (k - g.count))
  else (.close, x.dataCount, x.dataCount + i)

end Sys2Proof.Machine
end

