-- ==== Sys2Proof/Machine/Verify.lean ====
section
/-! DEFINITION. The verify session (chapter 7). -/

namespace Sys2Proof.Machine

/-- R146: one hard error against a record of the session's set. -/
def Dev.countHard (d : Dev) (e : SetIx) (ordinal record : Nat) (cause : Cause) : Dev :=
  d.modSet e fun x => { x with verify := x.verify.hardError ordinal record cause }

/-- R146: one soft error. -/
def Dev.countSoft (d : Dev) (e : SetIx) : Dev :=
  d.modSet e fun x => { x with verify := { x.verify with soft := satInc x.verify.soft } }

/-- The set a session works on, with its entry. -/
def Dev.setOf (d : Dev) (s : Session) : Option (SetIx × BackupSet) :=
  match s.set with
  | some e => (d.set? e).map fun x => (e, x)
  | none => none

/-- R141: a verify session starts: the verify record is cleared and the session's totals begin anew. -/
def Dev.verifyStart (d : Dev) (c : Chan) : Dev :=
  match d.verify? c with
  | some (s, v) =>
    if v.started then d
    else
      let d := match s.set with
        | some e => d.modSet e fun x => { x with verify := {} }
        | none => d
      d.modVerify c fun v =>
        { v with started := true, cutShort := false, dataClean := true, digest := crc32Preset, storedTotal := 0 }
  | none => d

/-- R150: the result written at a normal end. -/
def verifyOutcome (x : BackupSet) (cutShort : Bool) : VerifyResult :=
  if 0 < x.verify.hard then .failed
  else if cutShort || x.locator.isNone then .incomplete
  else if x.digest.isNone then .passedNoDigest
  else .passed

/-- R150, R152: writes a result and the verify day, and offers VERIFY_DONE to the set's owner port and to port P. -/
def Dev.writeResult (d : Dev) (e : SetIx) (r : VerifyResult) (announce : Bool) : Dev :=
  let d := d.modSet e fun x => { x with verify := { x.verify with result := r, day := some d.cat.day } }
  match d.set? e with
  | some x =>
    if announce then
      d.noticeOwner x.owner (.verifyDone x.number x.verify.result x.verify.soft x.verify.hard x.verify.locator)
    else d
  | none => d

/-- R150: a verify session ends normally. -/
def Dev.verifyEnd (d : Dev) (c : Chan) : Dev :=
  match d.verify? c with
  | some (s, v) =>
    match d.setOf s with
    | some (e, x) =>
      let d := (d.writeResult e (verifyOutcome x v.cutShort) true).freeSet (some e)
      ((d.endRun c).endSession c).sessionEnded s .verified none .none
    | none => (d.endSession c).sessionEnded s .verified none .none
  | none => d

/-- R152: a verify session is aborted. -/
def Dev.verifyAbort (d : Dev) (c : Chan) (why : Reason) : Dev :=
  match d.verify? c with
  | some (s, v) =>
    let d := if v.started then d else d.refuseOpen c (abortStatus false why)
    let d := match d.setOf s with
      | some (e, x) =>
        let d := if v.started then d.writeResult e (if 0 < x.verify.hard then .failed else .incomplete) (why ≠ Reason.reset) else d
        d.freeSet (some e)
      | none => d
    ((d.endSession c).sessionEnded s why none .none).answerOpt s.pendingAbort .ok
  | none => d

/-- R142: a verify session enters WAIT_MEDIA for the cartridge of its current segment. -/
def Dev.verifyWait (d : Dev) (c : Chan) : Dev :=
  match d.verify? c with
  | some (s, v) =>
    match (d.setOf s).bind fun p => p.2.segment v.segment with
    | some g =>
      let d := (d.modVerify c fun v => { v with state := .waitMedia, at_ := 0 }).setSessCart c g.cart
      match d.startMediaWait c v.started with
      | (d, true) => d.verifyAbort c .mediaTimeout
      | (d, false) => d.push (.bring c)
    | none => d.verifyAbort c .driveFault
  | none => d

/-- R149, check 1: the trailer's fields equal the catalogue's. -/
def trailerMatches (x : BackupSet) (t : CloseTrailer) (clean : Bool) (total : Nat) : Bool :=
  let l := x.locator.getD ⟨0, 0, 0⟩
  t.dataCount = x.dataCount && t.stored = x.storedBytes && t.indexCount = l.count && t.fileCount = x.fileCount
    && t.raw = x.rawBytes && t.ordinal = ((x.lastSegment).map (·.ordinal)).getD 0 && t.indexPos = l.pos
    && (match x.digest with
        | some g => t.digestMark = 1 && t.digest = g
        | none => t.digestMark = 0)
    && (!clean || total = x.storedBytes)

/-- R147, R149: an index holds as many entries as the set's file count, with raw lengths that sum to its raw bytes. -/
def indexFits (x : BackupSet) (index : List IndexEntry) : Bool :=
  index.length = x.fileCount && (index.map (·.length)).sum = x.rawBytes

/-- R149: one final check; one that fails counts against the CLOSE trailer's number and the last segment. -/
def Dev.finalCheck (d : Dev) (e : SetIx) (x : BackupSet) (made ok : Bool) (cause : Cause) : Dev :=
  if made && !ok then
    d.countHard e ((x.lastSegment.map (·.ordinal)).getD 0) (x.dataCount + ((x.locator.map (·.count)).getD 0)) cause
  else d

/-- R149: the final checks, in order. -/
def Dev.finalChecks (d : Dev) (c : Chan) : Dev :=
  match d.verify? c with
  | some (s, v) =>
    match d.setOf s with
    | some (e, x) =>
      let located := x.locator.isSome
      let d := match v.trailer with
        | some t => d.finalCheck e x located (trailerMatches x t v.dataClean v.storedTotal) .trailerMismatch
        | none => d
      let d := d.finalCheck e x (located && x.digest.isSome && v.dataClean) (x.digest = some (crc32Finish v.digest)) .digestMismatch
      d.finalCheck e x (located && !v.indexCounted) (v.indexWhole && indexFits x (d.chan c).index) .indexMismatch
    | none => d
  | none => d

/-- R144: the current segment is done: the next one is brought, or the final checks are made and the session ends. -/
def Dev.segmentDone (d : Dev) (c : Chan) : Dev :=
  match d.verify? c with
  | some (s, v) =>
    match d.setOf s with
    | some (_, x) =>
      if v.segment < x.segments.length then (d.modVerify c fun v => { v with segment := v.segment + 1 }).verifyWait c
      else (d.finalChecks c).verifyEnd c
    | none => d
  | none => d

/-- R143: the records a segment's run holds. -/
def BackupSet.runCount (x : BackupSet) (g : Segment) : Nat :=
  if g.ordinal = x.segments.length then
    match x.locator with
    | some l => g.count + l.count + 1
    | none => g.count
  else g.count

/-- R141, R143: the open of a verify is answered, and the session starts, when it first becomes READING. -/
def Dev.verifyOpened (d : Dev) (c : Chan) : Dev :=
  match d.verify? c with
  | some (s, _) =>
    let n := ((d.setOf s).map (·.2.number)).getD 0
    (d.acceptOpen c (leBytes 1 s.handle ++ leBytes 2 n)).verifyStart c
  | none => d

/-- R143: the tape stands at the segment's first position: the session becomes READING. -/
def Dev.verifyArrived (d : Dev) (c : Chan) : Dev :=
  match d.verify? c with
  | some (s, v) =>
    match (d.setOf s).bind fun p => (p.2.segment v.segment).map fun g => (p.2, g) with
    | some (x, g) =>
      let d := ((d.verifyOpened c).modVerify c fun v => { v with state := .reading, at_ := 0 }).modSess c fun s =>
        { s with mediaTimer := none, goal := none }
      (d.fullSpeed c).setRun c (.count (x.runCount g))
    | none => d
  | none => d

/-- R142, R143: the cartridge is mounted and READY: the session positions the tape, or passes over an empty segment. -/
def Dev.verifyMounted (d : Dev) (c : Chan) : Dev :=
  match d.verify? c with
  | some (s, v) =>
    match (d.setOf s).bind fun p => (p.2.segment v.segment).map fun g => (p.2, g) with
    | some (x, g) =>
      let d := d.modSess c fun s => { s with mediaTimer := none, noted := none, goal := some g.firstPos }
      if x.runCount g = 0 then d.segmentDone c
      else (d.modVerify c fun v => { v with state := .positioning }).push (.command c)
    | none => d
  | none => d

/-- R144: the reading is cut short, and the session ends. -/
def Dev.verifyCut (d : Dev) (c : Chan) : Dev :=
  ((d.endRun c).modVerify c fun v => { v with cutShort := true }).verifyEnd c

/-- R143: a LOCATE or REWIND of POSITIONING that failed. One that fails before the session was ever READING answers the open OK and
starts the session, since its error is counted in the verify record (DEDUCED, log entry 45). A segment skipped counts against its
first record, and leaves the index not whole when it holds the set's INDEX records (R147). -/
def Dev.verifyMissed (d : Dev) (c : Chan) (blank : Bool) : Dev :=
  let d := d.verifyOpened c
  if blank then d.verifyCut c
  else
    match d.verify? c with
    | some (s, v) =>
      match (d.setOf s).bind fun p => (p.2.segment v.segment).map fun g => (p.1, p.2, g) with
      | some (e, x, g) =>
        let (kind, _, number) := x.expected g 0
        let holdsIndex := decide (g.ordinal = x.segments.length ∧ 0 < (x.locator.map (·.count)).getD 0)
        ((d.countHard e g.ordinal number .readFault).modVerify c fun v =>
          { v with dataClean := false, indexWhole := v.indexWhole && !holdsIndex
                   indexCounted := v.indexCounted || kind = RecKind.index }).segmentDone c
      | none => d
    | none => d

/-- R144: the expected record advances by one; after the last of the run the segment is done. -/
def Dev.verifyAdvance (d : Dev) (c : Chan) : Dev :=
  let d := d.modVerify c fun v => { v with at_ := v.at_ + 1 }
  match d.verify? c with
  | some (s, v) =>
    match (d.setOf s).bind fun p => (p.2.segment v.segment).map fun g => (p.2, g) with
    | some (x, g) => if x.runCount g ≤ v.at_ then d.segmentDone c else d
    | none => d
  | none => d

/-- R145 to R148: a record that arrived with data is checked. -/
def Dev.verifyRecord (d : Dev) (c : Chan) (entry : ReadEntry) (decoded : Option (List Byte)) : Dev :=
  match d.verify? c with
  | some (s, v) =>
    match (d.setOf s).bind fun p => (p.2.segment v.segment).map fun g => (p.1, p.2, g) with
    | some (e, x, g) =>
      let d := if entry.kind = some .softRecovered then d.countSoft e else d
      let h := readHeader entry.bytes
      let (kind, seq, number) := x.expected g v.at_
      let d := match checkRecord h kind x.tape seq decoded, decoded with
        | some cause, _ =>
          (d.countHard e g.ordinal number cause).modVerify c fun v =>
            { v with dataClean := v.dataClean && kind ≠ RecKind.data, indexWhole := v.indexWhole && kind ≠ RecKind.index
                     indexCounted := v.indexCounted || kind = RecKind.index }
        | none, some bs =>
          match kind with
          | .data => d.modVerify c fun v =>
              { v with digest := crc32Extend v.digest (crc32Bytes (crc32 bs)), storedTotal := v.storedTotal + h.payloadLength }
          | .index =>
            let (area, ok) := unpackEntries bs.length bs (d.chan c).index
            (d.modChan c fun x => { x with index := area }).modVerify c fun v => { v with indexWhole := v.indexWhole && ok }
          | _ => d.modVerify c fun v => { v with trailer := some (readCloseTrailer bs) }
        | none, none => d
      d.verifyAdvance c
    | none => d
  | none => d

/-- R144: an entry without a record, at the head of the read queue. -/
def Dev.verifyNoRecord (d : Dev) (c : Chan) (k : DriveKind) : Dev :=
  if k = .hardRead then
    match d.verify? c with
    | some (s, v) =>
      match (d.setOf s).bind fun p => (p.2.segment v.segment).map fun g => (p.1, p.2, g) with
      | some (e, x, g) =>
        let (kind, _, number) := x.expected g v.at_
        let d := (d.countHard e g.ordinal number .readFault).modVerify c fun v =>
          { v with dataClean := v.dataClean && kind ≠ RecKind.data, indexWhole := v.indexWhole && kind ≠ RecKind.index
                   indexCounted := v.indexCounted || kind = RecKind.index }
        d.verifyAdvance c
      | none => d
    | none => d
  else d.verifyCut c

/-- R141: the session of a verify open at its grant. A set with nothing to read ends it at once. -/
def Dev.verifyGranted (d : Dev) (c : Chan) : Dev :=
  match d.verify? c with
  | some (s, _) =>
    match d.setOf s with
    | some (_, x) =>
      if x.locator.isNone ∧ x.segments.all (fun g => g.count = 0) then
        let d := match x.segment 1 with
          | some g => d.setSessCart c g.cart
          | none => d
        (d.verifyOpened c).verifyEnd c
      else d.verifyWait c
    | none => d
  | none => d

/-- R131, R141: a backup closed with verify-after becomes a verify session of its set, which starts at once. -/
def Dev.verifyAfter (d : Dev) (c : Chan) : Dev :=
  let d := d.freeChannelMemory c
  let d := d.modSess c fun s =>
    { s with kind := .verify {}, recordsDone := 0, noted := none, goal := none, mediaTimer := none }
  (d.verifyStart c).verifyWait c

end Sys2Proof.Machine
end

