-- ==== Sys2Proof/Machine/Backup.lean ====
section
/-! DEFINITION. The backup session (chapter 6), with its raw halves and credits (R54 to R57), its encoder (R45 to R47), its
write queue (R59, R60) and its index builder (R129). -/

namespace Sys2Proof.Machine

/-! ### Raw halves and credits (R54 to R57) -/

def Channel.half (x : Channel) (b : Bool) : RawHalf := if b then x.rawB else x.rawA
def Channel.setHalf (x : Channel) (b : Bool) (h : RawHalf) : Channel :=
  if b then { x with rawB := h } else { x with rawA := h }

/-- R122: the offset at which the next byte of the stream will go: in the current half, or, while that half is still HANDED, at the
start of a fresh block. -/
def Channel.nextOffset (x : Channel) : Nat :=
  if (x.half x.curB).state = .handed then 0 else (x.half x.curB).bytes.length

/-- R54: the bytes held by a session. -/
def Channel.bytesHeld (x : Channel) : Nat := x.rawA.bytes.length + x.rawB.bytes.length

/-- R55: whether grants are worked out for a backup session. -/
def Backup.granting (b : Backup) : Bool := b.state = .active || (b.state = .spanning && !b.returnClosing)

/-- R55: floor((131,072 − bytes held) / 4,096) − outstanding credits, or 0. -/
def creditsDue (x : Channel) (b : Backup) : Nat :=
  if b.granting then (131072 - x.bytesHeld) / Config.creditBytes - b.credits else 0

/-- R56, case 1: a grant that rides in a response; the second part is the count granted. -/
def Dev.grantInAnswer (d : Dev) (c : Chan) : Dev × Nat :=
  match d.backup? c with
  | some (_, b) =>
    let g := creditsDue (d.chan c) b
    (d.modBackup c fun b => { b with credits := b.credits + g, undelivered := false }, g)
  | none => (d, 0)

/-- R55, R56, cases 2 and 3: a grant by notice; one that is refused is not made. -/
def Dev.grantByNotice (d : Dev) (c : Chan) : Dev :=
  match d.backup? c with
  | some (s, b) =>
    let g := creditsDue (d.chan c) b
    if g = 0 then d
    else
      match d.offer s.owner (.credit s.handle g false) with
      | (d, true) => d.modBackup c fun b => { b with credits := b.credits + g, undelivered := false }
      | (d, false) => d.modBackup c fun b => { b with undelivered := true }
  | none => d

/-- R56, R180: at a link's return a grant is worked out, and the whole outstanding count is restated. -/
def Dev.restateCredits (d : Dev) (c : Chan) : Dev :=
  match d.backup? c with
  | some (s, b) =>
    let g := creditsDue (d.chan c) b
    match d.offer s.owner (.credit s.handle (b.credits + g) true) with
    | (d, true) => d.modBackup c fun b => { b with credits := b.credits + g, undelivered := false }
    | (d, false) => d.modBackup c fun b => { b with undelivered := decide (0 < g) }
  | none => d

/-- R55: a grant that could not be delivered is worked out again when a notice has left the port's queue. -/
def Dev.creditRetry (d : Dev) (p : Port) : Dev :=
  let waiting := [Chan.ch0, .ch1].filter fun c => (d.backup? c).any fun x => x.1.owner = p ∧ x.2.undelivered
  (d.shuffled waiting).1.foldl Dev.grantByNotice (d.shuffled waiting).2

/-! ### The encoder (R45, R46) -/

/-- R45: a raw half is handed to the encoder. -/
def Dev.handBlock (d : Dev) (c : Chan) (kind : RecKind) (fromB : Bool) (bytes : List Byte) (tape seq : Nat) : Dev :=
  (d.modChan c fun x =>
    let x := x.setHalf fromB { state := .handed, bytes := bytes }
    { x with enc := { x.enc with work := x.enc.work ++ [⟨kind, fromB, bytes.length, tape, seq⟩] } }).push (.encoder c)

/-- R46: an IDLE encoder takes the next block of its list and asks for its page. -/
def Dev.encoderTake (d : Dev) (c : Chan) : Dev :=
  let e := (d.chan c).enc
  match e.state, e.work with
  | .idle, b :: rest =>
    match d.takePage c with
    | some d => d.modChan c fun x => { x with enc := { state := .coding, work := rest, desc := some b, hash := [] } }
    | none => d.modChan c fun x => { x with enc := { e with state := .waitPage, work := rest, desc := some b } }
  | _, _ => d

/-- R46: an encoder in WAIT_PAGE asks again. -/
def Dev.encoderAsk (d : Dev) (c : Chan) : Dev :=
  if (d.chan c).enc.state = .waitPage then
    match d.takePage c with
    | some d => d.modChan c fun x => { x with enc := { x.enc with state := .coding, hash := [] } }
    | none => d
  else d

/-- R54: bytes of DATA go into the current half; a half that fills is handed over with the next DATA sequence. -/
def Dev.fillHalves (d : Dev) (c : Chan) (tape : Nat) (bytes : List Byte) : Dev :=
  match d.backup? c with
  | none => d
  | some (_, b) =>
    let x := d.chan c
    let cur := x.half x.curB
    let room := Config.blockBytes - cur.bytes.length
    let now := cur.bytes ++ bytes.take room
    if now.length < Config.blockBytes then
      d.modChan c fun x => x.setHalf x.curB { state := if now.isEmpty then .free else .filling, bytes := now }
    else
      let d := d.handBlock c .data x.curB now tape b.nextData
      let d := (d.modChan c fun x => { x with curB := !x.curB }).modBackup c fun b => { b with nextData := b.nextData + 1 }
      let rest := bytes.drop room
      if rest.isEmpty then d else d.modChan c fun x => x.setHalf x.curB { state := .filling, bytes := rest }

/-! ### The write queue and the writer (R59 to R61) -/

def Dev.watermarkMet (d : Dev) (c : Chan) : Bool := d.cfg.watermark ≤ (d.chan c).wq.length

/-- R61: a record has joined the queue of a REFILL writer. -/
def Dev.writerTest (d : Dev) (c : Chan) : Dev :=
  let d := d.modBackup c fun b => if b.writer = .refill ∧ d.watermarkMet c then { b with writer := .stream } else b
  d.push (.command c)

/-- R59: an item joins the tail of the write queue. -/
def Dev.enqueue (d : Dev) (c : Chan) (w : WItem) : Dev := (d.modChan c fun x => { x with wq := x.wq ++ [w] }).writerTest c

/-- R47: an encode ends. -/
def Dev.encodeDone (d : Dev) (c : Chan) : Dev :=
  let e := (d.chan c).enc
  match e.state, e.desc with
  | .coding, some b =>
    let block := ((d.chan c).half b.fromB).bytes
    let (shrunk, payload) := shrinkBlock block
    let r : Record := { kind := b.kind, shrunk := shrunk, rawLength := block.length, payload := payload, rawCrc := crc32 block
                        tape := b.tape, seq := b.seq }
    let d := d.modBackup c fun q =>
      { q with digest := if b.kind = .data then q.digest.map fun g => crc32Extend g (crc32Bytes r.rawCrc) else q.digest
               window := q.window.map (· + r.stored) }
    let d := d.enqueue c (.item r)
    let d := d.modChan c fun x =>
      { x.setHalf b.fromB {} with
        enc := { e with state := .idle, desc := none, hash := (encodeFrom block block.length [] 0 block).2 } }
    let d := if b.kind = .data then d.grantByNotice c else d
    (d.push (.encoder c)).push (.build c)
  | _, _ => d

/-- R129: the index builder packs the next INDEX block, or the trailer builder takes the CLOSE trailer's page. -/
def Dev.build (d : Dev) (c : Chan) : Dev :=
  match d.backup? c with
  | some (s, b) =>
    let x := d.chan c
    let idle := x.enc.state = .idle && x.enc.work.isEmpty && x.rawA.state = .free && x.rawB.state = .free
    if b.building && idle && !b.trailerBuilt && x.trailerWait.isNone then
      match packEntries Config.blockBytes (x.index.drop b.packed) with
      | [] =>
        match d.takePage c with
        | some d => (d.modBackup c fun b => { b with trailerBuilt := true }).enqueue c (.trailer .close)
        | none => d.modChan c fun x => { x with trailerWait := some .close }
      | es =>
        let tape := ((d.setOf s).map (·.2.tape)).getD 0
        (d.handBlock c .index false (es.flatMap entryBytes) tape b.nextIndex).modBackup c fun b =>
          { b with nextIndex := b.nextIndex + 1, packed := b.packed + es.length }
    else d
  | none => d

/-- R52: the trailer builder asks again. -/
def Dev.trailerAsk (d : Dev) (c : Chan) : Dev :=
  match (d.chan c).trailerWait with
  | some k =>
    match d.takePage c with
    | some d =>
      ((d.modChan c fun x => { x with trailerWait := none }).modBackup c fun b => { b with trailerBuilt := true }).enqueue c
        (.trailer k)
    | none => d
  | none => d

/-! ### Records as they are written (R125, R130, R133, R137) -/

/-- The trailer of a kind, its fields filled at issue at position `pos` (R125). -/
def trailerRecord (k : TrailerKind) (x : BackupSet) (b : Backup) (pos : Nat) : Record :=
  let g := x.lastSegment.getD ⟨1, 0, 0, 0, 0⟩
  let payload := match k with
    | .close =>
      closeTrailerBytes
        { dataCount := x.dataCount, ordinal := g.ordinal, digestMark := if x.digestOff then 0 else 1
          fileCount := x.fileCount, indexCount := b.nextIndex, indexPos := b.indexPos.getD pos
          digest := if x.digestOff then 0 else crc32Finish (b.digest.getD crc32Preset), stored := x.storedBytes, raw := x.rawBytes }
    | .span => spanTrailerBytes g.count g.firstSeq x.dataCount g.ordinal
    | .abort => abortTrailerBytes x.dataCount g.ordinal
  { kind := match k with | .close => .close | .span => .span | .abort => .abort
    shrunk := false, rawLength := 64, payload := payload, rawCrc := crc32 payload, tape := x.tape, seq := x.dataCount
    ordinal := g.ordinal }

/-- The record issued for an item of the write queue (R32, R125). -/
def issued (w : WItem) (x : BackupSet) (b : Backup) (pos : Nat) : Record :=
  match w with
  | .item r => { r with ordinal := (x.lastSegment.map (·.ordinal)).getD 1 }
  | .trailer k => trailerRecord k x b pos

/-- R126: a record written OK or OK_WARNING is counted. -/
def Dev.countWrite (d : Dev) (c : Chan) (r : Record) (pos : Nat) : Dev :=
  match d.backup? c with
  | some (s, b) =>
    match d.setOf s with
    | some (e, x) =>
      let figure := b.written + r.stored
      let d := (d.modBackup c fun b => { b with written := figure }).modSess c fun s => { s with recordsDone := s.recordsDone + 1 }
      let d := match x.lastSegment with
        | some g => d.writeReport g.cart pos figure
        | none => d
      if r.kind = .data then
        d.modSet e fun x =>
          { x with dataCount := narrow32 (x.dataCount + 1), storedBytes := narrow64 (x.storedBytes + r.payload.length)
                   segments := x.segments.map fun g =>
                     if some g.ordinal = x.lastSegment.map (·.ordinal) then { g with count := narrow32 (g.count + 1) } else g }
      else if r.kind = .index ∧ r.seq = 0 then d.modBackup c fun b => { b with indexPos := some pos }
      else d
    | none => d
  | none => d

/-! ### Ends and aborts (R131, R136 to R138) -/

/-- R137: the session ends after an abort. -/
def Dev.finishAbort (d : Dev) (c : Chan) (why : Reason) (st : Option Status) : Dev :=
  match d.backup? c with
  | some (s, _) =>
    let d := match d.setOf s with
      | some (e, x) =>
        let d := if x.state = SetState.opened then
            d.modSet e fun x => { x with state := .aborted, digest := none, locator := none }
          else d
        d.setInUse e none
      | none => d
    let d := d.refuseOpen c (abortStatus true why)
    ((d.endSession c).sessionEnded s why st .none).answerOpt s.pendingAbort (st.getD .ok)
  | none => d

/-- R137: with no WRITE in flight, an ABORT trailer is built when the drive is READY with the last segment's cartridge mounted
and its position known; else the session ends. -/
def Dev.decideTrailer (d : Dev) (c : Chan) (why : Reason) (st : Option Status) : Dev :=
  match d.backup? c with
  | some (s, _) =>
    let last := ((d.setOf s).bind (·.2.lastSegment)).map (·.cart)
    let x := d.drive c
    if x.state = .ready ∧ x.unload.isNone ∧ x.pos.isSome ∧ last.any (fun i => x.mounted = Occupant.cart i) then
      match d.takePage c with
      | some d => (d.modChan c fun y => { y with wq := [.trailer .abort] }).push (.command c)
      | none => d.modChan c fun y => { y with trailerWait := some .abort }
    else d.finishAbort c why st
  | none => d

/-- R136: the reasons that allow an ABORT trailer. -/
def Reason.allowsTrailer : Reason → Bool
  | .abortedByClient | .linkLost | .spanLimit | .mediaTimeout => true
  | _ => false

/-- A WRITE of the session is in flight. -/
def Dev.writeInFlight (d : Dev) (c : Chan) (h : Nat) : Option Record :=
  match (d.drive c).out with
  | some ⟨.write r _, _, some o⟩ => if o = h then some r else none
  | _ => none

/-- R136: a backup session is aborted. While it is ABORTING, an abort that would allow a trailer changes nothing: the first reason
stands (DESIGN CHOICE, log entry 43). R67: the undelivered grant that is dropped is one a CREDIT notice was refused for; a CREDIT notice
that stands in the port's queue stays to be sent (DESIGN CHOICE, log entry 57). R137: a session that has been ACTIVE and may write a
trailer is ABORTING from the abort on, the WRITE in flight not yet completed (DESIGN CHOICE, log entry 66). -/
def Dev.backupAbort (d : Dev) (c : Chan) (why : Reason) (st : Option Status) : Dev :=
  match d.backup? c with
  | some (s, b) =>
    if b.state = .aborting ∧ why.allowsTrailer then d
    else
      let d := d.answerOpt b.pendingClose (st.getD .aborted)
      let d := d.modSess c fun s => { s with mediaTimer := none }
      if b.wasActive then
        let d := (d.freeChannelMemory c).modBackup c fun b =>
          { b with state := .aborting, window := none, credits := 0, undelivered := false, openFile := none, pendingClose := none
                   writer := .stream, digest := none, building := false, selecting := false, span := .none
                   ending := some (why, st) }
        if !why.allowsTrailer then d.finishAbort c why st
        else if (d.writeInFlight c s.handle).isSome then d
        else d.decideTrailer c why st
      else d.finishAbort c why st
  | none => d

/-- R131: the CLOSE trailer has been written. -/
def Dev.closeDone (d : Dev) (c : Chan) (pos : Nat) : Dev :=
  match d.backup? c with
  | some (s, b) =>
    match d.setOf s with
    | some (e, x) =>
      let i := (x.lastSegment.map (·.cart)).getD 0
      let d := d.modSet e fun x =>
        { x with state := .closed, locator := some ⟨i, b.indexPos.getD pos, b.nextIndex⟩
                 digest := if x.digestOff then none else b.digest.map crc32Finish }
      let d := (d.answerOpt b.pendingClose .ok).modBackup c fun b => { b with pendingClose := none }
      if b.verifyAfter && !b.lostHold then d.verifyAfter c
      else
        ((d.setInUse e none).endSession c).sessionEnded s (if b.lostHold then .linkLost else .closed) none .none
    | none => d
  | none => d

/-! ### Spans (R132 to R135) -/

/-- R134: the continuation has been chosen. -/
def Dev.takeContinuation (d : Dev) (c : Chan) (i : CartIx) : Dev :=
  match d.backup? c with
  | some (s, _) =>
    match d.setOf s with
    | some (e, x) =>
      let named := x.onCart i
      let d := if (d.cart i).any (·.state = .scratch) then d else d.recycleCart i
      let d := d.modSet e fun x =>
        { x with segments := x.segments ++ [{ ordinal := x.segments.length + 1, cart := i, firstPos := 0
                                              firstSeq := x.dataCount, count := 0 }] }
      let d := (d.joinCart i named).setSessCart c i
      let w := ((d.cart i).map (·.written)).getD 0
      let d := d.modBackup c fun b => { b with span := .loading, written := w }
      (d.modSess c fun s => { s with mediaTimer := none, noted := none }).push (.bring c)
    | none => d
  | none => d

/-- R134: selection for a continuation. -/
def Dev.chooseContinuation (d : Dev) (c : Chan) : Dev :=
  match d.backup? c with
  | some (s, _) =>
    match d.setOf s with
    | some (_, x) =>
      match d.pickTarget c s.handle x.pool true with
      | some i => d.takeContinuation c i
      | none =>
        let d := d.mediaNeeded c (.pool x.pool)
        if s.mediaTimer.isSome then d
        else if d.cfg.openWait = 0 then d.backupAbort c .mediaTimeout none
        else d.modSess c fun s => { s with mediaTimer := some (d.cfg.openWait * 1000) }
    | none => d
  | none => d

/-- R133: the segment is closed: the cartridge becomes FULL, the continuation is chosen, and the unload begins, unless the session
was aborted at once for an open-wait value of 0 (DEDUCED, log entry 44). -/
def Dev.closeSegment (d : Dev) (c : Chan) : Dev :=
  match d.backup? c with
  | some (s, _) =>
    let d := match (d.setOf s).bind (·.2.lastSegment) with
      | some g => d.setCartState g.cart .full
      | none => d
    let d := (d.modBackup c fun b => { b with span := .choosing }).chooseContinuation c
    match d.backup? c with
    | some (_, b) => if b.state = .spanning then d.beginUnload c (some (.session s.handle)) else d
    | none => d
  | none => d

/-- R132, R133: a span trigger. -/
def Dev.beginSpan (d : Dev) (c : Chan) : Dev :=
  match d.backup? c with
  | some (s, b) =>
    match (d.setOf s).bind fun p => p.2.lastSegment.map fun g => (p.1, g) with
    | some (e, g) =>
      if b.state ≠ .active ∧ b.state ≠ .closing then d
      else if 4 ≤ g.ordinal then d.backupAbort c .spanLimit none
      else
        let d := d.modBackup c fun b =>
          { b with state := .spanning, returnClosing := decide (b.state = .closing), window := none, writer := .stream
                   span := .trailer }
        match d.takePage c with
        | some d => (d.modChan c fun x => { x with wq := .trailer .span :: x.wq }).push (.command c)
        | none => (d.modSet e fun x => { x with noSpanMark := true }).closeSegment c
    | none => d
  | none => d

/-- R132: the estimate: the record would leave less than the span reserve. -/
def Dev.spanEstimate (d : Dev) (b : Backup) (x : BackupSet) (r : Record) : Bool :=
  match x.lastSegment.bind fun g => (d.cart g.cart).bind (·.capacity) with
  | some cap => cap * Config.mib < b.written + r.stored + d.cfg.spanReserve * Config.mib
  | none => false

/-- R135: the continuation is mounted and READY: the span ends. -/
def Dev.spanEnd (d : Dev) (c : Chan) : Dev :=
  match d.backup? c with
  | some (s, b) =>
    let d := match d.setOf s with
      | some (_, x) =>
        match x.lastSegment with
        | some g => d.notice s.owner (.spanned x.number g.ordinal (d.cartLabel g.cart))
        | none => d
      | none => d
    let d := d.modSess c fun s => { s with noted := none }
    if b.returnClosing then
      ((d.modBackup c fun b => { b with state := .closing, span := .none, writer := .stream }).push (.build c)).push (.command c)
    else
      (d.modBackup c fun b => { b with state := .active, span := .none, writer := .refill, window := some 0 }).writerTest c
  | none => d

/-! ### WRITE completions (R60, R61, R126, R127) -/

/-- R61: the underrun test. -/
def Dev.underrun (d : Dev) (c : Chan) : Dev :=
  match d.backup? c with
  | some (s, b) =>
    if (d.chan c).wq.isEmpty ∧ b.state = .active then
      let d := d.modBackup c fun b => { b with writer := .refill, stops := satInc b.stops }
      match ((d.setOf s).bind (·.2.lastSegment)).map (·.cart) with
      | some i => d.modCart i fun x => { x with stops := satInc x.stops }
      | none => d
    else d
  | none => d

/-- The head of the write queue leaves and its page is freed. -/
def Dev.popWrite (d : Dev) (c : Chan) : Dev := (d.modChan c fun x => { x with wq := x.wq.tail }).freePages c 1

/-- R60, R126: a WRITE of the session completed OK or OK_WARNING. -/
def Dev.wrote (d : Dev) (c : Chan) (r : Record) (pos : Nat) (warning : Bool) : Dev :=
  match d.backup? c with
  | some (_, b) =>
    match b.ending with
    | some (why, st) =>
      let d := d.countWrite c r pos
      if r.kind = .abort then (d.popWrite c).finishAbort c why st else d.decideTrailer c why st
    | none =>
      let d := (d.popWrite c).countWrite c r pos
      match r.kind with
      | .close => d.closeDone c pos
      | .span => d.closeSegment c
      | .data => (if warning then d.beginSpan c else d.underrun c).push (.command c)
      | _ => (if warning then d else d.underrun c).push (.command c)
  | none => d

/-- R127: a WRITE of the session failed with WRITE_PROTECTED (`wp`), HARD_WRITE or END_OF_MEDIA. A CLOSE trailer that fails so after the
link's hold has expired (R138) ends the session with reason WRITE_FAULT as well (DESIGN CHOICE, log entry 59). -/
def Dev.writeFailed (d : Dev) (c : Chan) (r : Record) (wp : Bool) : Dev :=
  match d.backup? c with
  | some (s, b) =>
    let d := match ((d.setOf s).bind (·.2.lastSegment)).map (·.cart) with
      | some i => if wp then d.flagProtected i else if r.kind = RecKind.data then d.flagSuspect i else d
      | none => d
    let st : Option Status := if wp then some .mediaProtected else none
    match b.ending with
    | some (why, st') => d.finishAbort c why (if wp ∧ r.kind ≠ RecKind.span ∧ r.kind ≠ RecKind.abort then st else st')
    | none =>
      match r.kind with
      | .span =>
        let d := match s.set with
          | some e => d.modSet e fun x => { x with noSpanMark := true }
          | none => d
        (d.popWrite c).closeSegment c
      | _ => d.backupAbort c .writeFault st
  | none => d

/-! ### Becoming ACTIVE (R118 to R120) -/

/-- R120: the session becomes ACTIVE for the first time, and its open is answered OPENED with the first grant. -/
def Dev.becomeActive (d : Dev) (c : Chan) : Dev :=
  match d.backup? c with
  | some (s, b) =>
    match d.setOf s with
    | some (_, x) =>
      let first := (x.lastSegment.map (·.cart)).getD 0
      let w := if b.append then b.written else ((d.cart first).map (·.written)).getD 0
      let d := d.modChan c fun y => { y with rawA := {}, rawB := {}, curB := false, index := if b.append then y.index else [] }
      let d := d.modBackup c fun b =>
        { b with state := .active, wasActive := true, written := w, writer := .refill, window := some 0, stops := 0
                 credits := 0, appendPhase := .none }
      let d := d.modSess c fun s => { s with goal := none, mediaTimer := none }
      let (d, g) := d.grantInAnswer c
      let label := d.cartLabel ((x.segments.head?.map (·.cart)).getD first)
      (d.acceptOpen c (leBytes 1 s.handle ++ leBytes 2 x.number ++ labelBytes label ++ leBytes 1 g)).push (.command c)
    | none => d
  | none => d

/-- R119: the set of an append is reopened, and the session becomes ACTIVE. -/
def Dev.reopen (d : Dev) (c : Chan) : Dev :=
  match d.backup? c with
  | some (s, b) =>
    match d.setOf s with
    | some (e, x) =>
      let d := d.modSet e fun x =>
        { x with state := .opened, writeDay := d.cat.day, expiry := max x.expiry b.expiry, digestOff := true, digest := none
                 locator := none, verify := {} }
      let w := ((x.lastSegment.bind fun g => d.cart g.cart).map (·.written)).getD 0
      (d.modBackup c fun b => { b with written := w - b.reloadSize }).becomeActive c
    | none => d
  | none => d

/-- R119: an append's index cannot be read back: the open is answered INDEX_MISSING, and the set stays CLOSED. No SESSION_ENDED follows
(DEDUCED, log entry 29). -/
def Dev.appendMissing (d : Dev) (c : Chan) : Dev :=
  match d.backup? c with
  | some (s, _) => (((d.endRun c).refuseOpen c .indexMissing).freeSet s.set).endSession c
  | none => d

/-- R119: the records of an append's index reload, as they are dealt with. -/
def Dev.reloadRecord (d : Dev) (c : Chan) (entry : ReadEntry) (decoded : Option (List Byte)) : Dev :=
  match d.backup? c with
  | some (s, b) =>
    match d.setOf s with
    | some (_, x) =>
      let n := (x.locator.map (·.count)).getD 0
      let h := readHeader entry.bytes
      let (kind, seq) : RecKind × Nat := if b.reload < n then (.index, b.reload) else (.close, x.dataCount)
      match checkRecord h kind x.tape seq decoded, decoded with
      | none, some bs =>
        let d := d.modBackup c fun b => { b with reload := b.reload + 1, reloadSize := b.reloadSize + 32 + h.payloadLength }
        if kind = .index then
          let (area, ok) := unpackEntries bs.length bs (d.chan c).index
          let d := d.modChan c fun y => { y with index := area }
          if ok then d else d.appendMissing c
        else if indexFits x (d.chan c).index then
          (d.modBackup c fun b => { b with appendPhase := .relocating }).push (.command c)
        else d.appendMissing c
      | _, _ => d.appendMissing c
    | none => d
  | none => d

/-- R118, R119: a LOCATE or REWIND of POSITIONING completed OK, or was not needed. -/
def Dev.backupArrived (d : Dev) (c : Chan) : Dev :=
  match d.backup? c with
  | some (s, b) =>
    match b.appendPhase with
    | .none => d.becomeActive c
    | .locating =>
      let n := ((d.setOf s).bind (·.2.locator)).map (·.count) |>.getD 0
      (d.modBackup c fun b => { b with appendPhase := .reading, reload := 0, reloadSize := 0 }).setRun c (.count (n + 1))
    | .relocating => d.reopen c
    | .reading => d
  | none => d

/-- R118, R119: a LOCATE or REWIND of POSITIONING failed. -/
def Dev.backupMissed (d : Dev) (c : Chan) : Dev :=
  match d.backup? c with
  | some (s, b) =>
    if b.append then d.appendMissing c
    else
      let d := match s.cart with
        | some i => d.flagSuspect i
        | none => d
      d.backupAbort c .writeFault none
  | none => d

/-- R117: the session's cartridge is mounted and READY: the session leaves WAIT_MEDIA for POSITIONING. -/
def Dev.backupMounted (d : Dev) (c : Chan) : Dev :=
  match d.backup? c with
  | some (s, b) =>
    if b.state = .spanning then d.spanEnd c
    else
      match d.setOf s with
      | some (_, x) =>
        let goal := if b.append then (x.locator.map (·.pos)).getD 0 else (x.lastSegment.map (·.firstPos)).getD 0
        let d := d.modBackup c fun b =>
          { b with state := .positioning, appendPhase := if b.append then .locating else .none }
        (d.modSess c fun s => { s with goal := some goal, noted := none, mediaTimer := none }).push (.command c)
      | none => d
  | none => d

/-! ### Target selection (R24, R116) -/

/-- R116: the target has been chosen: it is recycled first when auto-recycle chose it, the set is allocated, and the session
cartridge set. With no entry free the open is answered CATALOGUE_FULL and the session ends at once, without SESSION_ENDED (DEDUCED, log
entry 29). -/
def Dev.takeTarget (d : Dev) (c : Chan) (i : CartIx) : Dev :=
  match d.backup? c with
  | some (s, b) =>
    let d := if d.candidate c s.handle b.pool i then d else d.recycleCart i
    match d.allocBackup s.handle s.owner b.pool b.expiry i with
    | none => (d.refuseOpen c .catalogueFull).endSession c
    | some (e, d) =>
      let d := d.modSess c fun s => { s with set := some e, noted := none }
      let d := d.modBackup c fun b => { b with selecting := false, digest := some crc32Preset }
      (d.setSessCart c i).push (.bring c)
  | none => d

/-- R24: selection for a new set; with no candidate the session waits, and MEDIA_NEEDED names the pool. -/
def Dev.chooseTarget (d : Dev) (c : Chan) : Dev :=
  match d.backup? c with
  | some (s, b) =>
    match d.pickTarget c s.handle b.pool false with
    | some i => d.takeTarget c i
    | none => (d.modBackup c fun b => { b with selecting := true }).mediaNeeded c (.pool b.pool)
  | none => d

/-- R24: whether a session waits for its selection to be run again. -/
def Dev.awaitsTarget (d : Dev) (c : Chan) : Bool :=
  (d.backup? c).any fun x => (x.2.state = .waitMedia && x.2.selecting) || (x.2.state = .spanning && x.2.span = .choosing)

/-- R24: the selections of the waiting sessions run again, as separate events. -/
def Dev.selectAgain (d : Dev) : Dev := d.pushRace (([Chan.ch0, .ch1].filter d.awaitsTarget).map .selectOn)

/-- R24: one waiting session's selection. -/
def Dev.selectOn (d : Dev) (c : Chan) : Dev :=
  match d.backup? c with
  | some (_, b) =>
    if d.awaitsTarget c then (if b.state = .waitMedia then d.chooseTarget c else d.chooseContinuation c) else d
  | none => d

/-- R115: the append tests. -/
def Dev.appendFits (d : Dev) (x : BackupSet) : Bool :=
  match x.locator, x.lastSegment with
  | some l, some g =>
    match d.cart g.cart with
    | some y =>
      y.state = .active && !y.suspect && !y.writeProt && !y.retired && y.location.isSome && y.endPos = l.pos + l.count + 1
    | none => false
  | _, _ => false

end Sys2Proof.Machine
end

