-- ==== Sys2Proof/Machine/Restore.lean ====
section
/-! DEFINITION. The restore session (sections 8.1 to 8.6). -/

namespace Sys2Proof.Machine

/-! ### The files of the list (R153, R157) -/

/-- The index entry of a file number (R157). -/
def Dev.fileEntry (d : Dev) (c : Chan) (n : Nat) : Option IndexEntry := (d.chan c).index.find? fun e => e.file = n

/-- The index has still to be read: nothing is delivered yet (R156). -/
def Restore.readsIndex (r : Restore) : Bool := !r.started || (r.state = .readingIndex && !r.indexBad)

def Restore.currentFile (r : Restore) : Option RestoreFile := r.files[r.current]?

/-- R157: the last DATA record a file needs; a file of length 0 needs none. -/
def IndexEntry.lastSeq (e : IndexEntry) : Option Nat :=
  if e.length = 0 then none else some (e.startSeq + (e.startOff + e.length - 1) / Config.blockBytes)

/-- R157: the segment a DATA record lies in. -/
def BackupSet.segmentOf (x : BackupSet) (q : Nat) : Option Segment :=
  x.segments.find? fun g => g.firstSeq ≤ q && q < g.firstSeq + g.count

/-- R157: the last record of the run that begins for one file: the files after it that begin in its last record or in the one
after extend it. -/
def Dev.chainEnd (d : Dev) (c : Chan) : List RestoreFile → Nat → Nat
  | [], last => last
  | f :: t, last =>
    match d.fileEntry c f.file with
    | none => d.chainEnd c t last
    | some e =>
      match e.lastSeq with
      | none => d.chainEnd c t last
      | some l => if last ≤ e.startSeq ∧ e.startSeq ≤ last + 1 then d.chainEnd c t (max last l) else last

/-- The next file of the list that the index holds and that has bytes: where it begins (R157). -/
def Dev.nextStart (d : Dev) (c : Chan) (r : Restore) : Option Nat :=
  (r.files.drop (r.current + 1)).findSome? fun f =>
    (d.fileEntry c f.file).bind fun e => if e.length = 0 then none else some e.startSeq

/-! ### Ends (R163) -/

/-- The counts of SESSION_ENDED: the set number, then the files ending OK, DAMAGED, NOT_IN_SET and INDEX_DAMAGED. -/
def restoreCounts (number : Nat) (files : List RestoreFile) : EndCounts :=
  let n (o : FileOutcome) := (files.filter fun f => f.outcome = o).length
  .restored number (n .ok) (n .damaged) (n .notInSet) (n .indexDamaged)

/-- R163: a restore session ends normally. -/
def Dev.restoreEnd (d : Dev) (c : Chan) : Dev :=
  match d.restore? c with
  | some (s, r) =>
    let n := ((d.setOf s).map (·.2.number)).getD 0
    (((d.endRun c).freeSet s.set).endSession c).sessionEnded s .restored none (restoreCounts n r.files)
  | none => d

/-- R163: a restore session is aborted. -/
def Dev.restoreAbort (d : Dev) (c : Chan) (why : Reason) : Dev :=
  match d.restore? c with
  | some (s, r) =>
    let d := if r.started then d else d.refuseOpen c (abortStatus false why)
    (((d.freeSet s.set).endSession c).sessionEnded s why none .none).answerOpt s.pendingAbort .ok
  | none => d

/-! ### Hard errors (R161) -/

/-- R161: a hard error is written into the set's verify record at once. -/
def Dev.restoreHard (d : Dev) (c : Chan) (ordinal record : Nat) (cause : Cause) : Dev :=
  match (d.sess c).bind (·.set) with
  | some e =>
    d.modSet e fun x => { x with verify := { x.verify.hardError ordinal record cause with result := .failed, day := some d.cat.day } }
  | none => d

/-- R161: a hard error against a DATA record, with the segment it lies in. -/
def Dev.restoreHardData (d : Dev) (c : Chan) (q : Nat) (cause : Cause) : Dev :=
  let o := ((((d.sess c).bind fun s => d.setOf s).bind fun p => p.2.segmentOf q).map (·.ordinal)).getD 1
  d.restoreHard c o q cause

/-- R160: a DATA record has failed: it is counted, and is the last that failed. The last that failed is not counted a second time. -/
def Dev.countFailed (d : Dev) (c : Chan) (q : Nat) (cause : Cause) : Dev :=
  match d.restore? c with
  | some (_, r) =>
    if r.lastFailed = some q then d else (d.restoreHardData c q cause).modRestore c fun r => { r with lastFailed := some q }
  | none => d

/-- R161: a hard error against INDEX record `i`, which lies in the last segment. -/
def Dev.restoreHardIndex (d : Dev) (c : Chan) (i : Nat) (cause : Cause) : Dev :=
  match (d.sess c).bind fun s => d.setOf s with
  | some (_, x) => d.restoreHard c ((x.lastSegment.map (·.ordinal)).getD 1) (x.dataCount + i) cause
  | none => d

/-! ### Positioning and reading (R155 to R157) -/

/-- Drops of what the session holds all that `keep` does not ask for, and frees its decode halves (R48, R157). -/
def Dev.releaseBut (d : Dev) (c : Chan) (keep : InRec → Bool) : Dev :=
  match d.restore? c with
  | some (_, r) =>
    let d := ((r.inbox.filter fun y => !keep y).filterMap (·.half)).foldl (fun d h => d.freeHalf c h) d
    d.modRestore c fun r => { r with inbox := r.inbox.filter keep }
  | none => d

/-- R157: the session ends its run early. Of the records it holds those that `keep` asks for stay. -/
def Dev.restoreEndRun (d : Dev) (c : Chan) (keep : InRec → Bool) : Dev :=
  ((d.releaseBut c keep).endRun c).modRestore c fun r => { r with runSegment := none }

/-- Drops what the session has read and ends its run (R157). -/
def Dev.restoreStopRun (d : Dev) (c : Chan) : Dev := d.restoreEndRun c fun _ => false

/-- R155: the session enters WAIT_MEDIA for a cartridge. -/
def Dev.restoreWait (d : Dev) (c : Chan) (i : CartIx) : Dev :=
  match d.restore? c with
  | some (_, r) =>
    let d := (d.modRestore c fun r => { r with state := .waitMedia }).setSessCart c i
    match d.startMediaWait c r.started with
    | (d, true) => d.restoreAbort c .mediaTimeout
    | (d, false) => d.push (.bring c)
  | none => d

/-- R159: the current file stops or ends; its FILE_DONE is to be handed. -/
def Dev.fileFinish (d : Dev) (c : Chan) (o : FileOutcome) (matched : Bool) : Dev :=
  (d.modRestore c fun r =>
    { r with finished := true, crcMatched := matched
             files := r.files.modify r.current fun f => { f with outcome := o } }).push (.deliver c)

/-- R159: the current file begins: its cursor is set. A file not in the index, or one that begins in the last failed record,
ends at once. -/
def Dev.fileStart (d : Dev) (c : Chan) : Dev :=
  match d.restore? c with
  | some (_, r) =>
    match r.currentFile with
    | none => d
    | some f =>
      let d := d.modRestore c fun r =>
        { r with headSent := false, finished := false, delivered := 0, crc := crc32Preset
                 inbox := r.inbox.filter fun y => y.half.isSome || y.cause.isSome }
      if r.indexBad then d.fileFinish c .indexDamaged false
      else
        match d.fileEntry c f.file with
        | none => d.fileFinish c .notInSet false
        | some e =>
          let d := d.modRestore c fun r => { r with seq := e.startSeq, off := e.startOff }
          if e.length = 0 then d.fileFinish c .ok true
          else if r.lastFailed = some e.startSeq then d.fileFinish c .damaged false
          else d.push (.deliver c)
  | none => d

/-- The reader's run has been ended by a BLANK or END_OF_MEDIA that the session has still to deal with (R63). -/
def Dev.runEnded (d : Dev) (c : Chan) : Bool :=
  (d.chan c).rq.any fun e => !e.dropped && (e.kind = some .blank || e.kind = some .endOfMedia)

/-- R157: the reading goes to record `q`: it reads on, positions the tape afresh on the mounted cartridge, or waits for another
segment's cartridge. A record before it that the current file has not delivered in full stays in its decode half. -/
def Dev.restoreSeek (d : Dev) (c : Chan) (q : Nat) : Dev :=
  match d.restore? c with
  | some (s, r) =>
    match d.setOf s with
    | none => d
    | some (_, x) =>
      match x.segmentOf q, (r.currentFile.bind fun f => d.fileEntry c f.file).bind (·.lastSeq) with
      | some g, some last =>
        let stop := min (d.chainEnd c (r.files.drop (r.current + 1)) last) (g.firstSeq + g.count - 1)
        if r.state = .delivering ∧ r.runSegment = some g.ordinal ∧ r.expect = q then
          let have_ := ((d.chan c).rq.filter fun e => !e.dropped).length
          match (d.chan c).run with
          | .count n => if r.expect + have_ + n ≤ stop ∧ d.runEnded c = false then d.setRun c (.count (stop + 1 - (r.expect + have_))) else d
          | .openEnded => d
        else if r.state = .positioning ∧ r.expect = q ∧ s.cart = some g.cart then d
        else if r.state = .waitMedia ∧ s.cart = some g.cart then d.modRestore c fun r => { r with expect := q }
        else
          let d := (d.restoreEndRun c fun y => r.seq ≤ y.seq && y.seq < q).modRestore c fun r => { r with expect := q }
          if s.cart = some g.cart ∧ (d.drive c).mounted = Occupant.cart g.cart ∧ (d.drive c).state = .ready then
            let d := d.modRestore c fun r => { r with state := .positioning }
            (d.modSess c fun s => { s with goal := some (g.firstPos + (q - g.firstSeq)) }).push (.command c)
          else d.restoreWait c g.cart
      | _, _ => d.fileFinish c .damaged false
  | none => d

/-- R155: the cartridge is mounted and READY: the session positions the tape to the index, or to the record it needs. -/
def Dev.restoreMounted (d : Dev) (c : Chan) : Dev :=
  match d.restore? c with
  | some (s, r) =>
    match d.setOf s with
    | some (_, x) =>
      let goal :=
        if r.started then ((x.segmentOf r.expect).map fun g => g.firstPos + (r.expect - g.firstSeq)).getD 0
        else (x.locator.map (·.pos)).getD 0
      let d := d.modRestore c fun r => { r with state := .positioning }
      (d.modSess c fun s => { s with mediaTimer := none, noted := none, goal := some goal }).push (.command c)
    | none => d
  | none => d

/-- R156: the index has been read, or cannot be: the files are delivered, or end INDEX_DAMAGED, the session staying READING_INDEX. -/
def Dev.indexRead (d : Dev) (c : Chan) (bad : Bool) : Dev :=
  let d := if bad then d.endRun c else d
  let d := d.modRestore c fun r =>
    { r with state := if bad then r.state else .delivering, indexBad := bad, current := 0, inbox := [], runSegment := none
             files := if bad then r.files.map fun f => { f with outcome := .indexDamaged } else r.files }
  d.fileStart c

/-- R156: every INDEX record has passed: the index must be whole and fit the set. -/
def Dev.indexWholeTest (d : Dev) (c : Chan) : Dev :=
  match d.restore? c with
  | some (s, r) =>
    match d.setOf s with
    | some (_, x) =>
      if r.indexWhole && indexFits x (d.chan c).index then d.indexRead c false
      else (d.restoreHardIndex c 0 .indexMismatch).indexRead c true
    | none => d
  | none => d

/-- R156: the session becomes READING_INDEX: it is answered, its open-wait timer stops, and it runs at step 8 (R64, R155). -/
def Dev.restoreOpened (d : Dev) (c : Chan) : Dev :=
  match d.restore? c with
  | some (s, r) =>
    let n := ((d.setOf s).map (·.2.number)).getD 0
    let d := d.acceptOpen c (leBytes 1 s.handle ++ leBytes 2 n ++ leBytes 1 r.files.length)
    (d.modRestore c fun r => { r with state := .readingIndex, started := true, indexAt := 0 }).fullSpeed c
  | none => d

/-- R156, R157: positioning has reached the index, or the record the current file needs. -/
def Dev.restoreArrived (d : Dev) (c : Chan) : Dev :=
  match d.restore? c with
  | some (s, r) =>
    let d := d.modSess c fun s => { s with goal := none }
    match d.setOf s with
    | none => d
    | some (_, x) =>
      if r.started then
        match x.segmentOf r.expect, (r.currentFile.bind fun f => d.fileEntry c f.file).bind (·.lastSeq) with
        | some g, some last =>
          let stop := min (d.chainEnd c (r.files.drop (r.current + 1)) last) (g.firstSeq + g.count - 1)
          let d := d.modRestore c fun r => { r with state := .delivering, runSegment := some g.ordinal }
          (d.setRun c (.count (stop + 1 - r.expect))).push (.deliver c)
        | _, _ => (d.modRestore c fun r => { r with state := .delivering }).push (.deliver c)
      else
        let n := (x.locator.map (·.count)).getD 0
        let d := d.restoreOpened c
        if n = 0 then d.indexWholeTest c else d.setRun c (.count n)
  | none => d

/-- R156, R160: a LOCATE or REWIND of POSITIONING failed. A record whose LOCATE ends HARD_READ is counted, and is the last that failed
(DEDUCED, log entry 79). -/
def Dev.restoreMissed (d : Dev) (c : Chan) (blank : Bool) : Dev :=
  match d.restore? c with
  | some (_, r) =>
    let d := d.modSess c fun s => { s with goal := none }
    if r.started then
      let d := (d.modRestore c fun r => { r with state := .delivering, runSegment := none })
      let d := if blank then d else d.countFailed c r.expect .readFault
      d.fileFinish c .damaged false
    else
      let d := d.restoreOpened c
      (if blank then d else d.restoreHardIndex c 0 .readFault).indexRead c true
  | none => d

/-! ### Records (R156, R160) -/

/-- R160: the bytes a file needs of one of its records: up to its last byte there. -/
def IndexEntry.needOf (e : IndexEntry) (q : Nat) : Nat :=
  if e.lastSeq = some q then (e.startOff + e.length - 1) % Config.blockBytes + 1 else Config.blockBytes

/-- R160: the current file will stop in a record before `q`: one that has failed or is too short for it, or the last that failed. -/
def Restore.stopsBefore (r : Restore) (e : IndexEntry) (q : Nat) : Bool :=
  (r.inbox.any fun y => r.seq ≤ y.seq && y.seq < q && (y.half.isNone || y.length < e.needOf y.seq)) ||
    r.lastFailed.any fun f => r.seq ≤ f && f < q

/-- R157, R160: the current file, while it goes on, or a later file of the list needs record `q` (DEDUCED, log entry 50). A later file
that begins in the last failed record stops at once and needs none, and that record itself is neither checked nor counted again. -/
def Dev.needsRecord (d : Dev) (c : Chan) (r : Restore) (q : Nat) : Bool :=
  let needs (f : RestoreFile) (go : IndexEntry → Bool) : Bool :=
    (d.fileEntry c f.file).any fun e => (e.startSeq ≤ q && e.lastSeq.any (q ≤ ·)) && go e
  r.lastFailed ≠ some q &&
    ((r.currentFile.any fun f => !r.finished && needs f fun e => !r.stopsBefore e q) ||
      (r.files.drop (r.current + 1)).any fun f => needs f fun e => r.lastFailed ≠ some e.startSeq)

/-- R157: the expected record has been passed over, since no file needs it any more. -/
def Dev.passOver (d : Dev) (c : Chan) : Dev := d.modRestore c fun r => { r with expect := r.expect + 1 }

/-- R160: the expected record has failed, and the session holds it as such: the file that comes to it stops. -/
def Dev.holdFailed (d : Dev) (c : Chan) (cause : Cause) : Dev :=
  match d.restore? c with
  | some (_, r) =>
    ((d.countFailed c r.expect cause).modRestore c fun r =>
      { r with inbox := r.inbox ++ [{ seq := r.expect, half := none, cause := some cause }], expect := r.expect + 1 }).push
      (.deliver c)
  | none => d

/-- R156, R160: a record that arrived with data. `half` is the decode half that holds it. One that no file needs any more is not
checked. -/
def Dev.restoreRecord (d : Dev) (c half : Chan) (entry : ReadEntry) (decoded : Option (List Byte)) : Dev :=
  match d.restore? c with
  | some (s, r) =>
    match d.setOf s with
    | none => d
    | some (_, x) =>
      let h := readHeader entry.bytes
      if r.state = .readingIndex then
        let d := d.freeHalf c half
        match checkRecord h .index x.tape r.indexAt decoded, decoded with
        | none, some bs =>
          let (area, ok) := unpackEntries bs.length bs (d.chan c).index
          let d := (d.modChan c fun y => { y with index := area }).modRestore c fun r =>
            { r with indexAt := r.indexAt + 1, indexWhole := r.indexWhole && ok }
          if (x.locator.map (·.count)).getD 0 ≤ r.indexAt + 1 then d.indexWholeTest c else d
        | some cause, _ => (d.restoreHardIndex c r.indexAt cause).indexRead c true
        | none, none => d
      else if !d.needsRecord c r r.expect then (d.freeHalf c half).passOver c
      else
        match checkRecord h .data x.tape r.expect decoded, decoded with
        | none, some bs =>
          (d.modRestore c fun r =>
            { r with inbox := r.inbox ++ [{ seq := r.expect, half := some half, length := bs.length }]
                     expect := r.expect + 1 }).push (.deliver c)
        | some cause, _ => (d.freeHalf c half).holdFailed c cause
        | none, none => d
  | none => d

/-- R156, R160: an entry without a record, at the head of the read queue. -/
def Dev.restoreNoRecord (d : Dev) (c : Chan) (k : DriveKind) : Dev :=
  match d.restore? c with
  | some (_, r) =>
    if r.state = .readingIndex then
      (if k = .hardRead then d.restoreHardIndex c r.indexAt .readFault else d).indexRead c true
    else if k = .hardRead ∧ d.needsRecord c r r.expect = false then d.passOver c
    else if k = .hardRead then d.holdFailed c .readFault
    else
      (d.modRestore c fun r =>
        { r with inbox := r.inbox ++ [{ seq := r.expect, half := none }], runSegment := none }).push (.deliver c)
  | none => d

/-! ### Delivery (R158, R159) -/

/-- R158: a delivery frame is handed to the owner port, for one credit. -/
def Dev.hand (d : Dev) (c : Chan) (f : Delivery) : Dev :=
  match d.restore? c with
  | some (s, _) =>
    let d := d.modRestore c fun r => { r with credits := r.credits - 1 }
    (d.modPort s.owner fun u => { u with path := u.path ++ [.delivery s.handle s.serial f] }).push (.transmit s.owner)
  | none => d

/-- R157: decoded records before `q` are released; with `keep`, the one the next file begins in stays. -/
def Dev.releaseBelow (d : Dev) (c : Chan) (q : Nat) (keep : Option Nat) : Dev :=
  d.releaseBut c fun e => !(e.seq < q && some e.seq ≠ keep)

/-- What the session holds of the record the current file needs (R159, R160). -/
inductive Holding | missing | stopped (cause : Option Cause) | short | bytes (bs : List Byte)
  deriving DecidableEq, Repr

/-- R160: a record of the inbox as the current file's entry `e` finds it; the last failed record stops the file, held or not. -/
def Dev.holding (d : Dev) (c : Chan) (r : Restore) (e : IndexEntry) (q : Nat) : Holding :=
  if r.lastFailed = some q then .stopped none
  else
    match r.inbox.find? fun y => y.seq = q with
    | none => .missing
    | some y =>
      match y.half with
      | none => .stopped y.cause
      | some h => if y.length < e.needOf q then .short else .bytes (((d.chan c).halves.get h).getD [])

/-- R160: a file stops in record `q`; one too short counts one hard error, and is the last that failed. -/
def Dev.fileStops (d : Dev) (c : Chan) (q : Nat) (short : Bool) : Dev :=
  (if short then d.countFailed c q .indexMismatch else d).fileFinish c .damaged false

/-- R159: the next DATA frame of the current file, when its bytes are there; else the reading goes on. -/
def Dev.deliverBytes (d : Dev) (c : Chan) (r : Restore) (e : IndexEntry) (mayHand : Bool) : Dev :=
  match d.holding c r e r.seq with
  | .missing => d.restoreSeek c r.seq
  | .stopped _ => d.fileStops c r.seq false
  | .short => d.fileStops c r.seq true
  | .bytes bs =>
    let want := min Config.creditBytes (e.length - r.delivered)
    let here := (bs.drop r.off).take want
    let give (d : Dev) (out : List Byte) (seq off : Nat) : Dev :=
      if !mayHand then d
      else
        let d := (d.hand c (.data out)).modRestore c fun r =>
          { r with seq := seq, off := off, delivered := r.delivered + out.length, crc := crc32Extend r.crc out }
        let done := decide (e.length ≤ r.delivered + out.length)
        let d := d.releaseBelow c (if done then seq + 1 else seq) (d.nextStart c r)
        if done then
          let ok := crc32Finish (crc32Extend r.crc out) = e.crc
          let d := if ok then d else d.restoreHardData c (e.lastSeq.getD seq) .indexMismatch
          d.fileFinish c (if ok then .ok else .damaged) ok
        else d.push (.deliver c)
    if here.length = want then
      let off := r.off + want
      if off < Config.blockBytes then give d here r.seq off else give d here (r.seq + 1) 0
    else
      match d.holding c r e (r.seq + 1) with
      | .missing => d.restoreSeek c (r.seq + 1)
      | .stopped _ => d.fileStops c (r.seq + 1) false
      | .short => d.fileStops c (r.seq + 1) true
      | .bytes bs' =>
        let rest := want - here.length
        give d (here ++ bs'.take rest) (r.seq + 1) rest

/-- R158, R159: one step of delivery: a FILE_HEAD, a DATA frame or a FILE_DONE, each for a credit and while the link is UP. -/
def Dev.deliver (d : Dev) (c : Chan) : Dev :=
  match d.restore? c with
  | some (s, r) =>
    if r.readsIndex then d
    else
      match r.currentFile with
      | none => d
      | some f =>
        let mayHand := 0 < r.credits && (d.port s.owner).link = .up
        let entry := if r.indexBad then none else d.fileEntry c f.file
        match r.finished, r.headSent, entry with
        | true, false, some e =>
          if mayHand then
            ((d.hand c (.head f.file e.tag e.length r.restart)).modRestore c fun r =>
              { r with headSent := true, restart := false }).push (.deliver c)
          else d
        | true, _, _ =>
          if mayHand then
            let d := d.hand c (.done f.file f.outcome r.delivered r.crcMatched)
            let next := d.nextStart c r
            let d := d.modRestore c fun r => { r with current := r.current + 1, restart := false }
            let d := match next with
              | some q => d.releaseBelow c q none
              | none => d.restoreStopRun c
            d.fileStart c
          else d
        | false, false, some e =>
          if mayHand then
            ((d.hand c (.head f.file e.tag e.length r.restart)).modRestore c fun r =>
              { r with headSent := true, restart := false }).push (.deliver c)
          else d.deliverBytes c r e false
        | false, true, some e => d.deliverBytes c r e mayHand
        | false, _, none => d
  | none => d

/-! ### Link loss (R162) and frames that left (R158, R163) -/

/-- R162: the owner port's link is lost: the receive credits are cleared. -/
def Dev.restoreLost (d : Dev) (c : Chan) : Dev := d.modRestore c fun r => { r with credits := 0 }

/-- R162: the link has returned: delivery restarts at the first file whose FILE_DONE had not left the port. While the index is still to be
read no delivery has begun, and no restart mark is set (DESIGN CHOICE, log entry 67). -/
def Dev.restoreReturned (d : Dev) (c : Chan) : Dev :=
  match d.restore? c with
  | some (_, r) =>
    if r.readsIndex then d
    else
      match r.files.findIdx? fun f => !f.doneSent with
      | none => d
      | some i =>
        let d := d.restoreStopRun c
        let d := d.modRestore c fun r =>
          { r with current := i, restart := true
                   files := r.files.mapIdx fun j f => if i ≤ j then { f with outcome := .pending } else f
                   state := if r.state = .waitMedia ∨ r.indexBad then r.state else .delivering }
        d.fileStart c
  | none => d

/-- The channel of the restore session that handed a delivery frame to a port: the one whose open had that serial there (log
entry 7). -/
def Dev.restoreOf (d : Dev) (p : Port) (serial : Nat) : Option Chan :=
  [Chan.ch0, .ch1].find? fun c => (d.restore? c).any fun x => x.1.owner = p && x.1.serial = serial

/-- R158, R163: a FILE_DONE of a session has left its owner port; after the last one the session ends. -/
def Dev.doneLeft (d : Dev) (p : Port) (serial file : Nat) : Dev :=
  match d.restoreOf p serial with
  | some c =>
    let d := d.modRestore c fun r =>
      { r with files := r.files.map fun f => if f.file = file then { f with doneSent := true } else f }
    match d.restore? c with
    | some (_, r) => if r.files.all (·.doneSent) then d.restoreEnd c else d
    | none => d
  | none => d

/-- R155: the session of a restore open at its grant. -/
def Dev.restoreGranted (d : Dev) (c : Chan) : Dev :=
  match (d.sess c).bind fun s => d.setOf s with
  | some (_, x) =>
    match x.locator with
    | some l => d.restoreWait c l.cart
    | none => d
  | none => d

end Sys2Proof.Machine
end

