-- ==== Sys2Proof/Machine/Rebuild.lean ====
section
/-! DEFINITION. The rebuild session (sections 8.8 to 8.10). -/

namespace Sys2Proof.Machine

/-! ### Placing a group (R167) -/

/-- R167: a CLOSE trailer has been taken for an entry: a group joined since start-up ended so, or the entry holds what only such a
trailer gives (log entry 36). -/
def BackupSet.closeTaken (x : BackupSet) : Bool :=
  x.ends.any (fun e => e.2 = .close) || x.digest.isSome || x.digestOff || x.locator.isSome || x.fileCount ≠ 0

/-- R167: the figures a CLOSE trailer or its absence gives an entry, after a group joined it. `before` says that a CLOSE trailer
was taken for the entry earlier. A CLOSE trailer that gives no locator leaves the one an earlier gave. -/
def BackupSet.figures (x : BackupSet) (i : CartIx) (g : Group) (before : Bool) (segments : List Segment) : BackupSet :=
  let x : BackupSet :=
    { x with
      segments := segments
      dataCount := narrow32 (segments.map Segment.count).sum
      storedBytes := narrow64 (x.storedBytes + g.stored) }
  let kept := x.locator.orElse fun _ => x.closeLoc
  match g.close with
  | some t =>
    let whole := (List.range t.indexCount).all fun k => g.indexes.any fun p => p.1 = k
    { x with
      fileCount := t.fileCount, rawBytes := t.raw, closeLoc := if whole then some ⟨i, t.indexPos, t.indexCount⟩ else kept
      digest := if t.digestMark = 1 then some t.digest else none, digestOff := decide (t.digestMark = 0) }
  | none =>
    { x with
      fileCount := if before then x.fileCount else 0
      rawBytes := if before then x.rawBytes else narrow64 (x.rawBytes + g.raw), closeLoc := kept }

/-- The state of an entry whose highest-ordinal group ended so (R167). -/
def BackupSet.stateAfter (x : BackupSet) (top : GroupEnd) : SetState :=
  if x.noGap && (top = .abort || top = .none) then .aborted else .recovered

/-- R167: how the highest-ordinal group of an entry ended, as far as it is known: a set that comes from the store tells only that a
CLOSE trailer was taken `before` (log entry 36). -/
def BackupSet.topEnd (x : BackupSet) (before : Bool) : Option GroupEnd :=
  match x.ends.find? fun e => some e.1 = x.lastSegment.map (·.ordinal) with
  | some e => some e.2
  | none => if before then some .close else none

/-- R167: the state of an entry, ABORTED when its ordinals run from 1 without a gap and its highest-ordinal group ended ABORT or
none, else RECOVERED. Where the ending is not known, a free choice takes one. -/
def BackupSet.rebuiltState (x : BackupSet) (before : Bool) (choice : Nat) : SetState :=
  x.stateAfter ((x.topEnd before).getD (if choice % 2 = 0 then .span else .abort))

/-- R17, R167: an entry in the state a rebuild gives it: its index locator is the one its CLOSE trailer gave, and absent while it is
ABORTED (log entry 51); INDEX_MISSING marks the absence. -/
def BackupSet.inState (x : BackupSet) (st : SetState) : BackupSet :=
  let loc := if st = .aborted then none else x.closeLoc
  { x with state := st, locator := loc, indexMissing := loc.isNone }

/-- Inserts a segment in ordinal order (R167). -/
def insertSegment (s : Segment) : List Segment → List Segment
  | [] => [s]
  | t :: r => if s.ordinal < t.ordinal then s :: t :: r else t :: insertSegment s r

/-- R167: a group joins an entry as a segment. The first DATA sequence of a group that took no DATA record and no SPAN trailer is 0
(DESIGN CHOICE, log entry 52). -/
def Dev.joinGroup (d : Dev) (c : Chan) (i : CartIx) (e : SetIx) (g : Group) : Dev :=
  match d.set? e, d.rebuild? c with
  | some x, some _ =>
    let named := x.onCart i
    let before := x.closeTaken
    let x : BackupSet :=
      { x.figures i g before (insertSegment ⟨g.ordinal, i, g.firstPos, g.firstSeq.getD 0, g.count⟩ x.segments) with
        ends := x.ends ++ [(g.ordinal, g.ended)] }
    let open_ := (x.topEnd before).isNone && x.noGap
    let choice := if open_ then Config.race d.races else 0
    let d := if open_ then { d with races := d.races + 1 } else d
    let d := d.putSet e (.holds (x.inState (x.rebuiltState before choice)))
    let d := d.modRebuild c fun b => { b with made := if e ∈ b.made then b.made else b.made ++ [e] }
    d.joinCart i named
  | _, _ => d

/-- R167: places a group; the second part is false when allocation finds no entry. Of several RECOVERED entries it may be merged into, it
joins the lowest (DESIGN CHOICE, log entry 78). -/
def Dev.placeGroup (d : Dev) (c : Chan) (g : Group) : Dev × Bool :=
  match d.rebuild? c with
  | none => (d, true)
  | some (s, b) =>
    match s.cart with
    | none => (d, true)
    | some i =>
      match b.made.find? fun e => (d.set? e).any fun x => x.tape = g.tape with
      | some e =>
        if (d.set? e).any fun x => (x.segment g.ordinal).isSome then
          (d.modRebuild c fun b => { b with dropped := b.dropped + 1 }, true)
        else (d.joinGroup c i e g, true)
      | none =>
        if allSets.any fun e => (d.set? e).any fun x => x.isLive && x.tape = g.tape && x.onCart i then
          (d.modRebuild c fun b => { b with known := b.known + 1 }, true)
        else
          match allSets.find? fun e => (d.set? e).any fun x =>
              x.state = .recovered && x.tape = g.tape && (x.segment g.ordinal).isNone && x.inUse.isNone with
          | some e =>
            ((((d.setInUse e (some s.handle)).joinGroup c i e g).modRebuild c fun b => { b with merged := b.merged + 1 }), true)
          | none =>
            match d.freeEntry with
            | none => (d, false)
            | some e =>
              let renumber := (d.liveSet g.tape).isSome
              let (n, d) := if renumber then d.allocNumber else (g.tape, d)
              let y := (d.cart i).getD {}
              let x : BackupSet :=
                { number := n, tape := g.tape, state := .recovered, ownerB := (d.cat.live.pool y.pool).owner = .b, pool := y.pool
                  expiry := 65535, writeDay := d.cat.day, renumbered := renumber, inUse := some s.handle }
              (((d.putSet e (.holds x)).joinGroup c i e g).modRebuild c fun b => { b with entries := b.entries + 1 }, true)

/-- R166: the current group closes with an ending, and is placed; the second part is false when that failed. -/
def Dev.closeGroup (d : Dev) (c : Chan) (how : GroupEnd) (t : Option CloseTrailer) : Dev × Bool :=
  match d.rebuild? c with
  | some (_, b) =>
    match b.group with
    | some g => (d.modRebuild c fun b => { b with group := none }).placeGroup c { g with ended := how, close := t }
    | none => (d, true)
  | none => (d, true)

/-! ### The end (R168, R169) -/

/-- The in-use fields the rebuild set are cleared. -/
def Dev.freeHandle (d : Dev) (h : Nat) : Dev :=
  allSets.foldl (fun d e => if (d.set? e).any (fun x => x.inUse = some h) then d.setInUse e none else d) d

def rebuildCounts (b : Rebuild) : EndCounts := .rebuilt b.entries b.merged b.known b.dropped b.skipped

/-- R169: what every rebuild does at its end. -/
def Dev.rebuildOver (d : Dev) (c : Chan) (why : Reason) : Dev :=
  match d.rebuild? c with
  | some (s, b) =>
    ((((d.endRun c).freeHandle s.handle).endSession c).sessionEnded s why none (rebuildCounts b)).answerOpt s.pendingAbort .ok
  | none => d

/-- R169: an incomplete rebuild sets its cartridge. -/
def Dev.rebuildIncomplete (d : Dev) (c : Chan) (why : Reason) : Dev :=
  let d := (d.closeGroup c .none none).1
  match d.rebuild? c with
  | some (s, b) =>
    let d := match s.cart with
      | some i =>
        let d := if b.anyHeader then
            (d.modCart i fun y =>
              { y with state := if b.lastTrailer = some GroupEnd.span then .full else .active
                       endPos := max y.endPos b.lastPos, written := max y.written b.storedSum }).reselect
          else d
        d.flagSuspect i
      | none => d
    d.rebuildOver c why
  | none => d

/-- R168: a complete rebuild, whose reading ended at position `e`. -/
def Dev.rebuildComplete (d : Dev) (c : Chan) (e : Nat) : Dev :=
  match d.closeGroup c .none none with
  | (d, false) => d.rebuildIncomplete c .catalogueFull
  | (d, true) =>
    match d.rebuild? c with
    | some (s, b) =>
      let d := match s.cart with
        | some i =>
          if e = 0 then
            ((d.liveSetsOn i).foldl Dev.expireSet d).modCart i fun y => { y with state := .scratch, endPos := 0, written := 0 }
          else
            d.modCart i fun y =>
              { y with state := if b.lastTrailer = some GroupEnd.span then .full else .active, endPos := e, written := narrow64 b.storedSum }
        | none => d
      d.reselect.rebuildOver c .rebuilt
    | none => d

/-- R169: a rebuild is aborted. -/
def Dev.rebuildAbort (d : Dev) (c : Chan) (why : Reason) : Dev :=
  match d.rebuild? c with
  | some (_, b) =>
    if b.state = .reading then d.rebuildIncomplete c why
    else (d.refuseOpen c (abortStatus false why)).rebuildOver c why
  | none => d

/-! ### Reading (R165, R166) -/

/-- R164: the cartridge is mounted and READY: the session moves the tape to position 0. -/
def Dev.rebuildMounted (d : Dev) (c : Chan) : Dev :=
  let d := d.modRebuild c fun b => { b with state := .positioning }
  (d.modSess c fun s => { s with noted := none, goal := some 0 }).push (.command c)

/-- R165: the tape stands at position 0: the session becomes READING. -/
def Dev.rebuildArrived (d : Dev) (c : Chan) : Dev :=
  match d.rebuild? c with
  | some (s, _) =>
    let d := (d.acceptOpen c (leBytes 1 s.handle)).modRebuild c fun b => { b with state := .reading }
    (((d.modSess c fun s => { s with goal := none }).fullSpeed c).setRun c .openEnded)
  | none => d

/-- R165: a hard error of the reading; at the sixteenth in a row the rebuild ends DAMAGED. -/
def Dev.rebuildHard (d : Dev) (c : Chan) (skip : Bool) : Dev :=
  let d := d.modRebuild c fun b => { b with hardRun := b.hardRun + 1, skipped := if skip then b.skipped + 1 else b.skipped }
  match d.rebuild? c with
  | some (_, b) => if Config.maxHardRun ≤ b.hardRun then d.rebuildIncomplete c .damaged else d
  | none => d

/-- R166: a new group begins with a record. -/
def startGroup (h : Header) (pos : Nat) : Group := { tape := h.tape, ordinal := h.ordinal, firstPos := pos }

/-- R166: a DATA or INDEX record joins its group; its bytes are summed when its decode was OK, whatever its CRC. -/
def Group.add (g : Group) (h : Header) (kind : RecKind) (pos : Nat) (decodedOk : Bool) : Group :=
  match kind with
  | .data =>
    { g with firstSeq := g.firstSeq.orElse (fun _ => some h.seq), count := g.count + 1
             stored := if decodedOk then g.stored + h.payloadLength else g.stored
             raw := if decodedOk then g.raw + h.rawLength else g.raw }
  | .index => { g with indexes := g.indexes ++ [(h.seq, pos)] }
  | _ => g

/-- R166: the ending of a group at a trailer that passes, with the SPAN trailer's figures taken into it. -/
def Group.closing (g : Group) (kind : RecKind) (payload : List Byte) : Group × GroupEnd × Option CloseTrailer :=
  match kind with
  | .close => (g, .close, some (readCloseTrailer payload))
  | .span => ({ g with count := fieldAt payload 0 4, firstSeq := some (fieldAt payload 4 4) }, .span, none)
  | _ => (g, .abort, none)

/-- R165, R166: a record whose header passes is taken into its group. `payload` is what its decode gave when the raw CRC agrees. A record
that closes a group no entry can be allocated for is taken into none (R169; DESIGN CHOICE, log entry 68). -/
def Dev.takeIntoGroup (d : Dev) (c : Chan) (h : Header) (kind : RecKind) (pos : Nat) (decodedOk : Bool)
    (payload : Option (List Byte)) : Dev × Bool :=
  match d.rebuild? c with
  | none => (d, true)
  | some (_, b) =>
    let same := b.group.any fun g => g.tape = h.tape && g.ordinal = h.ordinal
    let (d, ok) := if same then (d, true) else d.closeGroup c .none none
    if !ok then (d, false)
    else
      let d := d.modRebuild c fun b =>
        { b with anyHeader := true
                 group := some (((if same then b.group else none).getD (startGroup h pos)).add h kind pos decodedOk) }
      if kind = .data ∨ kind = .index then (d, true)
      else
        match payload with
        | none => d.closeGroup c .none none
        | some bs =>
          match d.rebuild? c with
          | some (_, b) =>
            let (g, how, t) := ((b.group.getD (startGroup h pos))).closing kind bs
            (d.modRebuild c fun b => { b with group := some g, lastTrailer := some how }).closeGroup c how t
          | none => (d, true)

/-- R165: a record that arrived with data. One with a correct header check but a kind outside 1 to 5, an ordinal outside 1 to 4 or
tape number 0 names no group: it is skipped as one whose header check fails (DEDUCED, log entry 46). The stored size of a record whose
header check fails is the length of the bytes read (DESIGN CHOICE, log entry 53). -/
def Dev.rebuildRecord (d : Dev) (c : Chan) (entry : ReadEntry) (decoded : Option (List Byte)) : Dev :=
  match d.rebuild? c with
  | none => d
  | some _ =>
    let h := readHeader entry.bytes
    let size := if h.check then 32 + h.payloadLength else entry.bytes.length
    let d := d.modRebuild c fun b => { b with lastPos := entry.pos + 1, storedSum := b.storedSum + size }
    match h.check && 1 ≤ h.ordinal && h.ordinal ≤ 4 && h.tape ≠ 0, h.kind with
    | true, some kind =>
      let payload := decoded.bind fun bs => if crc32 bs = h.rawCrc then some bs else none
      match d.takeIntoGroup c h kind entry.pos decoded.isSome payload with
      | (d, false) => d.rebuildIncomplete c .catalogueFull
      | (d, true) => if payload.isSome then d.modRebuild c fun b => { b with hardRun := 0 } else d.rebuildHard c false
    | _, _ => d.rebuildHard c true

/-- R165: an entry without a record. -/
def Dev.rebuildNoRecord (d : Dev) (c : Chan) (entry : ReadEntry) (k : DriveKind) : Dev :=
  if k = .hardRead then (d.modRebuild c fun b => { b with lastPos := entry.pos + 1 }).rebuildHard c true
  else d.rebuildComplete c entry.pos

end Sys2Proof.Machine
end

