-- ==== Sys2Proof/Machine/Arbiter.lean ====
section
/-! DEFINITION. Aborts of any session, the drive FAULT (R76), and the arbiter: handles, the wait list and the grant (R78 to
R84). -/

namespace Sys2Proof.Machine

/-! ### Aborts and the drive FAULT -/

/-- R136, R152, R163, R169: the session on a channel is aborted for a reason. -/
def Dev.abortSession (d : Dev) (c : Chan) (why : Reason) : Dev :=
  match d.sess c with
  | some s =>
    match s.kind with
    | .backup _ => d.backupAbort c why none
    | .verify _ => d.verifyAbort c why
    | .restore _ => d.restoreAbort c why
    | .rebuild _ => d.rebuildAbort c why
  | none => d

/-- R76, step 2: an unload in progress is given up; an EXPORT request it ran for is answered FAULT. -/
def Dev.giveUpUnload (d : Dev) (c : Chan) : Dev :=
  let d' := d.modDrive c fun x => { x with unload := none }
  match (d.drive c).unload.bind (·.req) with
  | some (.panel r) => d'.answer r .fault
  | _ => d'

/-- R76: a drive enters FAULT. -/
def Dev.driveFault (d : Dev) (c : Chan) : Dev :=
  if (d.drive c).state = .fault ∨ (d.drive c).state = .absent then
    d.modDrive c fun x => { x with out := none, cmdTimer := none }
  else
    let d := (d.giveUpUnload c).modDrive c fun x =>
      { x with state := .fault, out := none, cmdTimer := none, insertTimer := none, idleTimer := none }
    let d := d.abortSession c .driveFault
    let d := d.modDrive c fun x =>
      { x with mounted := .none, rate := none, speed := none, speedPending := false, pos := none }
    let d := d.setConfirmed (.drive c) false
    d.noticeAll (.fault (.drive c) (some (d.driveReport c)))

/-! ### Handles (R78) -/

def Dev.handleHeld (d : Dev) (h : Nat) : Bool := (d.sessionOf h).isSome || d.waitList.any fun e => e.handle = h

/-- R78: the first handle from `h` on that is not held, stepping from 254 to 1. -/
def Dev.handleFrom (d : Dev) : Nat → Nat → Nat
  | 0, h => h
  | fuel + 1, h => if d.handleHeld h then d.handleFrom fuel (if h = 254 then 1 else h + 1) else h

def Dev.giveHandle (d : Dev) : Nat × Dev :=
  let h := d.handleFrom 11 d.nextHandle
  (h, { d with nextHandle := if h = 254 then 1 else h + 1 })

/-! ### The wait list (R80, R83, R84) -/

def OpenKind.set? : OpenKind → Option SetIx
  | .append e _ _ _ => some e
  | .verify e => some e
  | .restore e _ => some e
  | _ => none

/-- R80: an entry leaves the list without a grant: its handle is released and the in-use field of its set cleared. -/
def Dev.unlist (d : Dev) (e : WaitEntry) : Dev :=
  ({ d with waitList := d.waitList.filter fun x => x.handle ≠ e.handle } : Dev).freeSet e.kind.set?

/-- An entry leaves the list without a grant; the open is answered under the handle it was given (R172), or its answer is
discarded. -/
def Dev.leaveList (d : Dev) (e : WaitEntry) (answer : Option Status) : Dev :=
  match answer with
  | some st => (d.unlist e).answerWith e.req st e.handle []
  | none => (d.unlist e).dropAnswer e.req

/-- R80: an open that passed its checks is offered to the wait list. -/
def Dev.offerOpen (d : Dev) (r : ReqId) (k : OpenKind) (needed : Option CartIx) : Dev :=
  if (d.drive .ch0).state = .absent ∧ (d.drive .ch1).state = .absent then d.answer r .fault
  else if Config.maxWaiting ≤ d.waitList.length then d.answer r .busy
  else
    let (h, d) := d.giveHandle
    let timer : Option Nat := if d.cfg.openWait = 0 then none else some (d.cfg.openWait * 1000)
    let d : Dev := { d with waitList := d.waitList ++ [{ req := r, handle := h, kind := k, needed := needed, timer := timer }] }
    let d := match k.set? with
      | some e => d.setInUse e (some h)
      | none => d
    let d := d.push .grantRule
    if d.cfg.openWait = 0 then d.push (.zeroWait h) else d

/-- R83: with an open-wait value of 0, an open the grant rule did not grant is refused with BUSY; it was not taken, so the answer
names the handle its frame named (R172; log entry 49). -/
def Dev.zeroWait (d : Dev) (h : Nat) : Dev :=
  match d.waitList.find? fun e => e.handle = h with
  | some e => (d.unlist e).answer e.req .busy
  | none => d

/-! ### The grant (R81, R82) -/

/-- R81: the open is blocked while its needed cartridge is claimed or is a session's session cartridge. -/
def Dev.blocked (d : Dev) (e : WaitEntry) : Bool :=
  match e.needed with
  | some i => d.cartBusy i
  | none => false

def Dev.freeDrives (d : Dev) : List Chan := [Chan.ch0, .ch1].filter fun c => (d.drive c).isFree

/-- R81, step 1: the first open in arrival order whose needed cartridge is mounted in a free drive. -/
def Dev.grantMounted (d : Dev) : Option (WaitEntry × Chan) :=
  d.waitList.findSome? fun e =>
    if d.blocked e then none
    else
      match e.needed with
      | some i => (d.freeDrives.find? fun c => (d.drive c).mounted = Occupant.cart i).map fun c => (e, c)
      | none => none

/-- R81, steps 2 and 3: the oldest open not blocked, and its drive. -/
def Dev.grantOldest (d : Dev) : Option (WaitEntry × Chan) :=
  match d.waitList.find? fun e => !d.blocked e with
  | none => none
  | some e =>
    let spare := d.freeDrives.filter fun c =>
      match d.occ (.drive c) with
      | .cart i => !(d.waitList.any fun x => x.handle ≠ e.handle && x.needed = some i)
      | _ => true
    match spare.head?.orElse fun _ => d.freeDrives.head? with
    | some c => some (e, c)
    | none => none

/-- R81, R82: a grant that the open's chapter refuses at once: the open is answered and the drive released. -/
def Dev.refuseGrant (d : Dev) (c : Chan) (st : Status) : Dev :=
  match d.sess c with
  | some s => ((d.refuseOpen c st).freeSet s.set).endSession c
  | none => d

/-- R116: the grant of a backup that does not append. -/
def Dev.grantBackup (d : Dev) (c : Chan) (target : Option Label) : Dev :=
  match d.backup? c with
  | some (s, b) =>
    match target with
    | none => d.chooseTarget c
    | some l =>
      match d.byLabel l with
      | some i => if d.candidate c s.handle b.pool i then d.takeTarget c i else d.refuseGrant c .noCartridge
      | none => d.refuseGrant c .noCartridge
  | none => d

/-- R115, R116: the grant of an append. -/
def Dev.grantAppend (d : Dev) (c : Chan) (e : SetIx) : Dev :=
  match d.set? e with
  | some x =>
    if d.appendFits x then
      match x.lastSegment with
      | some g => (d.setSessCart c g.cart).push (.bring c)
      | none => d.refuseGrant c .badState
    else d.refuseGrant c .badState
  | none => d.refuseGrant c .badState

/-- R164: the grant of a rebuild. REBUILD(index) names an entry, which may have been freed, or may hold another cartridge, since the open
came: the rebuild is of what the entry holds (DESIGN CHOICE, log entry 74). -/
def Dev.grantRebuild (d : Dev) (c : Chan) (i : CartIx) (h : Nat) : Dev :=
  if (d.liveSetsOn i).any fun e => (d.set? e).any fun x => x.inUse.isSome then d.refuseGrant c .setInUse
  else
    let d := (d.liveSetsOn i).foldl (fun d e => d.setInUse e (some h)) d
    (d.setSessCart c i).push (.bring c)

/-- The session context an open begins with (R82, R113, R139, R153, R164). -/
def Dev.newSession (d : Dev) (e : WaitEntry) : Session :=
  let base (k : SessKind) (x : Option SetIx) : Session :=
    { handle := e.handle, owner := e.req.port, serial := e.req.serial, openReq := some e.req, set := x, openTimer := e.timer, kind := k }
  match e.kind with
  | .backup pool expiry va _ => base (.backup { pool := pool, expiry := expiry, verifyAfter := va }) none
  | .append x pool expiry va =>
    let b := d.set? x
    base (.backup { append := true, pool := pool, expiry := expiry, verifyAfter := va
                    nextData := (b.map (·.dataCount)).getD 0, nextFile := ((b.map (·.fileCount)).getD 0) + 1 }) (some x)
  | .verify x => base (.verify {}) (some x)
  | .restore x files => base (.restore { files := files.map fun f => { file := f } }) (some x)
  | .rebuild _ => base (.rebuild {}) none

/-- R82: an open is granted a drive. -/
def Dev.grantTo (d : Dev) (e : WaitEntry) (c : Chan) : Dev :=
  let d := { d with waitList := d.waitList.filter fun x => x.handle ≠ e.handle }
  let d := d.setSess c (some (d.newSession e))
  let d := d.modDrive c fun x => { x with claim := some e.handle, idleTimer := none }
  match e.kind with
  | .backup _ _ _ target => d.grantBackup c target
  | .append x _ _ _ => d.grantAppend c x
  | .verify _ => d.verifyGranted c
  | .restore _ _ => d.restoreGranted c
  | .rebuild i => d.grantRebuild c i e.handle

/-- R81: one grant, after which the rule runs again; nothing when no free drive or no open that is not blocked remains. -/
def Dev.grantRule (d : Dev) : Dev :=
  match d.grantMounted.orElse fun _ => d.grantOldest with
  | some (e, c) => (d.grantTo e c).pushFront [.grantRule]
  | none => d

end Sys2Proof.Machine
end

