-- ==== Sys2Proof/Machine/PortEvents.lean ====
section
/-! DEFINITION. The port units' events: bad frames (R170), frames that leave (R171, R174), and the loss, return and expiry of a
client link (R178 to R181). -/

namespace Sys2Proof.Machine

/-- R170: a frame that fails its check: a FRAME_ERROR is sent, unless one is already waiting. -/
def Dev.badFrame (d : Dev) (p : Port) : Dev :=
  if d.hears p ∧ (d.port p).path.any OutFrame.isFrameError = false then
    (d.modPort p fun u => { u with path := u.path ++ [.frameError] }).push (.transmit p)
  else d

/-- R170: a good frame whose kind names no request is answered BAD_REQUEST under its tag, with no queue entry, and under its own handle
(DESIGN CHOICE, log entry 69). -/
def Dev.unknownKind (d : Dev) (p : Port) (tag handle : Byte) : Dev :=
  if d.hears p then
    (d.modPort p fun u => { u with path := u.path ++ [.answer none tag.toNat handle.toNat .badRequest []] }).push (.transmit p)
  else d

/-- R158, R163, R171: what a frame that has left tells its source. -/
def Dev.leftPort (d : Dev) (p : Port) : OutFrame → Dev
  | .answer (some n) _ _ _ _ => d.modPort p fun u => { u with queue := u.queue.filter fun r => r.serial ≠ n }
  | .delivery _ n (.done file _ _ _) => d.doneLeft p n file
  | _ => d

/-- R174: the frame the transmitter holds has left the port. -/
def Dev.frameGone (d : Dev) (p : Port) : Dev :=
  match (d.port p).tx with
  | some f => ((d.modPort p fun u => { u with tx := none }).leftPort p f).push (.transmit p)
  | none => d

/-- The channels whose session a port owns. -/
def Dev.channelsOf (d : Dev) (p : Port) : List Chan := [Chan.ch0, .ch1].filter fun c => (d.sess c).any fun s => s.owner = p

/-- R179: the link is lost: the queues and the frame part way through sending are discarded, and the hold timer starts. -/
def Dev.linkLost (d : Dev) (p : Port) : Dev :=
  let d := d.modPort p fun u => { u with present := false }
  if p ≠ .P ∧ (d.port p).link = .up then
    let d := d.modPort p fun u =>
      { u with queue := [], path := [], notices := [], tx := none, link := .holding, hold := some Config.holdMs }
    (d.channelsOf p).foldl Dev.restoreLost d
  else d

/-- R180: what the link's return does for a session of the port. -/
def Dev.sessionReturned (d : Dev) (c : Chan) : Dev := (d.restateCredits c).restoreReturned c

/-- R180: the link returns: from HOLDING the sessions of the port go on; from DOWN it becomes UP with empty queues. -/
def Dev.linkReturned (d : Dev) (p : Port) : Dev :=
  let d := d.modPort p fun u => { u with present := true }
  match (d.port p).link with
  | .up => d
  | .down => d.modPort p fun u => { u with link := .up }
  | .holding =>
    let d := d.modPort p fun u => { u with link := .up, hold := none }
    let (cs, d) := d.shuffled (d.channelsOf p)
    cs.foldl Dev.sessionReturned d

/-- R138, R181: a session of the port is aborted; a backup whose CLOSE trailer is being written waits for that first. -/
def Dev.loseSession (d : Dev) (c : Chan) : Dev :=
  match d.sess c with
  | some s =>
    if (d.writeInFlight c s.handle).any fun r => r.kind = RecKind.close then d.modBackup c fun b => { b with lostHold := true }
    else d.abortSession c .linkLost
  | none => d

/-- R181: the hold timer expires: the port's waiting opens leave the list and its sessions are aborted, in a free order (log entry
5). -/
def Dev.holdExpired (d : Dev) (p : Port) : Dev :=
  if (d.port p).hold.isNone then d
  else
    let d := d.modPort p fun u => { u with hold := none, link := .down }
    let d := (d.waitList.filter fun e => e.req.port = p).foldl (fun d e => d.leaveList e none) d
    (d.shuffled (d.channelsOf p)).1.foldl Dev.loseSession (d.shuffled (d.channelsOf p)).2

/-- R84: CANCEL: the oldest waiting open of the port with the tag leaves the list. -/
def Dev.cancel (d : Dev) (r : ReqId) (tag : Nat) : Dev :=
  match d.waitList.find? fun e => e.req.port = r.port ∧ e.req.tag = tag with
  | some e => (d.leaveList e (some .aborted)).answer r .ok
  | none => d.answer r .notWaiting

end Sys2Proof.Machine
end

