-- ==== Sys2Proof/Machine/Operands.lean ====
section
/-! DEFINITION. The operands of requests: what each request's payload holds (R197), written and read. A parser that answers
`none` is a payload that fails the form check of R172. -/

namespace Sys2Proof.Machine

/-- A parser's answer, when it has used every byte: the payload length must equal the sum of its fields (R197). -/
def whole {α : Type} : Option (α × List Byte) → Option α
  | some (x, []) => some x
  | _ => none

/-- A request with no payload. -/
def parseNone (bs : List Byte) : Option Unit := if bs = [] then some () else none

/-- A request whose payload is one number of one byte: an index, a pool, a tag, a count or a unit. -/
def parseByte (bs : List Byte) : Option Nat := whole (takeNum 1 bs)

/-- A request whose payload is one number of two bytes: a set number or a day. -/
def parseWord (bs : List Byte) : Option Nat := whole (takeNum 2 bs)

/-- Takes a label that must be there. -/
def takeSomeLabel (bs : List Byte) : Option (Label × List Byte) :=
  match takeLabel bs with
  | some (some l, r) => some (l, r)
  | _ => none

/-- RECYCLE and EXPORT: a label (R26, R111). -/
def parseLabel (bs : List Byte) : Option Label := whole (takeSomeLabel bs)

/-- RELOCATE: a label and a place code (R112). -/
def parseRelocate (bs : List Byte) : Option (Label × Nat) := do
  let (l, r) ← takeSomeLabel bs
  let p ← parseByte r
  return (l, p)

/-- OPEN_BACKUP's operands (R114). -/
structure BackupOpen where
  pool : Nat
  expiry : Nat
  verifyAfter : Bool
  target : Option Label
  append : Option Nat
  deriving DecidableEq, Repr

def parseOpenBackup (bs : List Byte) : Option BackupOpen := do
  let (pool, r) ← takeNum 1 bs
  let (expiry, r) ← takeNum 2 r
  let (va, r) ← takeBelow 1 2 r
  let (target, r) ← takeOpt 8 takeSomeLabel r
  let append ← whole (takeOpt 2 (takeNum 2) r)
  return ⟨pool, expiry, va = 1, target, append⟩

/-- FILE_BEGIN: a tag of 0 to 64 bytes (R122). -/
def parseTag (bs : List Byte) : Option (List Byte) :=
  match bs with
  | [] => none
  | n :: t => if t.length = n.toNat ∧ t.length ≤ 64 then some t else none

/-- DATA: the 1 to 4,096 data bytes alone (R123, R197). -/
def parseData (bs : List Byte) : Option (List Byte) := if 1 ≤ bs.length ∧ bs.length ≤ 4096 then some bs else none

/-- OPEN_RESTORE: a set number and a list of file numbers, its count in one byte (R154). -/
def parseRestore (bs : List Byte) : Option (Nat × List Nat) := do
  let (n, r) ← takeNum 2 bs
  let (k, r) ← takeNum 1 r
  let fs ← whole (takeMany (takeNum 2) k r)
  return (n, fs)

/-- POOLS: four boundaries, and a kind code and an owner code for each of the five pools (R13). -/
structure PoolsReq where
  b1 : Nat
  b2 : Nat
  b3 : Nat
  b4 : Nat
  pools : List (Nat × Nat)
  deriving DecidableEq, Repr

def takeCodes (bs : List Byte) : Option ((Nat × Nat) × List Byte) := do
  let (k, r) ← takeNum 1 bs
  let (o, r) ← takeNum 1 r
  return ((k, o), r)

def parsePools (bs : List Byte) : Option PoolsReq := do
  let (b1, r) ← takeNum 1 bs
  let (b2, r) ← takeNum 1 r
  let (b3, r) ← takeNum 1 r
  let (b4, r) ← takeNum 1 r
  let ps ← whole (takeMany takeCodes 5 r)
  return ⟨b1, b2, b3, b4, ps⟩

/-- CONFIG: for each setting of R192, in its order, a value or a mark that it is unchanged. -/
structure ConfigReq where
  openWait : Option Nat := none
  idleUnload : Option Nat := none
  settle : Option Nat := none
  watermark : Option Nat := none
  readAhead : Option Nat := none
  spanReserve : Option Nat := none
  retireLimit : Option Nat := none
  fns : List (Option LineFn) := [none, none, none, none]
  deriving DecidableEq, Repr

def parseConfig (bs : List Byte) : Option ConfigReq := do
  let (ow, r) ← takeOptNum 2 bs
  let (iu, r) ← takeOptNum 2 r
  let (st, r) ← takeOptNum 2 r
  let (wm, r) ← takeOptNum 2 r
  let (ra, r) ← takeOptNum 1 r
  let (sr, r) ← takeOptNum 2 r
  let (rl, r) ← takeOptNum 2 r
  let fns ← whole (takeMany (takeOpt 1 takeLineFn) 4 r)
  return { openWait := ow, idleUnload := iu, settle := st, watermark := wm, readAhead := ra, spanReserve := sr
           retireLimit := rl, fns := fns }

/-- NOTICE_MASK: a port code and twelve enables in two bytes (R177, R199). -/
def parseMask (bs : List Byte) : Option (Nat × List Bool) := do
  let (p, r) ← takeNum 1 bs
  let m ← parseWord r
  return (p, natBits 12 m)

/-! ### The same payloads, written -/

def optLabelBytes (l : Option Label) : List Byte := optBytes 8 (l.map fun x => labelBytes (some x))

def BackupOpen.bytes (o : BackupOpen) : List Byte :=
  leBytes 1 o.pool ++ leBytes 2 o.expiry ++ boolByte o.verifyAfter ++ optLabelBytes o.target
    ++ optBytes 2 (o.append.map (leBytes 2))

def restoreBytes (n : Nat) (files : List Nat) : List Byte :=
  leBytes 2 n ++ leBytes 1 files.length ++ files.flatMap (leBytes 2)

def PoolsReq.bytes (q : PoolsReq) : List Byte :=
  leBytes 1 q.b1 ++ leBytes 1 q.b2 ++ leBytes 1 q.b3 ++ leBytes 1 q.b4
    ++ q.pools.flatMap fun p => leBytes 1 p.1 ++ leBytes 1 p.2

def ConfigReq.bytes (q : ConfigReq) : List Byte :=
  optBytes 2 (q.openWait.map (leBytes 2)) ++ optBytes 2 (q.idleUnload.map (leBytes 2))
    ++ optBytes 2 (q.settle.map (leBytes 2)) ++ optBytes 2 (q.watermark.map (leBytes 2))
    ++ optBytes 1 (q.readAhead.map (leBytes 1)) ++ optBytes 2 (q.spanReserve.map (leBytes 2))
    ++ optBytes 2 (q.retireLimit.map (leBytes 2)) ++ q.fns.flatMap fun f => optBytes 1 (f.map fun x => leBytes 1 x.code)

/-! ### The settings CONFIG leaves (R192) -/

/-- A value taken to the nearest end of its range. -/
def clampTo (lo hi v : Nat) : Nat := if v < lo then lo else if hi < v then hi else v

/-- One setting after CONFIG: unchanged, or the value clamped. -/
def setting (old : Nat) (lo hi : Nat) : Option Nat → Nat
  | none => old
  | some v => clampTo lo hi v

/-- R192: every setting as it stands after a CONFIG request. -/
def Settings.configured (g : Settings) (q : ConfigReq) : Settings :=
  { g with
    openWait := setting g.openWait 0 3600 q.openWait
    idleUnload := setting g.idleUnload 0 3600 q.idleUnload
    settle := match q.settle with | none => g.settle | some v => clampTo 0 2550 v / 10 * 10
    watermark := setting g.watermark 4 256 q.watermark
    readAhead := setting g.readAhead 8 128 q.readAhead
    spanReserve := setting g.spanReserve 0 65535 q.spanReserve
    retireLimit := setting g.retireLimit 1 65535 q.retireLimit
    fns := List.zipWith (fun f o => o.getD f) g.fns q.fns }

/-- The answer to CONFIG: every setting as it now stands, in the order of R192. -/
def settingsBytes (g : Settings) : List Byte :=
  leBytes 2 g.openWait ++ leBytes 2 g.idleUnload ++ leBytes 2 g.settle ++ leBytes 2 g.watermark ++ leBytes 1 g.readAhead
    ++ leBytes 2 g.spanReserve ++ leBytes 2 g.retireLimit ++ g.fns.flatMap fun f => leBytes 1 f.code

end Sys2Proof.Machine
end

