-- ==== Sys2Proof/Machine/Commands.lean ====
section
/-! DEFINITION. A channel at work: bringing a session's cartridge (R82, R88, R117, R142), the next command for the drive
(R69), the reader and writer (R59, R62), the decoder's start (R48), and the requesters that wait for a page (R52). -/

namespace Sys2Proof.Machine

/-! ### Bringing the cartridge -/

/-- A session waits for a cartridge: in WAIT_MEDIA with one chosen, or spanning to a continuation. -/
def Dev.awaitsCart (d : Dev) (c : Chan) : Option (Session × CartIx) :=
  match d.sess c with
  | none => none
  | some s =>
    let wants : Bool := match s.kind with
      | .backup b => (b.state = .waitMedia && !b.selecting) || (b.state = .spanning && b.span = .loading)
      | .verify v => v.state = .waitMedia
      | .restore r => r.state = .waitMedia
      | .rebuild r => r.state = .waitMedia
    match s.cart with
    | some i => if wants then some (s, i) else none
    | none => none

/-- A session wants its cartridge brought into its drive; not while it yields the cartridge to another session (R142). -/
def Dev.wantsCart (d : Dev) (c : Chan) : Option (Session × CartIx) := (d.awaitsCart c).filter fun p => d.mayHave p.1 p.2

/-- R142, R155: an ABSENT cartridge is noticed, whether or not the session yields it. -/
def Dev.noteAbsent (d : Dev) (c : Chan) : Dev :=
  match d.awaitsCart c with
  | some (_, i) =>
    if (d.drive c).mounted ≠ Occupant.cart i ∧ ((d.cart i).bind (·.location)).isNone then d.mediaNeeded c (.cart i) else d
  | none => d

/-- R88: the conditions of a LOAD offer, and the place the cartridge lies in. -/
def Dev.loadable (d : Dev) (c : Chan) (i : CartIx) : Option Place :=
  let x := d.drive c
  match (d.cart i).bind (·.location) with
  | some (.drive _) => none
  | some p =>
    if d.confirmed p && x.state = .empty && d.occ (.drive c) = .none && x.unload.isNone then some p else none
  | none => none

/-- R88: the session would offer a LOAD now, and none of its own is in the queue. -/
def Dev.wantsLoad (d : Dev) (c : Chan) : Bool :=
  match d.wantsCart c with
  | some (s, i) =>
    (d.loadable c i).isSome &&
      !(d.mqu.queue.any fun (o : Order) =>
          o.kind = .load && o.cart = Occupant.cart i && o.dst = some (.drive c) && o.reqs.contains (.session s.handle))
  | none => false

/-- R88: the LOAD is offered; one that is refused is offered again when an order leaves the queue. -/
def Dev.offerLoad (d : Dev) (c : Chan) : Dev :=
  match d.wantsCart c with
  | some (s, i) =>
    match d.loadable c i with
    | some p =>
      (d.offerOrder { kind := .load, cart := .cart i, src := p, dst := some (.drive c), reqs := [.session s.handle] }).1
    | none => d
  | none => d

/-- The session's cartridge is mounted in its drive and READY. -/
def Dev.mountedNow (d : Dev) (c : Chan) : Dev :=
  match d.sess c with
  | some s =>
    match s.kind with
    | .backup _ => d.backupMounted c
    | .verify _ => d.verifyMounted c
    | .restore _ => d.restoreMounted c
    | .rebuild _ => d.rebuildMounted c
  | none => d

/-- R82, R88, R117, R142, R155: acts on the condition of a session's cartridge. -/
def Dev.bring (d : Dev) (c : Chan) : Dev :=
  let d := (d.mediaBack c).noteAbsent c
  match d.wantsCart c with
  | none => d
  | some (s, i) =>
    let x := d.drive c
    if x.mounted = Occupant.cart i then
      if d.cartHere c i then d.mountedNow c else d
    else
      match (d.cart i).bind (·.location) with
      | none => d
      | some (.drive c') =>
        if c' ≠ c ∧ (d.drive c').isFree ∧ (d.drive c').mounted = Occupant.cart i ∧ d.confirmed (.drive c') then
          d.beginUnload c' (some (.session s.handle))
        else d
      | some p =>
        if x.mounted ≠ .none ∧ x.unload.isNone ∧ d.confirmed p then d.beginUnload c (some (.session s.handle))
        else if d.wantsLoad c then d.offerLoad c
        else d

/-! ### Positioning -/

/-- Whether a session is moving the tape, and may do without a command when it is there already; an append always sends its
LOCATE (R119). -/
def Session.positioning (s : Session) : Bool :=
  match s.kind with
  | .backup b => b.state = .positioning && (b.appendPhase = .none)
  | .verify v => v.state = .positioning
  | .restore r => r.state = .positioning
  | .rebuild r => r.state = .positioning

/-- An append's own LOCATEs (R119). -/
def Session.relocating (s : Session) : Bool :=
  match s.kind with
  | .backup b => b.state = .positioning && (b.appendPhase = .locating || b.appendPhase = .relocating)
  | _ => false

/-- POSITIONING has reached its goal. -/
def Dev.arrived (d : Dev) (c : Chan) : Dev :=
  match d.sess c with
  | some s =>
    match s.kind with
    | .backup _ => d.backupArrived c
    | .verify _ => d.verifyArrived c
    | .restore _ => d.restoreArrived c
    | .rebuild _ => d.rebuildArrived c
  | none => d

/-- A LOCATE or REWIND of POSITIONING failed; `blank` says that it completed BLANK (R118, R143, R156, R160). A rebuild sends
its REWIND again (R70). -/
def Dev.missed (d : Dev) (c : Chan) (blank : Bool) : Dev :=
  match d.sess c with
  | some s =>
    match s.kind with
    | .backup _ => d.backupMissed c
    | .verify _ => d.verifyMissed c blank
    | .restore _ => d.restoreMissed c blank
    | .rebuild _ => d.push (.command c)
  | none => d

/-! ### Reader and writer -/

/-- R62: the reader takes a page and issues READ; a pending speed goes first (R64). -/
def Dev.readerStep (d : Dev) (c : Chan) (s : Session) : Dev :=
  let x := d.chan c
  match x.drive.pos with
  | none => d
  | some p =>
    if x.run.left ∧ x.rq.length < d.cfg.readAhead then
      if x.drive.speedPending then
        (d.modDrive c fun y => { y with speedPending := false }).sendCmd c (.speed (x.drive.speed.getD 8)) (some s.handle)
      else
        match d.takePage c with
        | some d =>
          (d.modChan c fun y =>
            { y with rq := y.rq ++ [{ pos := p }], run := y.run.next, readerWait := false }).sendCmd c .read (some s.handle)
        | none => d.modChan c fun y => { y with readerWait := true }
    else d

/-- R59: whether the head of the write queue may be written now. -/
def mayWrite (b : Backup) (w : WItem) : Bool :=
  b.writer = .stream &&
    match b.state with
    | .active | .closing | .aborting => true
    | .spanning => b.span = .trailer && w = .trailer .span
    | _ => false

/-- R59, R132: the channel issues the WRITE of the head record, a pending speed before it, or begins a span. -/
def Dev.writerStep (d : Dev) (c : Chan) (s : Session) (b : Backup) : Dev :=
  let x := d.chan c
  match x.wq, x.drive.pos, (d.setOf s).map (·.2) with
  | w :: _, some p, some y =>
    if !mayWrite b w then d
    else if x.drive.speedPending then
      (d.modDrive c fun z => { z with speedPending := false }).sendCmd c (.speed (x.drive.speed.getD 8)) (some s.handle)
    else
      let r := issued w y b p
      if r.kind = .data ∧ d.spanEstimate b y r then d.beginSpan c
      else d.sendCmd c (.write r p) (some s.handle)
  | _, _, _ => d

/-- The session's own command (R69). -/
def Dev.sessionCommand (d : Dev) (c : Chan) (s : Session) : Dev :=
  let x := d.drive c
  if s.positioning then
    match s.goal with
    | some 0 => d.sendCmd c (.rewind false) (some s.handle)
    | some p => d.sendCmd c (.locate p) (some s.handle)
    | none => d
  else if s.relocating then
    match s.goal with
    | some p => d.sendCmd c (.locate p) (some s.handle)
    | none => d
  else if x.pos.isNone then d
  else
    match s.kind with
    | .backup b => if b.appendPhase = .reading then d.readerStep c s else d.writerStep c s b
    | _ => d.readerStep c s

/-- R69: the command sent when none is outstanding: a wanted STATUS, then the unload procedure's, then the session's. While the
power hold is present none is sent (R90). -/
def Dev.nextCommand (d : Dev) (c : Chan) (x : Drive) (here : Bool) (s : Option Session) : Dev :=
  if d.mqu.holdPower then d
  else if x.wants.any then (d.modDrive c fun y => { y with wants := {} }).sendCmd c (.status x.wants) none
  else
    match x.unload with
    | some ⟨.rewind, _⟩ => d.sendCmd c (.rewind true) none
    | some ⟨.eject, _⟩ => d.sendCmd c .eject none
    | _ =>
      match s with
      | some s => if here then d.sessionCommand c s else d
      | none => d

/-- R69, R118, R143: the next command for the drive; a session whose tape stands at its goal needs none to arrive. -/
def Dev.command (d : Dev) (c : Chan) : Dev :=
  let x := d.drive c
  if x.out.isSome || x.stale.isSome || x.state = .absent then d
  else
    let here := x.state = .ready && x.unload.isNone
    match d.sess c with
    | some s =>
      if here && s.positioning && s.goal.isSome && x.pos = s.goal && !(x.wants.any && !d.mqu.holdPower) then d.arrived c
      else d.nextCommand c x here (some s)
    | none => d.nextCommand c x here none

/-! ### The decoder (R48) and the head of the read queue (R63) -/

/-- R48: the lower-numbered free decode half. -/
def Channel.freeHalf? (x : Channel) : Option Chan :=
  if x.halves.zero.isNone then some .ch0 else if x.halves.one.isNone then some .ch1 else none

/-- An entry that holds a record (R62, R63). -/
def ReadEntry.hasRecord (e : ReadEntry) : Bool := e.kind = some .ok || e.kind = some .softRecovered

/-- R48: an IDLE decoder takes the oldest undecoded record that has arrived with data, and a free decode half. -/
def Dev.decoderTake (d : Dev) (c : Chan) : Dev :=
  let x := d.chan c
  match x.dec, x.rq, x.freeHalf? with
  | none, e :: _, some h =>
    if e.hasRecord && !e.dropped then
      d.modChan c fun y => { y with dec := some h, halves := y.halves.set h (some []) }
    else d
  | _, _, _ => d

/-- R63: an entry without a record has reached the head of the read queue: it leaves, and the session deals with it. -/
def Dev.readHead (d : Dev) (c : Chan) : Dev :=
  match (d.chan c).rq, d.sess c with
  | e :: _, some s =>
    match e.kind with
    | none => d
    | some k =>
      if e.hasRecord then d
      else
        let d := d.popRead c
        match s.kind with
        | .backup _ => d.appendMissing c
        | .verify _ => d.verifyNoRecord c k
        | .restore _ => d.restoreNoRecord c k
        | .rebuild _ => d.rebuildNoRecord c e k
  | _, _ => d

/-- R48: a decode ends; the entry leaves the read queue with its page, the bytes stay in the decode half, and the session checks
the record. A session other than a restore releases the half once its checks are made, and before the start conditions are checked again,
so that the next decode may take that half (DESIGN CHOICE, log entry 75). -/
def Dev.decodeDone (d : Dev) (c : Chan) : Dev :=
  let x := d.chan c
  match x.dec, x.rq, x.sess with
  | some h, e :: _, some s =>
    let out := decodeRecord e.bytes
    let d := d.modChan c fun y => { y with dec := none, halves := y.halves.set h (some (decodeLeaves e.bytes)) }
    let d := (d.popRead c).push (.decoder c)
    match s.kind with
    | .backup _ => (d.freeHalf c h).reloadRecord c e out
    | .verify _ => (d.freeHalf c h).verifyRecord c e out
    | .restore _ => d.restoreRecord c h e out
    | .rebuild _ => (d.freeHalf c h).rebuildRecord c e out
  | _, _, _ => d

/-! ### Waiting requesters (R52) and offers made again (R92) -/

/-- R52: the requester of a channel that waits for a page asks again. -/
def Dev.askPage (d : Dev) (c : Chan) : Dev :=
  let d := (d.encoderAsk c).trailerAsk c
  if (d.chan c).readerWait then d.command c else d

/-- R52: a page has been freed: the waiting requesters of the two channels ask again, as two events. -/
def Dev.pagesFreed (d : Dev) : Dev := d.pushRace (([Chan.ch0, .ch1].filter d.waitsForPage).map .askPage)

/-- R92: an order has left the queue: the offers that were refused are made again, and the scan list is fed. -/
def Dev.offersAgain (d : Dev) : Dev := d.pushOffers ([Chan.ch0, .ch1].filter d.wantsLoad)

/-! ### The rate window (R65, R66) -/

/-- R66: the target step for `p` bytes in a window at a full rate of `rf` MB/s. -/
def targetStep (p rf : Nat) : Nat :=
  let den := 2 * rf * 1000000
  clampTo 1 8 ((8 * p + den - 1) / den)

/-- R66, steps 1 to 4. -/
def newStep (s target queued watermark : Nat) : Nat :=
  let s' := if s < target then target else if target + 1 < s then s - 1 else s
  if 4 * watermark ≤ queued then 8 else s'

/-- R65, R66: the rate window expires. -/
def Dev.windowExpired (d : Dev) (c : Chan) : Dev :=
  match d.backup? c with
  | some (_, b) =>
    match b.window with
    | some p =>
      let d := d.modBackup c fun b => { b with window := some 0 }
      let x := d.drive c
      match x.rate, x.speed with
      | some rf, some s =>
        let s' := newStep s (targetStep p rf) (d.chan c).wq.length d.cfg.watermark
        if s' = s then d else d.modDrive c fun x => { x with speed := some s', speedPending := true }
      | _, _ => d
    | none => d
  | none => d

end Sys2Proof.Machine
end

