-- ==== Sys2Proof/Machine/DriveEvents.lean ====
section
/-! DEFINITION. The drive link's events (chapter 4): completions, STATUS answers, media reports, and the expiry of a drive's
timers. -/

namespace Sys2Proof.Machine

/-! ### Taking completions (R69, R70) -/

/-- R69: a completion is taken when it carries the number of the outstanding command; one left over from before a RESET
request is discarded and lets the start-up STATUS go (R90); any other is discarded without effect. -/
def Dev.completion (d : Dev) (c : Chan) (num : Nat) (k : Outstanding → Dev → Dev) : Dev :=
  let x := d.drive c
  if x.stale = some num then (d.modDrive c fun x => { x with stale := none, cmdTimer := none }).push (.command c)
  else
    match x.out with
    | some o =>
      if o.num = num then (k o (d.modDrive c fun x => { x with out := none, cmdTimer := none })).push (.command c) else d
    | none => d

/-- The position after a completion (R70). -/
def Dev.setPos (d : Dev) (c : Chan) (p : Option Nat) : Dev := d.modDrive c fun x => { x with pos := p }

/-- R70: NO_MEDIA from a drive that holds a cartridge, as the controller knows it, puts it in FAULT. -/
def Dev.noMedia (d : Dev) (c : Chan) : Dev :=
  let d := d.setPos c none
  match (d.drive c).state with
  | .ready | .inserting | .ejecting => d.driveFault c
  | _ => d

/-- The session that sent a command, while it still stands (R89). -/
def Dev.ownerOf (d : Dev) (c : Chan) (o : Outstanding) : Option Session :=
  match d.sess c with
  | some s => if o.owner = some s.handle then some s else none
  | none => none

/-! ### STATUS (R73, R75, R77) -/

/-- The answers due for an UNLOAD that is not offered again (R87, R101). -/
def Dev.dropRetry (d : Dev) (r : Option UnloadRetry) : Dev :=
  match r with
  | some r => r.reqs.foldl (fun d q => match q with | .panel q => d.answer q r.status | _ => d) d
  | none => d

/-- R73: the drive place is confirmed by the answer. -/
def Dev.reconcileDrive (d : Dev) (c : Chan) (present : Bool) : Dev :=
  let d :=
    if present then (if d.occ (.drive c) = .none then d.setOcc (.drive c) .unregistered else d)
    else
      match d.occ (.drive c) with
      | .cart i => (d.moveCart i none).setOcc (.drive c) .none
      | _ => d.setOcc (.drive c) .none
  d.setConfirmed (.drive c) true

/-- An UNLOAD from the drive place is in the queue, or is to be offered again. -/
def Dev.unloadPending (d : Dev) (c : Chan) : Bool :=
  d.mqu.queue.any (fun o => o.kind = .unload && o.src = .drive c) || (d.drive c).offer.isSome

/-- R73, R87: the cartridge in the mouth is handed over with an UNLOAD order, and the settle timer starts. While an UNLOAD from the
place is in the queue, or waits to be offered again, no second one is offered and the settle timer is left as it is: the requests that
wait for a retry are answered as failed (DEDUCED, log entry 39). -/
def Dev.handOver (d : Dev) (c : Chan) (retry : Option UnloadRetry) : Dev :=
  if d.unloadPending c then d.dropRetry retry
  else (d.startSettle c).offerUnload c ((retry.map (·.reqs)).getD [])

/-- R7: the capacity a report carries is recorded for the mounted cartridge. -/
def Dev.recordCapacity (d : Dev) (c : Chan) (capacity : Nat) : Dev :=
  match (d.drive c).mounted with
  | .cart i => d.modCart i fun x => { x with capacity := some capacity }
  | _ => d

/-- R72: the tape is threaded: an INSERTING drive becomes READY at position 0. An unload that waits begins; else a claimed
drive's session is told, and an unclaimed drive's idle-unload timer starts and the grant rule runs. -/
def Dev.threaded (d : Dev) (c : Chan) (capacity rate : Nat) : Dev :=
  let d := d.modDrive c fun x =>
    { x with state := .ready, pos := some 0, rate := some rate, speed := some 8, speedPending := false, insertTimer := none }
  let d := d.recordCapacity c capacity
  match (d.drive c).unload with
  | some u =>
    (d.modDrive c fun x =>
      { x with state := .ejecting, unload := some { u with stage := .rewind }, rate := none, speed := none }).look
  | none => if (d.drive c).claim.isSome then d.look else ((d.startIdle c).push .grantRule).look

/-- R77: CLEAR_FAULT's STATUS brings the drive out of FAULT. -/
def Dev.leaveFault (d : Dev) (c : Chan) (r : ReqId) (a : StatusAnswer) (retry : Option UnloadRetry) : Dev :=
  let d := match a with
    | .loaded _ rate =>
      let d := (d.dropRetry retry).modDrive c fun x =>
        { x with state := .ready, pos := none, rate := some rate, speed := some 8, speedPending := false
                 mounted := d.occ (.drive c) }
      d.startIdle c
    | .ejected => (d.modDrive c fun x => { x with state := .empty }).handOver c retry
    | _ => (d.dropRetry retry).modDrive c fun x => { x with state := .empty }
  ((d.answer r .ok).push .grantRule).look

/-- R90: the start-up STATUS found a cartridge: the start-up unload begins at EJECT. -/
def Dev.startUpUnload (d : Dev) (c : Chan) : Dev :=
  (d.modDrive c fun x => { x with state := .ejecting, unload := some ⟨.eject, some .startUp⟩ }).push (.command c)

/-- R73, R75: what the mouth holds acts on the drive state. Any answer confirms the place (R73), in a drive in FAULT too, whatever the
STATUS was for (R76; DEDUCED, log entry 63). -/
def Dev.mouth (d : Dev) (c : Chan) (w : Wants) (a : StatusAnswer) : Dev :=
  let present := a ≠ StatusAnswer.none
  let d := d.reconcileDrive c present
  match (d.drive c).state with
  | .unknown =>
    if present then d.startUpUnload c
    else ((d.modDrive c fun x => { x with state := .empty }).push .grantRule).look
  | .empty => if a = StatusAnswer.ejected then d.handOver c w.retry else d.dropRetry w.retry
  | .inserting =>
    match a with
    | .none => (d.dropRetry w.retry).driveFault c
    | .loaded cap rate => (d.dropRetry w.retry).threaded c cap rate
    | _ => d.dropRetry w.retry
  | .ready | .ejecting => if present then d.dropRetry w.retry else (d.dropRetry w.retry).driveFault c
  | .fault =>
    match w.clear with
    | some r => d.leaveFault c r a w.retry
    | none => if a = StatusAnswer.ejected ∧ w.retry.isSome then d.handOver c w.retry else d.dropRetry w.retry
  | .absent => d

/-- R70, R77: a STATUS ended with NOT_READY, or with a kind taken as NOT_READY; a STATUS for CLEAR_FAULT leaves the drive in
FAULT and the request is answered FAULT. -/
def Dev.statusFailed (d : Dev) (c : Chan) (w : Wants) : Dev :=
  ((d.setPos c none).dropRetry w.retry).driveFault c |>.answerOpt w.clear .fault

/-- R70, R73: a STATUS completes. -/
def Dev.statusDone (d : Dev) (c : Chan) (w : Wants) (a : StatusAnswer) : Dev :=
  match a with
  | .kind .noMedia =>
    if (d.drive c).state = .unknown then d.statusFailed c w
    else ((d.dropRetry w.retry).noMedia c).answerOpt w.clear .fault
  | .kind _ => d.statusFailed c w
  | a => d.mouth c w a

/-- R70: a completion taken as NOT_READY for the outstanding command. -/
def Dev.notReady (d : Dev) (c : Chan) (o : Outstanding) : Dev :=
  match o.cmd with
  | .status w => d.statusFailed c w
  | _ => (d.setPos c none).driveFault c

/-! ### LOCATE and REWIND -/

/-- A session's LOCATE or REWIND has ended: POSITIONING has reached its goal, or failed; one sent for a goal the session has
since given up is no more than a move of the tape. -/
def Dev.positioned (d : Dev) (c : Chan) (o : Outstanding) (p : Nat) (k : DriveKind) : Dev :=
  match d.ownerOf c o with
  | some s =>
    if (s.positioning || s.relocating) && s.goal = some p then
      if k = .ok then d.arrived c else d.missed c (decide (k = .blank))
    else d
  | none => d

def Dev.locateDone (d : Dev) (c : Chan) (o : Outstanding) (p : Nat) (k : DriveKind) : Dev :=
  match k with
  | .ok => (d.setPos c (some p)).positioned c o p k
  | .blank | .hardRead => (d.setPos c none).positioned c o p k
  | .noMedia => d.noMedia c
  | _ => d.notReady c o

/-- R86: the REWIND of the unload procedure leads to its EJECT. -/
def Dev.unloadRewound (d : Dev) (c : Chan) : Dev :=
  d.modDrive c fun x => { x with unload := x.unload.map fun u => { u with stage := .eject } }

/-- R70, R86: a REWIND completes. For a session, BLANK and END_OF_MEDIA are a positioning that failed as by HARD_READ (log entry
24). -/
def Dev.rewindDone (d : Dev) (c : Chan) (o : Outstanding) (forUnload : Bool) (k : DriveKind) : Dev :=
  match k with
  | .ok | .blank | .hardRead | .endOfMedia =>
    let d := d.setPos c (if k = .ok then some 0 else none)
    if forUnload then d.unloadRewound c else d.positioned c o 0 (if k = .ok then .ok else .hardRead)
  | .noMedia => d.noMedia c
  | _ => d.notReady c o

/-! ### WRITE and READ -/

/-- R60, R70, R127: a WRITE of a record at position `p` completes. -/
def Dev.writeDone (d : Dev) (c : Chan) (o : Outstanding) (r : Record) (p : Nat) (k : DriveKind) : Dev :=
  let mine := (d.ownerOf c o).isSome
  match k with
  | .ok | .okWarning =>
    let d := d.setPos c (some (narrow32 (p + 1)))
    if mine then d.wrote c r p (decide (k = .okWarning)) else d
  | .writeProtected => if mine then d.writeFailed c r true else d
  | .hardWrite | .endOfMedia =>
    let d := d.setPos c none
    if mine then d.writeFailed c r false else d
  | .noMedia => d.noMedia c
  | _ => d.notReady c o

/-- R63: a READ's completion fills the entry in flight; an entry of a run that was ended is removed with its page. -/
def Dev.fillRead (d : Dev) (c : Chan) (k : DriveKind) (bytes : List Byte) : Dev :=
  let x := d.chan c
  if x.rq.any (·.dropped) then
    (d.modChan c fun x => { x with rq := x.rq.filter fun e => !e.dropped }).freePages c 1
  else
    let d := d.modChan c fun x =>
      { x with rq := x.rq.map fun e => if e.kind.isNone then { e with kind := some k, bytes := bytes } else e
               run := if k = .blank ∨ k = .endOfMedia then .count 0 else x.run }
    d.pushAll [.readHead c, .decoder c]

/-- R63, R70: a READ completes. -/
def Dev.readDone (d : Dev) (c : Chan) (o : Outstanding) (k : DriveKind) (bytes : List Byte) : Dev :=
  let mine := (d.ownerOf c o).isSome
  match k with
  | .ok | .softRecovered | .hardRead =>
    let d := d.setPos c ((d.drive c).pos.map fun p => narrow32 (p + 1))
    if mine then d.fillRead c k (if k = .hardRead then [] else bytes) else d
  | .blank | .endOfMedia => if mine then d.fillRead c k [] else d
  | .noMedia => d.noMedia c
  | _ => d.notReady c o

/-! ### SPEED and EJECT -/

def Dev.speedDone (d : Dev) (c : Chan) (o : Outstanding) (k : DriveKind) : Dev :=
  match k with
  | .ok => d
  | .noMedia => d.noMedia c
  | _ => d.notReady c o

/-- R74, R79: the drive is EMPTY after an EJECT: no cartridge is mounted, and the cartridge's claim ends. -/
def Dev.ejected (d : Dev) (c : Chan) : Dev :=
  let d := match (d.occ (.drive c)), (d.drive c).claim with
    | .cart i, some h => d.unclaim i h
    | _, _ => d
  let d := d.modDrive c fun x => { x with state := .empty, mounted := .none, pos := none, unload := none }
  let d := if (d.drive c).claim.isNone then d.push .grantRule else d
  d.look.reselect

/-- R87: an EJECT completes. -/
def Dev.ejectDone (d : Dev) (c : Chan) (o : Outstanding) (k : DriveKind) : Dev :=
  let reqs := ((d.drive c).unload.bind (·.req)).toList
  match k with
  | .ok => ((d.ejected c).startSettle c).offerUnload c reqs
  | .noMedia => (d.ejected c).wantStatus c { retry := some ⟨reqs, .noCartridge⟩ }
  | _ => d.notReady c o

/-! ### Media reports and timers (R71, R72, R85) -/

/-- R72: MEDIA_READY. -/
def Dev.mediaReported (d : Dev) (c : Chan) (capacity rate : Nat) : Dev :=
  match (d.drive c).state with
  | .inserting => d.threaded c capacity rate
  | .ready => (d.modDrive c fun x => { x with rate := some rate }).recordCapacity c capacity
  | _ => d

/-- R2, R74: a drive that did not answer its start-up STATUS is ABSENT, and so is its place. -/
def Dev.driveAbsent (d : Dev) (c : Chan) : Dev :=
  let d := (d.reconcileDrive c false).setConfirmed (.drive c) false
  d.modDrive c fun x => { x with state := .absent, wants := {} }

/-- R71: a command timer expires. -/
def Dev.commandTimedOut (d : Dev) (c : Chan) : Dev :=
  let x := d.drive c
  if x.cmdTimer.isNone then d
  else
    match x.out with
    | none => (d.modDrive c fun x => { x with stale := none, cmdTimer := none }).push (.command c)
    | some o =>
      let d := d.modDrive c fun x => { x with out := none, cmdTimer := none }
      let d := match o.cmd with
        | .status w =>
          if x.state = DriveState.unknown then d.driveAbsent c
          else ((d.dropRetry w.retry).driveFault c).answerOpt w.clear .fault
        | _ => d.driveFault c
      d.push (.command c)

/-- R72: the insert-ready timer expires. -/
def Dev.insertTimedOut (d : Dev) (c : Chan) : Dev :=
  if (d.drive c).insertTimer.isSome then (d.modDrive c fun x => { x with insertTimer := none }).driveFault c else d

/-- R85: the idle-unload timer expires; under the power hold nothing follows. -/
def Dev.idleTimedOut (d : Dev) (c : Chan) : Dev :=
  if (d.drive c).idleTimer.isSome then
    let d := d.modDrive c fun x => { x with idleTimer := none }
    if d.mqu.holdPower then d else d.beginUnload c none
  else d

/-- R83: an open-wait timer expires: a waiting open leaves the list, a session granted and not yet answered is aborted. -/
def Dev.openTimedOut (d : Dev) (h : Nat) : Dev :=
  match d.waitList.find? fun e => e.handle = h with
  | some e => if e.timer.isSome then d.leaveList e (some .timeout) else d
  | none =>
    match d.sessionOf h with
    | some c =>
      if (d.sess c).any (·.openTimer.isSome) then
        (d.modSess c fun s => { s with openTimer := none }).abortSession c .mediaTimeout
      else d
    | none => d

/-- R134, R142, R155: a media-wait timer expires. -/
def Dev.mediaTimedOut (d : Dev) (c : Chan) : Dev :=
  if (d.sess c).any (·.mediaTimer.isSome) then
    (d.modSess c fun s => { s with mediaTimer := none }).abortSession c .mediaTimeout
  else d

/-- R77: CLEAR_FAULT naming a drive. A second one is BUSY from the moment the first is taken, its STATUS sent or still to be sent (DESIGN
CHOICE, log entry 58). -/
def Dev.clearDrive (d : Dev) (c : Chan) (r : ReqId) : Dev :=
  let x := d.drive c
  let asked := x.wants.clear.isSome || (match x.out with | some ⟨.status w, _, _⟩ => w.clear.isSome | _ => false)
  if x.state ≠ .fault then d.answer r .badState
  else if asked then d.answer r .busy
  else d.wantStatus c { clear := some r }

/-! ### The changer link's events (R97 to R102) -/

/-- The order or STATUS outstanding ends with a completion not listed for it, which is taken as GRIP_FAULT (R97). -/
def Dev.changerMisfit (d : Dev) (m : ChangerMsg) : Dev :=
  match m, d.sentOrder with
  | .order, some o => d.orderFault o
  | .order, none => d
  | .status, _ => d.changerAnswered false

/-- R97: a completion with a tag; `k` acts on the message it ends. -/
def Dev.changerCompletion (d : Dev) (tag : Nat) (k : ChangerMsg → Dev → Dev) : Dev :=
  if d.mqu.stale = some tag then d.dropStaleMove
  else
    match d.takeChanger tag with
    | some (d, m) => ((k m d).push .send).push .changerStatus
    | none => d

/-- R98 to R100: a MOVE completes. One that arrives for a SCAN is taken as GRIP_FAULT, DOOR_OPEN too (R97; DESIGN CHOICE, log entry 14). -/
def Dev.moveCompleted (d : Dev) (tag : Nat) (kind : MoveKind) : Dev :=
  d.changerCompletion tag fun m d =>
    match m, d.sentOrder with
    | .order, some o => if o.kind = .scan then d.orderFault o else d.applyMove o kind
    | m, _ => d.changerMisfit m

/-- R100, R108, R109: a SCAN completes. One that arrives for a MOVE is taken as GRIP_FAULT, DOOR_OPEN too (R97; DESIGN CHOICE, log
entry 14). -/
def Dev.scanCompleted (d : Dev) (tag : Nat) (kind : ScanKind) : Dev :=
  d.changerCompletion tag fun m d =>
    match m, d.sentOrder with
    | .order, some o => if o.kind = .scan then d.applyScan o kind else d.orderFault o
    | m, _ => d.changerMisfit m

/-- R102, R105: a STATUS of the changer completes. -/
def Dev.changerStatusDone (d : Dev) (tag : Nat) (answered : Bool) : Dev :=
  d.changerCompletion tag fun m d =>
    match m with
    | .status => d.changerAnswered answered
    | .order => d.changerMisfit .order

/-- R100, R102, R105: the picker timer expires. -/
def Dev.pickerTimedOut (d : Dev) : Dev :=
  if d.mqu.picker.isNone then d
  else
    match d.mqu.sent with
    | none => d.dropStaleMove
    | some m =>
      let d := (d.modMqu fun q => { q with sent := none, picker := none })
      let d := match m.msg, d.sentOrder with
        | .order, some o => d.orderFault o
        | .order, none => d
        | .status, _ => d.changerAnswered false
      (d.push .send).push .changerStatus

/-- R94: a settle timer expires: the drive is settled. -/
def Dev.settled (d : Dev) (c : Chan) : Dev :=
  if (d.mqu.settle.get c).isSome then
    (d.modMqu fun m => { m with settle := m.settle.set c none, settled := m.settled.set c true }).push .send
  else d

/-- R105: CLEAR_FAULT naming the changer. -/
def Dev.clearChanger (d : Dev) (r : ReqId) : Dev :=
  if d.mqu.changer ≠ .fault then d.answer r .badState
  else if d.mqu.clearReq.isSome then d.answer r .busy
  else (d.modMqu fun m => { m with clearReq := some r, statusWant := true }).push .changerStatus

/-- R190: CLEAR_FAULT naming the store. The flusher takes the lowest dirty block, and the request is answered when that block's
write ends; with no block dirty it is answered at once. -/
def Dev.clearStore (d : Dev) (r : ReqId) : Dev :=
  if !d.cst.fault then d.answer r .badState
  else
    let d := d.modCst fun s => { s with fault := false }
    if d.cst.dirty.any (· = true) then (d.modCst fun s => { s with clear := some r }).push .flush else d.answer r .ok

end Sys2Proof.Machine
end

