-- ==== Sys2Proof/Machine/Lines.lean ====
section
/-! DEFINITION. The line unit (chapter 10): debounce and edges, the door, and the power-fail, mail-request and STOP
events. -/

namespace Sys2Proof.Machine

/-- The line of an index. -/
def Dev.line (d : Dev) (l : Fin 4) : Line := d.lines.getD l.val {}
def Dev.setLine (d : Dev) (l : Fin 4) (x : Line) : Dev := { d with lines := d.lines.set l.val x }

/-- The function of a line (R182). -/
def Settings.fn (g : Settings) (l : Fin 4) : LineFn := g.fns.getD l.val .none

/-- R184: the door is OPEN while the debounced level of any DOOR line is LOW. -/
def Dev.doorLevel (d : Dev) : Bool := (List.finRange 4).any fun l => d.cfg.fn l = .door && (d.line l).level = .low

/-- R184: the door state is worked out again; a change is a door event. -/
def Dev.doorUpdate (d : Dev) : Dev :=
  let now := d.doorLevel
  if now = d.doorOpen then d
  else
    let d := ({ d with doorOpen := now }.modMqu fun m => { m with holdDoor := now }).noticeAll (.door now)
    if now then d else d.startInventory.push .send

/-- R185: a power-fail event, which finds the hold absent or is taken no further. -/
def Dev.powerFail (d : Dev) : Dev :=
  if d.mqu.holdPower then d
  else
    (((d.modMqu fun m => { m with holdPower := true }).modCst fun s => { s with pass := some (s.pass.getD {}) }).noticeAll
      .powerHold).push .flush

/-- R186: a mail-request event; it is not taken under the power hold. -/
def Dev.mailRequest (d : Dev) : Dev := if d.mqu.holdPower then d else d.startImport

/-- R183: an edge of a line: what it does depends on the line's function. -/
def Dev.edge (d : Dev) (l : Fin 4) (falling : Bool) : Dev :=
  match d.cfg.fn l with
  | .none => d
  | .door => d.doorUpdate
  | .powerFail => if falling then d.powerFail else d
  | .mailRequest => if falling then d.mailRequest else d
  | .stop => if falling then d.stopEvent else d

/-- R183: each change of the raw input starts the line's debounce timer again. -/
def Dev.lineChanged (d : Dev) (l : Fin 4) (v : Level) : Dev :=
  let x := d.line l
  if x.raw = v then d else d.setLine l { x with raw := v, timer := some Config.debounceMs }

/-- R183: a debounce timer expires. The edge has its effect in normal running; start-up takes the levels afresh. -/
def Dev.debounced (d : Dev) (l : Fin 4) : Dev :=
  let x := d.line l
  if x.timer.isNone then d
  else
    let d := d.setLine l { x with level := x.raw, timer := none }
    if x.raw ≠ x.level ∧ d.phase = .running then d.edge l (decide (x.raw = .low)) else d

end Sys2Proof.Machine
end

