-- ==== Sys2Proof/Machine/Store.lean ====
section
/-! DEFINITION. The catalogue store (chapter 11): the flusher and the flush pass (R189 to R191), and the start-up reads
(R193). -/

namespace Sys2Proof.Machine

/-! ### Writing (R188 to R191) -/

def slotIndex (block copy : Nat) : Nat := 2 * block + copy

/-- R188: the copy a write of a block goes to, and its generation. -/
def Store.nextCopy (s : Store) (b : Nat) : Nat × Nat :=
  match s.newest.getD b none with
  | some n => (1 - n.copy, (n.gen + 1) % 65536)
  | none => (0, 0)

def Store.isDirty (s : Store) (b : Nat) : Bool := s.dirty.getD b false

/-- The number of dirty blocks (R190). -/
def Store.dirtyCount (s : Store) : Nat := (s.dirty.filter (· = true)).length

/-- R189: a block's write begins: its dirty mark is cleared and a snapshot is sent. -/
def Dev.startWrite (d : Dev) (b : Nat) (retry : Bool) : Dev :=
  let (copy, gen) := d.cst.nextCopy b
  let image := copyBytes b gen (blockBody d.cat d.cfg b)
  (d.modCst fun s =>
    { s with dirty := s.dirty.set b false, clear := none
             write := some { block := b, copy := copy, gen := gen, image := image, retry := retry, clear := s.clear } }).emit
    (.storeWrite b copy image)

/-- R191: the next block of a flush pass: the lowest dirty block at or after its cursor that has not failed in it, else the
lowest of all. A CLEAR_FAULT being carried out takes the lowest dirty block (R190). -/
def Store.passNext (s : Store) (p : Pass) : Option Nat :=
  let due := (List.range 21).filter fun b => s.isDirty b && !p.failed.contains b
  if s.clear.isSome then (List.range 21).find? s.isDirty
  else (due.find? fun b => p.cursor ≤ b).orElse fun _ => due.head?

/-- R193: start-up begins to read the store. -/
def Dev.beginReads (d : Dev) : Dev :=
  ({ d with phase := .reading, cst := { d.cst with dirty := List.replicate 21 false, write := none, pass := none
                                                   read := some ⟨0, none⟩, bad := [], clear := none } }).emit (.storeRead 0 0)

/-- R189 to R191, R195: the flusher, when no write is in flight. A pass with nothing left to take stands at its start again. -/
def Dev.flush (d : Dev) : Dev :=
  if d.cst.write.isSome then d
  else if d.phase ≠ .running ∧ d.phase ≠ .resetting then d
  else
    match d.cst.pass with
    | some p =>
      match d.cst.passNext p with
      | some b => (d.startWrite b false).modCst fun s => { s with pass := some { p with cursor := b + 1 } }
      | none => if d.phase = .resetting then d.beginReads else d.modCst fun s => { s with pass := some { p with cursor := 0 } }
    | none =>
      if d.cst.fault then d
      else
        match (List.range 21).find? d.cst.isDirty with
        | some b => d.startWrite b true
        | none => d

/-- R190: CST enters STORE_FAULT; the notice goes out at the entry. -/
def Dev.storeFault (d : Dev) : Dev :=
  if d.cst.fault then d else (d.modCst fun s => { s with fault := true }).noticeAll (.fault .store none)

/-- R188, R189: a write completed OK: the copy written is the block's newest valid one. -/
def Dev.storeWritten (d : Dev) (w : StoreWrite) : Dev :=
  ((d.modCst fun s =>
    { s with write := none, newest := s.newest.set w.block (some ⟨w.copy, w.gen⟩)
             slots := s.slots.set (slotIndex w.block w.copy) (.holds w.image) }).answerOpt w.clear .ok).push .flush

/-- R190, R191: a write failed. A write with its retry due is made again, to the same slot with a fresh snapshot; else the
block stays dirty and CST enters STORE_FAULT. A block that fails in a flush pass is not taken again in it. -/
def Dev.storeFailed (d : Dev) (w : StoreWrite) : Dev :=
  let d := d.modCst fun s => { s with write := none, slots := s.slots.set (slotIndex w.block w.copy) .torn }
  if w.retry then (d.modCst fun s => { s with clear := w.clear.orElse fun _ => s.clear }).startWrite w.block false
  else
    let d := d.modCst fun s =>
      { s with dirty := s.dirty.set w.block true
               pass := s.pass.map fun p => if p.cursor = w.block + 1 then { p with failed := p.failed ++ [w.block] } else p }
    (d.storeFault.answerOpt w.clear .fault).push .flush

/-- A block write completes (R189 to R191). -/
def Dev.storeCompleted (d : Dev) (ok : Bool) : Dev :=
  match d.cst.write with
  | some w => if ok then d.storeWritten w else d.storeFailed w
  | none => d

/-! ### Reading (R193) -/

/-- R193: what a slot's content is for a block. -/
def Slot.asCopy (b : Nat) : Slot → CopyRead
  | .erased => .erased
  | .torn => .bad
  | .holds bs => readCopy b bs

/-- R188: copy X is newer than copy Y. -/
def newerGen (x y : Nat) : Bool := let n := (x + 65536 - y) % 65536; 1 ≤ n && n ≤ 32767

/-- How a block is settled (R193): from a copy, as empty, or as bad. -/
inductive Settled | taken (n : Newest) (body : List Byte) | empty | bad
  deriving DecidableEq, Repr

/-- R193. Of two valid copies of which neither is newer (R188), a free choice takes one. -/
def settleCopies (choice : Nat) : CopyRead → CopyRead → Settled
  | .valid g b, .valid g' b' =>
    if newerGen g g' then .taken ⟨0, g⟩ b
    else if newerGen g' g then .taken ⟨1, g'⟩ b'
    else if choice % 2 = 0 then .taken ⟨0, g⟩ b else .taken ⟨1, g'⟩ b'
  | .valid g b, _ => .taken ⟨0, g⟩ b
  | _, .valid g b => .taken ⟨1, g⟩ b
  | .erased, .erased => .empty
  | _, _ => .bad

/-- Replaces the 16 entries of a block in a table. -/
def replaceBlock {α : Type} (k : Nat) (xs : List α) (t : List α) : List α := t.take (16 * k) ++ xs ++ t.drop (16 * k + 16)

/-- R193: what an empty block, or a bad one, puts in place of its contents. -/
def Dev.defaultBlock (d : Dev) (b : Nat) (lost : Bool) : Dev :=
  if b = 0 then { d with cat := { d.cat with live := {}, staged := none, day := 0, nextSet := 1 }, cfg := {} }
  else if b ≤ 4 then d.modCat fun k => { k with carts := replaceBlock (b - 1) (List.replicate 16 none) k.carts }
  else d.modCat fun k => { k with sets := replaceBlock (b - 5) (List.replicate 16 (if lost then .lost else .free)) k.sets }

/-- R199: a block's contents are loaded; none when a field is outside its range. -/
def Dev.loadBody (d : Dev) (b : Nat) (body : List Byte) : Option Dev :=
  if b = 0 then
    (readBlock0 body).map fun x =>
      { d with cat := { d.cat with live := x.live, staged := x.staged, day := x.day, nextSet := x.nextSet }, cfg := x.cfg }
  else if b ≤ 4 then (readCartBody body).map fun xs => d.modCat fun k => { k with carts := replaceBlock (b - 1) xs k.carts }
  else (readSetBody body).map fun xs => d.modCat fun k => { k with sets := replaceBlock (b - 5) xs k.sets }

/-- R193: a bad block is replaced and marked dirty. -/
def Dev.badBlock (d : Dev) (b : Nat) : Dev :=
  (d.defaultBlock b true).modCst fun s => { s with dirty := s.dirty.set b true, bad := s.bad ++ [b] }

/-- R193: a block is settled from its two copies. -/
def Dev.settleBlock (d : Dev) (b : Nat) (x y : CopyRead) : Dev :=
  let tie := match x, y with
    | .valid g _, .valid g' _ => !newerGen g g' && !newerGen g' g
    | _, _ => false
  let choice := if tie then Config.race d.races else 0
  let d := if tie then { d with races := d.races + 1 } else d
  match settleCopies choice x y with
  | .taken n body =>
    let d := d.modCst fun s => { s with newest := s.newest.set b (some n) }
    match d.loadBody b body with
    | some d => d
    | none => d.badBlock b
  | .empty => (d.modCst fun s => { s with newest := s.newest.set b none }).defaultBlock b false
  | .bad => (d.modCst fun s => { s with newest := s.newest.set b none }).badBlock b

/-- R193: the read of one copy completes; the next read is sent, or every block has been read. -/
def Dev.storeReadDone (d : Dev) (r : StoreRead) : Dev :=
  match d.cst.read with
  | none => d
  | some ⟨b, first⟩ =>
    let i := slotIndex b (if first.isNone then 0 else 1)
    let d := match r with
      | .other bytes => d.modCst fun s => { s with slots := s.slots.set i (.holds bytes) }
      | _ => d
    let got := match r with
      | .failed => .bad
      | _ => (d.cst.slots.getD i .erased).asCopy b
    match first with
    | none => (d.modCst fun s => { s with read := some ⟨b, some got⟩ }).emit (.storeRead b 1)
    | some x =>
      let d := d.settleBlock b x got
      if b < 20 then (d.modCst fun s => { s with read := some ⟨b + 1, none⟩ }).emit (.storeRead (b + 1) 0)
      else { d with phase := .loaded, cst := { d.cst with read := none } }

end Sys2Proof.Machine
end

