-- ==== Sys2Proof/Machine/StartUp.lean ====
section
/-! DEFINITION. Power-on, start-up (R193, R194) and the RESET request (R195). -/

namespace Sys2Proof.Machine

/-! ### Power-on -/

/-- A line as start-up finds it (R183). -/
def freshLine (v : Level) : Line := { raw := v, level := v }

/-- A client port as its link interface reports it at start-up (R178). -/
def freshPort (present : Bool) : PortUnit := { present := present, link := if present then .up else .down }

/-- What a loss of power leaves in the store: a write cut off leaves its slot neither valid nor erased (R188). -/
def Store.afterPowerLoss (s : Store) : List Slot :=
  match s.write with
  | some w => s.slots.set (slotIndex w.block w.copy) .torn
  | none => s.slots

/-- Power-on: every block is clear but the store's slots; the first copy of block 0 is read (R193). -/
def Dev.powerOn (d : Dev) (i : Inputs) : Dev :=
  { cst := { slots := d.cst.afterPowerLoss, read := some ⟨0, none⟩ }
    lines := [freshLine i.l0, freshLine i.l1, freshLine i.l2, freshLine i.l3]
    pa := freshPort i.linkA, pb := freshPort i.linkB
    sent := [.storeRead 0 0], races := d.races }

/-! ### Start-up (R194) -/

/-- A drive context at the start-up after a RESET request: cleared, but for its command number and a command that is still to
complete (R69, R74, R90). -/
def Drive.cleared (x : Drive) : Drive :=
  let left := x.out.map (·.num) |>.orElse fun _ => x.stale
  { cmdNum := x.cmdNum, stale := left, cmdTimer := if left.isSome then x.cmdTimer else none }

/-- The move queue unit at the start-up after a RESET request (R91, R97, R102, R104, R110). -/
def Mover.cleared (m : Mover) : Mover :=
  let left := m.sent.map (·.tag) |>.orElse fun _ => m.stale
  { nextTag := m.nextTag, stale := left, picker := if left.isSome then m.picker else none }

/-- The response path keeps its answers without queue entries, and loses pending FRAME_ERROR and overflow answers (R174). -/
def OutFrame.keepAtStart : OutFrame → Option OutFrame
  | .overflow .. => none
  | .frameError => none
  | .answer _ t h s r => some (.answer none t h s r)
  | f => some f

/-- A frame the transmitter holds stays, without a queue entry (R174). -/
def OutFrame.noEntry : OutFrame → OutFrame
  | .answer _ t h s r => .answer none t h s r
  | f => f

/-- A port unit at start-up (R171, R174, R176, R178). -/
def PortUnit.started (u : PortUnit) (client : Bool) : PortUnit :=
  { serial := u.serial, path := u.path.filterMap OutFrame.keepAtStart, tx := u.tx.map OutFrame.noEntry
    present := u.present, link := if client && !u.present then .down else .up }

/-- A line at start-up: its debounced level is what the input shows (R183). -/
def Line.started (x : Line) : Line := freshLine x.raw

/-- Start-up's beginning: every block outside the store starts empty, and the holds are cleared (R103, R182). -/
def Dev.freshBlocks (d : Dev) : Dev :=
  { phase := .running, cat := d.cat, cfg := d.cfg
    cst := { d.cst with write := none, fault := false, pass := none, read := none, clear := none }
    ch := ⟨{ drive := d.ch.zero.drive.cleared }, { drive := d.ch.one.drive.cleared }⟩
    mqu := d.mqu.cleared, lines := d.lines.map Line.started
    pa := d.pa.started true, pb := d.pb.started true, pp := d.pp.started false
    resetReq := d.resetReq, todo := [.transmit .A, .transmit .B, .transmit .P, .flush], sent := d.sent, races := d.races }

/-- R184: the door state is set from the lines, with no event. -/
def Dev.setDoor (d : Dev) : Dev := { d with doorOpen := d.doorLevel }.modMqu fun m => { m with holdDoor := d.doorLevel }

/-- R194, step 1: a set with a segment that names a free cartridge entry becomes LOST (R4). -/
def Dev.loseSets (d : Dev) : Dev :=
  allSets.foldl (fun d e =>
    match d.set? e with
    | some x => if x.state ≠ .expired ∧ (x.segments.any fun g => (d.cart g.cart).isNone) then d.putSet e .lost else d
    | none => d) d

/-- R10: a cartridge's live set count, from the set table. -/
def Dev.liveCount (d : Dev) (i : CartIx) : Nat := (d.liveSetsOn i).length

/-- R194, step 2. -/
def Dev.recountLive (d : Dev) : Dev :=
  allCarts.foldl (fun d i =>
    match d.cart i with
    | some x => if x.live = d.liveCount i then d else d.modCart i fun x => { x with live := d.liveCount i }
    | none => d) d

/-- R194, step 3: a set found OPEN becomes ABORTED. -/
def Dev.abortOpenSets (d : Dev) : Dev :=
  allSets.foldl (fun d e =>
    if (d.set? e).any fun x => x.state = .opened then
      d.modSet e fun x => { x with state := .aborted, digest := none, locator := none }
    else d) d

/-- R194, step 4: every in-use field and every claim is cleared; this marks no block (R30). -/
def Dev.clearUses (d : Dev) : Dev :=
  d.modCat fun k =>
    { k with
      carts := k.carts.map fun x => x.map fun c => { c with claim := none }
      sets := k.sets.map fun x => match x with | .holds y => .holds { y with inUse := none } | z => z }

/-- R2, R194 step 5: the place table is derived from the cartridge locations; of two entries that name one place the lower keeps
it. Every place is unconfirmed. -/
def Dev.derivePlaces (d : Dev) : Dev :=
  let d := d.modCat fun k => { k with places := List.replicate 28 {} }
  allCarts.foldl (fun d i =>
    match (d.cart i).bind (·.location) with
    | some p =>
      if d.occ p = .none then d.setPlace p { occ := .cart i } else d.modCart i fun x => { x with location := none }
    | none => d) d

/-- R14: a staged map is applied when no session exists. -/
def Dev.poolsTest (d : Dev) : Dev := if (d.sess .ch0).isNone ∧ (d.sess .ch1).isNone then d.applyPools else d

/-- R195: the RESET request is answered with the count of bad blocks, outside any request queue. -/
def Dev.answerReset (d : Dev) : Dev :=
  match d.resetReq with
  | some r =>
    (({ d with resetReq := none } : Dev).modPort .P fun u =>
      { u with path := u.path ++ [.answer none r.tag r.handle .ok (leBytes 1 d.cst.bad.length)] }).push (.transmit .P)
  | none => d

/-- R193: CATALOGUE_DEGRADED names the blocks found bad. -/
def Dev.noticeBad (d : Dev) : Dev := if d.cst.bad = [] then d else d.noticeAll (.catalogueDegraded d.cst.bad)

/-- R194, steps 7 and 9: the STATUS of the drives and of the changer is wanted, and a full inventory starts, at once even where the
changer's STATUS must wait for a message sent before a RESET request (DEDUCED, log entry 41). -/
def Dev.askLibrary (d : Dev) : Dev :=
  let d := (d.wantStatus .ch0 { startUp := true }).wantStatus .ch1 { startUp := true }
  let d := (d.command .ch0).command .ch1
  let d := (d.modMqu fun m => { m with statusWant := true }).sendChangerStatus
  d.startInventory

/-- R194: start-up, once the blocks have been loaded. -/
def Dev.startUp (d : Dev) : Dev :=
  if d.phase ≠ .loaded then d
  else
    (d.freshBlocks.setDoor.loseSets.recountLive.abortOpenSets.clearUses.derivePlaces.poolsTest.answerReset.noticeBad).askLibrary

/-! ### The RESET request (R195) -/

/-- The handle an answer to a request names: the one its open was given, while it waits or its session has not answered it, else the
one its frame named (R172). -/
def Dev.handleOf (d : Dev) (r : ReqId) : Nat :=
  match d.waitList.find? fun e => e.req = r with
  | some e => e.handle
  | none =>
    let of (c : Chan) : Option Nat := (d.sess c).bind fun s => if s.openReq = some r then some s.handle else none
    ((of .ch0).orElse fun _ => of .ch1).getD r.handle

/-- R173: every request of a port whose answer is still to come is answered ABORTED, the RESET request itself apart. -/
def Dev.abortRequests (d : Dev) (but : ReqId) (p : Port) : Dev :=
  ((d.port p).unanswered.filter (· ≠ but)).foldl (fun d r => d.answerWith r .aborted (d.handleOf r) []) d

/-- R195: the sessions end, the wait list is emptied, and every timer stops but those of a command or message still to complete.
The flush pass begins; when it is done start-up reads the store. Two sessions are aborted in a free order (log entry 5). The drive contexts
and the move queue are cleared here already, not at the start-up that follows (R74, R91; DEDUCED, log entry 76). -/
def Dev.resetTaken (d : Dev) (r : ReqId) : Dev :=
  let d := ((d.abortRequests r .A).abortRequests r .B).abortRequests r .P
  let d := d.dropAnswer r
  let d := d.waitList.foldl (fun d e => d.leaveList e none) d
  let held := d.shuffled ([Chan.ch0, .ch1].filter fun c => (d.sess c).isSome)
  let d := (held.1.foldl (fun d c => d.abortSession c .reset) held.2).poolsTest
  let d : Dev :=
    { d with
      phase := .resetting, resetReq := some r, waitList := []
      ch := ⟨{ drive := d.ch.zero.drive.cleared }, { drive := d.ch.one.drive.cleared }⟩
      mqu := d.mqu.cleared
      cst := { d.cst with pass := some {}, clear := none, write := d.cst.write.map fun w => { w with clear := none } }
      lines := d.lines.map fun x => { x with timer := none }
      pa := { d.pa with hold := none }, pb := { d.pb with hold := none }, pp := { d.pp with hold := none }
      todo := d.todo.filter fun t => match t with | .transmit _ => true | _ => false }
  d.push .flush

end Sys2Proof.Machine
end

