-- ==== Sys2Proof/Machine/Settle.lean ====
section
/-! DEFINITION. What follows inside a step: the follow-up list is carried out item by item, first in first out (log entry 4). -/

namespace Sys2Proof.Machine

/-- One item of the follow-up list. -/
def Dev.follow (d : Dev) : Todo → Dev
  | .transmit p => d.transmit p
  | .creditRetry p => d.creditRetry p
  | .flush => d.flush
  | .grantRule => d.grantRule
  | .zeroWait h => d.zeroWait h
  | .bring c => d.bring c
  | .command c => d.command c
  | .pages => d.pagesFreed
  | .askPage c => d.askPage c
  | .encoder c => d.encoderTake c
  | .decoder c => d.decoderTake c
  | .build c => d.build c
  | .readHead c => d.readHead c
  | .deliver c => d.deliver c
  | .select => d.selectAgain
  | .selectOn c => d.selectOn c
  | .poolsApply => d.poolsTest
  | .orders => d.ordersFollow
  | .send => d.sendTest
  | .offers => d.offersAgain
  | .feedScan => d.feedScan
  | .offerUnload c =>
    match (d.drive c).offer with
    | some reqs => d.offerUnload c reqs
    | none => d
  | .offerImport m => d.reofferImport m
  | .freshImport m i => d.offerImport m i
  | .inventoryEnd => d.endInventory
  | .changerStatus => d.sendChangerStatus

/-- Carries out the follow-up list until it is empty, at most `fuel` items of it. -/
def Dev.settle : Nat → Dev → Dev
  | 0, d => d
  | fuel + 1, d =>
    match d.todo with
    | [] => d
    | t :: ts => Dev.settle fuel (({ d with todo := ts } : Dev).follow t)

/-- A command begins: the messages of the one before are no longer new. -/
def Dev.begin (d : Dev) : Dev := { d with sent := [] }

/-- What every command does after its direct effect. -/
def Dev.finish (d : Dev) : Dev := d.settle Config.fuel

/-- A command: its direct effect on the device, then what follows in the same step. The queue of commands is left as it is. -/
def State.does (s : State) (effect : Dev → Dev) : Host.Outcome State Fault Refusal :=
  .next { s with dev := (effect s.dev.begin).finish }

end Sys2Proof.Machine
end

