-- ==== Sys2Proof/Machine/ExecBackup.lean ====
section
/-! DEFINITION. The meanings of a backup's requests: OPEN_BACKUP, FILE_BEGIN, DATA, FILE_END, CLOSE_SET, and of ABORT and
CANCEL. -/

namespace Sys2Proof.Machine

/-! ### OPEN_BACKUP (R114) -/

/-- R114, check 4: an append names a set, and is offered to the wait list when the set passes. -/
def Dev.openAppend (d : Dev) (r : ReqId) (q : BackupOpen) (n : Nat) : Dev :=
  match d.liveSet n with
  | none => d.answer r .noSet
  | some e =>
    match d.set? e with
    | none => d.answer r .noSet
    | some x =>
      if x.owner ≠ r.port then d.answer r .notOwner
      else if x.inUse.isSome then d.answer r .setInUse
      else if x.state ≠ .closed ∨ q.pool ≠ x.pool then d.answer r .badState
      else if x.locator.isNone then d.answer r .indexMissing
      else if !d.appendFits x then d.answer r .badState
      else d.offerOpen r (.append e q.pool q.expiry q.verifyAfter) (x.lastSegment.map (·.cart))

/-- R114, checks 1 to 3. -/
def Dev.openBackup (d : Dev) (r : ReqId) (q : BackupOpen) : Dev :=
  if 4 < q.pool ∨ (q.target.isSome ∧ q.append.isSome) then d.answer r .badRequest
  else if r.port = .P ∨ (d.cat.live.pool q.pool).allows r.port = false then d.answer r .notOwner
  else
    match q.target, q.append with
    | some l, _ =>
      match d.byLabel l with
      | some i => d.offerOpen r (.backup q.pool q.expiry q.verifyAfter (some l)) (some i)
      | none => d.answer r .noCartridge
    | none, some n => d.openAppend r q n
    | none, none => d.offerOpen r (.backup q.pool q.expiry q.verifyAfter none) none

/-- OPEN_BACKUP (R114). -/
def execOpenBackup (f : Req) (s : State) : Host.Outcome State Fault Refusal :=
  s.does fun d => d.arrive f .openBackup fun r d => d.withForm r (parseOpenBackup f.payload) fun q d => d.openBackup r q

/-! ### Files and data (R121 to R124) -/

/-- R121: a request for the backup session a handle names, taken while files may be sent. -/
def Dev.withFiles (d : Dev) (r : ReqId) (k : Chan → Session → Backup → Dev → Dev) : Dev :=
  d.withSession r fun c s d =>
    match s.kind with
    | .backup b => if b.granting then k c s b d else d.answer r .badState
    | _ => d.answer r .badState

/-- R122. -/
def Dev.fileBegin (d : Dev) (r : ReqId) (tag : List Byte) (c : Chan) (b : Backup) : Dev :=
  if b.openFile.isSome then d.answer r .badState
  else if Config.maxFiles < b.nextFile then d.answer r .setFull
  else
    let x := d.chan c
    let file : OpenFile :=
      { file := b.nextFile, tag := tag, startSeq := b.nextData, startOff := x.nextOffset, crc := crc32Preset }
    (d.modBackup c fun b => { b with openFile := some file, nextFile := b.nextFile + 1 }).answerWith r .ok r.handle
      (leBytes 2 b.nextFile)

/-- FILE_BEGIN (R122). -/
def execFileBegin (f : Req) (s : State) : Host.Outcome State Fault Refusal :=
  s.does fun d => d.arrive f .fileBegin fun r d =>
    d.withForm r (parseTag f.payload) fun tag d => d.withFiles r fun c _ b d => d.fileBegin r tag c b

/-- R54, R57, R123: an accepted DATA frame: a credit is consumed, the file, the set's raw bytes and the raw halves take the bytes,
and the grant worked out rides in the answer. -/
def Dev.dataTaken (d : Dev) (r : ReqId) (bytes : List Byte) (c : Chan) (s : Session) (o : OpenFile) : Dev :=
  let d := d.modBackup c fun b =>
    { b with credits := b.credits - 1
             openFile := some { o with length := o.length + bytes.length, crc := crc32Extend o.crc bytes } }
  let d := match s.set with
    | some e => d.modSet e fun x => { x with rawBytes := narrow64 (x.rawBytes + bytes.length) }
    | none => d
  let d := d.fillHalves c (((d.setOf s).map fun p => p.2.tape).getD 0) bytes
  let (d, g) := d.grantInAnswer c
  d.answerWith r .ok r.handle (leBytes 1 g)

/-- R57, R123. -/
def Dev.dataFrame (d : Dev) (r : ReqId) (bytes : List Byte) (c : Chan) (s : Session) (b : Backup) : Dev :=
  match b.openFile with
  | none => d.answer r .badState
  | some o => if b.credits = 0 then d.answer r .noCredit else d.dataTaken r bytes c s o

/-- DATA (R123). -/
def execData (f : Req) (s : State) : Host.Outcome State Fault Refusal :=
  s.does fun d => d.arrive f .data fun r d =>
    d.withForm r (parseData f.payload) fun bytes d => d.withFiles r fun c x b d => d.dataFrame r bytes c x b

/-- R124. -/
def Dev.fileEnd (d : Dev) (r : ReqId) (c : Chan) (s : Session) (b : Backup) : Dev :=
  match b.openFile with
  | none => d.answer r .badState
  | some o =>
    let e : IndexEntry :=
      { file := o.file, tag := o.tag, startSeq := o.startSeq, startOff := o.startOff, length := o.length
        crc := crc32Finish o.crc }
    let d := (d.modBackup c fun b => { b with openFile := none }).modChan c fun x => { x with index := x.index ++ [e] }
    let d := match s.set with
      | some i => d.modSet i fun x => { x with fileCount := x.fileCount + 1 }
      | none => d
    d.answerWith r .ok r.handle (leBytes 8 o.length ++ crc32Bytes e.crc)

/-- FILE_END (R124). -/
def execFileEnd (f : Req) (s : State) : Host.Outcome State Fault Refusal :=
  s.does fun d => d.arrive f .fileEnd fun r d =>
    d.withForm r (parseNone f.payload) fun _ d => d.withFiles r fun c x b d => d.fileEnd r c x b

/-! ### CLOSE_SET, ABORT and CANCEL -/

/-- R128, steps 1 to 4. -/
def Dev.closeTaken (d : Dev) (r : ReqId) (c : Chan) (s : Session) : Dev :=
  let d : Dev := d.modBackup c fun b =>
    { b with pendingClose := some r, credits := 0, undelivered := false, window := none, writer := .stream, building := true
             state := if b.state = .active then .closing else b.state, returnClosing := decide (b.state = .spanning) }
  let x := d.chan c
  let cur := x.half x.curB
  let tape := ((d.setOf s).map fun p => p.2.tape).getD 0
  let d : Dev := match cur.state, d.backup? c with
    | .filling, some (_, b) =>
      (d.handBlock c .data x.curB cur.bytes tape b.nextData).modBackup c fun b =>
        { b with nextData := b.nextData + 1 }
    | _, _ => d
  (d.push (.build c)).push (.command c)

/-- R128: a CLOSE_SET with a file open is refused. -/
def Dev.closeSet (d : Dev) (r : ReqId) (c : Chan) (s : Session) (b : Backup) : Dev :=
  if b.openFile.isSome then d.answer r .badState else d.closeTaken r c s

/-- CLOSE_SET (R128). -/
def execCloseSet (f : Req) (s : State) : Host.Outcome State Fault Refusal :=
  s.does fun d => d.arrive f .closeSet fun r d =>
    d.withForm r (parseNone f.payload) fun _ d => d.withFiles r fun c x b d => d.closeSet r c x b

/-- R121, R138: whether an ABORT of a backup is taken: in ACTIVE, SPANNING or CLOSING, until the CLOSE trailer's WRITE has been
issued. -/
def Dev.abortAllowed (d : Dev) (c : Chan) (s : Session) (b : Backup) : Bool :=
  (b.state = .active || b.state = .spanning || b.state = .closing) &&
    !((d.writeInFlight c s.handle).any fun r => r.kind = RecKind.close)

/-- R138, R151, R163, R164: ABORT: its tag is kept, and it is answered when the session ends. -/
def Dev.abortRequest (d : Dev) (r : ReqId) (c : Chan) (s : Session) : Dev :=
  let taken := match s.kind with
    | .backup b => d.abortAllowed c s b
    | _ => true
  if taken then (d.modSess c fun s => { s with pendingAbort := some r }).abortSession c .abortedByClient
  else d.answer r .badState

/-- ABORT (R138). -/
def execAbort (f : Req) (s : State) : Host.Outcome State Fault Refusal :=
  s.does fun d => d.arrive f .abort fun r d =>
    d.withForm r (parseNone f.payload) fun _ d => d.withSession r fun c x d => d.abortRequest r c x

/-- CANCEL (R84): its payload is the tag of the open. -/
def execCancel (f : Req) (s : State) : Host.Outcome State Fault Refusal :=
  s.does fun d => d.arrive f .cancel fun r d => d.withForm r (parseByte f.payload) fun tag d => d.cancel r tag

end Sys2Proof.Machine
end

