-- ==== Sys2Proof/Machine/ExecCatalogue.lean ====
section
/-! DEFINITION. The meanings of the catalogue's requests: RECYCLE, ERASE, POOLS, LOCK_POOL and DAY. -/

namespace Sys2Proof.Machine

/-- R26. -/
def Dev.recycle (d : Dev) (r : ReqId) (l : Label) : Dev :=
  match d.byLabel l with
  | none => d.answer r .noCartridge
  | some i =>
    match d.cart i with
    | none => d.answer r .noCartridge
    | some x =>
      let p := d.cat.live.pool x.pool
      if p.allows r.port = false then d.answer r .notOwner
      else if x.state = .foreign then d.answer r .badState
      else if d.cartBusy i then d.answer r .busy
      else if d.setInUseOn i then d.answer r .setInUse
      else if p.kind = .retained ∧ (d.liveSetsOn i).any fun e => (d.set? e).any fun y => d.cat.day < y.expiry then
        d.answer r .retained
      else (d.recycleCart i).answer r .ok

/-- RECYCLE (R26). -/
def execRecycle (f : Req) (s : State) : Host.Outcome State Fault Refusal :=
  s.does fun d => d.arrive f .recycle fun r d => d.withForm r (parseLabel f.payload) fun l d => d.recycle r l

/-- R27: a taken ERASE: as a RECYCLE from any state, SUSPECT and PROTECTED cleared; an ABSENT cartridge's entry is freed. -/
def Dev.eraseCart (d : Dev) (i : CartIx) : Dev :=
  let d := (d.liveSetsOn i).foldl Dev.expireSet d
  let d := (d.modCart i fun x =>
    { x with state := .scratch, endPos := 0, written := 0, suspect := false, writeProt := false }).reselect
  match d.cart i with
  | some x => if x.location.isNone then ((d.putCart i none).modMqu fun m => m.entryFreed i x.label).push .orders else d
  | none => d

/-- R27. -/
def Dev.erase (d : Dev) (r : ReqId) (n : Nat) : Dev :=
  if h : n < 64 then
    let i : CartIx := ⟨n, h⟩
    if (d.cart i).isNone then d.answer r .noCartridge
    else if d.cartBusy i then d.answer r .busy
    else if d.setInUseOn i then d.answer r .setInUse
    else (d.eraseCart i).answer r .ok
  else d.answer r .badRequest

/-- ERASE (R27). -/
def execErase (f : Req) (s : State) : Host.Outcome State Fault Refusal :=
  s.does fun d => d.arrive f .erase fun r d =>
    d.withForm r (parseByte f.payload) fun n d => d.panelOnly r fun d => d.erase r n

/-- R13: the pools of a request, with the locks of the live map; none when a kind or owner value is outside its set. -/
def stagedPools (live : PoolMap) (codes : List (Nat × Nat)) : Option (List Pool) :=
  (codes.zip live.pools).mapM fun (q, old) =>
    match PoolKind.ofCode q.1, PoolOwner.ofCode q.2 with
    | some k, some o => some { kind := k, owner := o, lock := old.lock }
    | _, _ => none

def PoolMap.bound (m : PoolMap) : Nat → Nat
  | 0 => 0 | 1 => m.b1 | 2 => m.b2 | 3 => m.b3 | 4 => m.b4 | _ => 24

/-- R13, check 2: every pool locked in the live map keeps its range and is RETAINED. -/
def locksKept (live staged : PoolMap) : Bool :=
  (List.range 5).all fun k =>
    !(live.pool k).lock || (staged.bound k = live.bound k && staged.bound (k + 1) = live.bound (k + 1)
      && (staged.pool k).kind = .retained)

/-- R13. -/
def Dev.stagePools (d : Dev) (r : ReqId) (q : PoolsReq) : Dev :=
  if boundsOk q.b1 q.b2 q.b3 q.b4 = false then d.answer r .badRequest
  else
    match stagedPools d.cat.live q.pools with
    | none => d.answer r .badRequest
    | some ps =>
      let m : PoolMap := ⟨q.b1, q.b2, q.b3, q.b4, ps⟩
      if locksKept d.cat.live m = false then d.answer r .retained
      else (((d.modCat fun k => { k with staged := some m }).dirty 0).answer r .ok).push .poolsApply

/-- POOLS (R13). -/
def execPools (f : Req) (s : State) : Host.Outcome State Fault Refusal :=
  s.does fun d => d.arrive f .pools fun r d =>
    d.withForm r (parsePools f.payload) fun q d => d.panelOnly r fun d => d.stagePools r q

/-- R15. -/
def Dev.lockPool (d : Dev) (r : ReqId) (k : Nat) : Dev :=
  if 4 < k then d.answer r .badRequest
  else if d.cat.staged.isSome then d.answer r .badState
  else if (d.cat.live.pool k).kind = .rotation then d.answer r .badState
  else if (d.cat.live.pool k).lock then d.answer r .ok
  else
    ((d.modCat fun t =>
      { t with live := { t.live with pools := t.live.pools.modify k fun p => { p with lock := true } } }).dirty 0).answer r .ok

/-- LOCK_POOL (R15). -/
def execLockPool (f : Req) (s : State) : Host.Outcome State Fault Refusal :=
  s.does fun d => d.arrive f .lockPool fun r d =>
    d.withForm r (parseByte f.payload) fun k d => d.panelOnly r fun d => d.lockPool r k

/-- R28: the day number is set; sessions waiting for media run their selection again. -/
def Dev.setDay (d : Dev) (r : ReqId) (n : Nat) : Dev :=
  (((d.modCat fun k => { k with day := n }).dirty 0).answer r .ok).reselect

/-- DAY (R28). -/
def execDay (f : Req) (s : State) : Host.Outcome State Fault Refusal :=
  s.does fun d => d.arrive f .day fun r d =>
    d.withForm r (parseWord f.payload) fun n d => d.panelOnly r fun d => d.setDay r n

end Sys2Proof.Machine
end

