-- ==== Sys2Proof/Machine/ExecConfig.lean ====
section
/-! DEFINITION. The meanings of CONFIG, NOTICE_MASK and RESET. -/

namespace Sys2Proof.Machine

/-- R182, R192: the settings take the request's values; block 0 is marked dirty when any changed, and the door state is worked
out again when the function map did. -/
def Dev.configure (d : Dev) (r : ReqId) (q : ConfigReq) : Dev :=
  let g := d.cfg.configured q
  let changed := decide (g ≠ d.cfg)
  let d := { d with cfg := g }
  let d := if changed then d.dirty 0 else d
  (d.answerWith r .ok r.handle (settingsBytes g)).doorUpdate

/-- CONFIG (R192). -/
def execConfig (f : Req) (s : State) : Host.Outcome State Fault Refusal :=
  s.does fun d => d.arrive f .config fun r d =>
    d.withForm r (parseConfig f.payload) fun q d => d.panelOnly r fun d => d.configure r q

/-- R177: the mask of one port. -/
def Settings.withMask (g : Settings) (m : List Bool) : Port → Settings
  | .A => { g with maskA := m }
  | .B => { g with maskB := m }
  | .P => { g with maskP := m }

/-- A port by its code (R197). -/
def portOfCode : Nat → Option Port
  | 0 => some .A
  | 1 => some .B
  | 2 => some .P
  | _ => none

/-- R177: a port value outside A, B and P is refused; else the port's mask takes the new enables. -/
def Dev.setMask (d : Dev) (r : ReqId) (code : Nat) (m : List Bool) : Dev :=
  match portOfCode code with
  | none => d.answer r .badRequest
  | some p => ({ d with cfg := d.cfg.withMask m p }.dirty 0).answerWith r .ok r.handle (leBytes 2 (bitsNat m))

/-- NOTICE_MASK (R177). -/
def execNoticeMask (f : Req) (s : State) : Host.Outcome State Fault Refusal :=
  s.does fun d => d.arrive f .noticeMask fun r d =>
    d.withForm r (parseMask f.payload) fun q d => d.panelOnly r fun d => d.setMask r q.1 q.2

/-- RESET (R195). -/
def execReset (f : Req) (s : State) : Host.Outcome State Fault Refusal :=
  s.does fun d => d.arrive f .reset fun r d =>
    d.withForm r (parseNone f.payload) fun _ d => d.panelOnly r fun d => d.resetTaken r

end Sys2Proof.Machine
end

