-- ==== Sys2Proof/Machine/ExecDrives.lean ====
section
/-! DEFINITION. The meanings of the drive links' events, of a drive's and a session's timers, and of the coding engines'
completions. A completion whose kind R70 does not list for the outstanding command is taken as NOT_READY. -/

namespace Sys2Proof.Machine

/-- STATUS_COMPLETION (R73). -/
def execStatusCompletion (c : Chan) (num : Nat) (a : StatusAnswer) (s : State) : Host.Outcome State Fault Refusal :=
  s.does fun d => d.completion c num fun o d =>
    match o.cmd with
    | .status w => d.statusDone c w a
    | _ => d.notReady c o

/-- LOCATE_COMPLETION (R70). -/
def execLocateCompletion (c : Chan) (num : Nat) (k : DriveKind) (s : State) : Host.Outcome State Fault Refusal :=
  s.does fun d => d.completion c num fun o d =>
    match o.cmd with
    | .locate p => d.locateDone c o p k
    | _ => d.notReady c o

/-- REWIND_COMPLETION (R70, R86). -/
def execRewindCompletion (c : Chan) (num : Nat) (k : DriveKind) (s : State) : Host.Outcome State Fault Refusal :=
  s.does fun d => d.completion c num fun o d =>
    match o.cmd with
    | .rewind u => d.rewindDone c o u k
    | _ => d.notReady c o

/-- WRITE_COMPLETION (R60, R70, R127). -/
def execWriteCompletion (c : Chan) (num : Nat) (k : DriveKind) (s : State) : Host.Outcome State Fault Refusal :=
  s.does fun d => d.completion c num fun o d =>
    match o.cmd with
    | .write r p => d.writeDone c o r p k
    | _ => d.notReady c o

/-- READ_COMPLETION (R63, R70). -/
def execReadCompletion (c : Chan) (num : Nat) (k : DriveKind) (record : List Byte) (s : State) :
    Host.Outcome State Fault Refusal :=
  s.does fun d => d.completion c num fun o d =>
    match o.cmd with
    | .read => d.readDone c o k record
    | _ => d.notReady c o

/-- SPEED_COMPLETION (R70). -/
def execSpeedCompletion (c : Chan) (num : Nat) (k : DriveKind) (s : State) : Host.Outcome State Fault Refusal :=
  s.does fun d => d.completion c num fun o d =>
    match o.cmd with
    | .speed _ => d.speedDone c o k
    | _ => d.notReady c o

/-- EJECT_COMPLETION (R87). -/
def execEjectCompletion (c : Chan) (num : Nat) (k : DriveKind) (s : State) : Host.Outcome State Fault Refusal :=
  s.does fun d => d.completion c num fun o d =>
    match o.cmd with
    | .eject => d.ejectDone c o k
    | _ => d.notReady c o

/-- MEDIA_READY (R72). -/
def execMediaReady (c : Chan) (capacity rate : Nat) (s : State) : Host.Outcome State Fault Refusal :=
  s.does fun d => d.mediaReported c capacity rate

/-- COMMAND_TIMER_EXPIRY (R71). -/
def execCommandTimerExpiry (c : Chan) (s : State) : Host.Outcome State Fault Refusal := s.does fun d => d.commandTimedOut c

/-- INSERT_READY_TIMER_EXPIRY (R72). -/
def execInsertReadyTimerExpiry (c : Chan) (s : State) : Host.Outcome State Fault Refusal := s.does fun d => d.insertTimedOut c

/-- IDLE_UNLOAD_TIMER_EXPIRY (R85). -/
def execIdleUnloadTimerExpiry (c : Chan) (s : State) : Host.Outcome State Fault Refusal := s.does fun d => d.idleTimedOut c

/-- OPEN_WAIT_TIMER_EXPIRY (R83): the timer of the open that holds a handle. -/
def execOpenWaitTimerExpiry (handle : Nat) (s : State) : Host.Outcome State Fault Refusal :=
  s.does fun d => d.openTimedOut handle

/-- MEDIA_WAIT_TIMER_EXPIRY (R134, R142, R155). -/
def execMediaWaitTimerExpiry (c : Chan) (s : State) : Host.Outcome State Fault Refusal := s.does fun d => d.mediaTimedOut c

/-- RATE_WINDOW_EXPIRY (R65, R66). -/
def execRateWindowExpiry (c : Chan) (s : State) : Host.Outcome State Fault Refusal := s.does fun d => d.windowExpired c

/-- ENCODE_COMPLETION (R47). -/
def execEncodeCompletion (c : Chan) (s : State) : Host.Outcome State Fault Refusal := s.does fun d => d.encodeDone c

/-- DECODE_COMPLETION (R48). -/
def execDecodeCompletion (c : Chan) (s : State) : Host.Outcome State Fault Refusal := s.does fun d => d.decodeDone c

end Sys2Proof.Machine
end

