-- ==== Sys2Proof/Machine/ExecLibrary.lean ====
section
/-! DEFINITION. The meanings of the changer link's events, of the settle and picker timers, of the library lines' events, and of
a store write's completion. -/

namespace Sys2Proof.Machine

/-- SETTLE_TIMER_EXPIRY (R94). -/
def execSettleTimerExpiry (c : Chan) (s : State) : Host.Outcome State Fault Refusal := s.does fun d => d.settled c

/-- MOVE_COMPLETION (R98 to R100). -/
def execMoveCompletion (tag : Nat) (k : MoveKind) (s : State) : Host.Outcome State Fault Refusal :=
  s.does fun d => d.moveCompleted tag k

/-- SCAN_COMPLETION (R100, R108, R109). -/
def execScanCompletion (tag : Nat) (k : ScanKind) (s : State) : Host.Outcome State Fault Refusal :=
  s.does fun d => d.scanCompleted tag k

/-- CHANGER_STATUS_COMPLETION (R102, R105). -/
def execChangerStatusCompletion (tag : Nat) (answered : Bool) (s : State) : Host.Outcome State Fault Refusal :=
  s.does fun d => d.changerStatusDone tag answered

/-- PICKER_TIMER_EXPIRY (R100, R102). -/
def execPickerTimerExpiry (s : State) : Host.Outcome State Fault Refusal := s.does Dev.pickerTimedOut

/-- LINE_INPUT_CHANGE (R183). -/
def execLineInputChange (l : Fin 4) (v : Level) (s : State) : Host.Outcome State Fault Refusal :=
  s.does fun d => d.lineChanged l v

/-- DEBOUNCE_TIMER_EXPIRY (R183). -/
def execDebounceTimerExpiry (l : Fin 4) (s : State) : Host.Outcome State Fault Refusal := s.does fun d => d.debounced l

/-- STORE_WRITE_COMPLETION (R189 to R191). -/
def execStoreWriteCompletion (ok : Bool) (s : State) : Host.Outcome State Fault Refusal := s.does fun d => d.storeCompleted ok

end Sys2Proof.Machine
end

