-- ==== Sys2Proof/Machine/ExecMovement.lean ====
section
/-! DEFINITION. The meanings of the panel's movement requests: IMPORT, EXPORT, RELOCATE, INVENTORY, STOP_RESUME and the three
forms of CLEAR_FAULT. -/

namespace Sys2Proof.Machine

/-- R103: a movement request under the power hold is refused with HELD. -/
def Dev.unlessHeld (d : Dev) (r : ReqId) (k : Dev → Dev) : Dev := if d.mqu.holdPower then d.answer r .held else k d

/-- IMPORT (R110): answered OK at once; an import starts. -/
def execImportCarts (f : Req) (s : State) : Host.Outcome State Fault Refusal :=
  s.does fun d => d.arrive f .importCarts fun r d =>
    d.withForm r (parseNone f.payload) fun _ d =>
      d.panelOnly r fun d => d.unlessHeld r fun d => (d.answer r .ok).startImport

/-- R101: an order of port P is offered; a refusal at admission is answered BUSY. -/
def Dev.offerForPanel (d : Dev) (r : ReqId) (o : Order) : Dev :=
  match d.offerOrder o with
  | (d, .taken) => d
  | (d, _) => d.answer r .busy

/-- R111: EXPORT of a cartridge in a drive place: the unload procedure runs with port P as requester. -/
def Dev.exportFromDrive (d : Dev) (r : ReqId) (c : Chan) : Dev :=
  let x := d.drive c
  if (x.state = .ready ∨ x.state = .inserting) ∧ x.claim.isNone ∧ x.unload.isNone then d.beginUnload c (some (.panel r))
  else d.answer r .busy

/-- R111. -/
def Dev.exportLabel (d : Dev) (r : ReqId) (l : Label) : Dev :=
  match d.byLabel l with
  | none => d.answer r .noCartridge
  | some i =>
    if d.cartBusy i then d.answer r .busy
    else
      match (d.cart i).bind (·.location) with
      | none => d.answer r .badState
      | some (.mail m) => (d.markExport (.mail m) (some i)).answer r .ok
      | some (.drive c) => d.exportFromDrive r c
      | some p => d.offerForPanel r { kind := .exporting, cart := .cart i, src := p, reqs := [.panel r] }

/-- EXPORT (R111). -/
def execExportCart (f : Req) (s : State) : Host.Outcome State Fault Refusal :=
  s.does fun d => d.arrive f .exportCart fun r d =>
    d.withForm r (parseLabel f.payload) fun l d => d.panelOnly r fun d => d.unlessHeld r fun d => d.exportLabel r l

/-- R112, checks 2 to 6, for a storage or mail slot. -/
def Dev.relocateTo (d : Dev) (r : ReqId) (l : Label) (p : Place) : Dev :=
  match d.byLabel l with
  | none => d.answer r .noCartridge
  | some i =>
    match (d.cart i).bind (·.location) with
    | none => d.answer r .badState
    | some (.drive _) => d.answer r .badState
    | some q =>
      if d.cartBusy i then d.answer r .busy
      else if q = p then d.answer r .ok
      else if d.occ p ≠ .none then d.answer r .badState
      else d.offerForPanel r { kind := .relocate, cart := .cart i, src := q, dst := some p, reqs := [.panel r] }

/-- R112. -/
def Dev.relocate (d : Dev) (r : ReqId) (l : Label) (code : Nat) : Dev :=
  match placeOfCode code with
  | none => d.answer r .badRequest
  | some (.drive _) => d.answer r .badRequest
  | some p => d.relocateTo r l p

/-- RELOCATE (R112). -/
def execRelocate (f : Req) (s : State) : Host.Outcome State Fault Refusal :=
  s.does fun d => d.arrive f .relocate fun r d =>
    d.withForm r (parseRelocate f.payload) fun q d => d.panelOnly r fun d => d.unlessHeld r fun d => d.relocate r q.1 q.2

/-- INVENTORY (R107): answered OK at once; a full inventory starts. -/
def execInventory (f : Req) (s : State) : Host.Outcome State Fault Refusal :=
  s.does fun d => d.arrive f .inventory fun r d =>
    d.withForm r (parseNone f.payload) fun _ d =>
      d.panelOnly r fun d => d.unlessHeld r fun d => (d.answer r .ok).startInventory

/-- R187. -/
def Dev.resume (d : Dev) (r : ReqId) : Dev := if d.mqu.holdStop then d.stopResumed.answer r .ok else d.answer r .badState

/-- STOP_RESUME (R187). -/
def execStopResume (f : Req) (s : State) : Host.Outcome State Fault Refusal :=
  s.does fun d => d.arrive f .stopResume fun r d =>
    d.withForm r (parseNone f.payload) fun _ d => d.panelOnly r fun d => d.resume r

/-- CLEAR_FAULT naming a drive (R77): unit 0 or 1; a unit of no reading is a malformed request. -/
def execClearFaultDrive (f : Req) (s : State) : Host.Outcome State Fault Refusal :=
  s.does fun d => d.arrive f .clearFault fun r d =>
    d.withForm r (match parseByte f.payload with | some 0 => some Chan.ch0 | some 1 => some Chan.ch1 | _ => none)
      fun c d => d.panelOnly r fun d => d.clearDrive c r

/-- CLEAR_FAULT naming the changer (R105): unit 2. -/
def execClearFaultChanger (f : Req) (s : State) : Host.Outcome State Fault Refusal :=
  s.does fun d => d.arrive f .clearFault fun r d =>
    d.withForm r (match parseByte f.payload with | some 2 => some () | _ => none)
      fun _ d => d.panelOnly r fun d => d.clearChanger r

/-- CLEAR_FAULT naming the store (R190): unit 3. -/
def execClearFaultStore (f : Req) (s : State) : Host.Outcome State Fault Refusal :=
  s.does fun d => d.arrive f .clearFault fun r d =>
    d.withForm r (match parseByte f.payload with | some 3 => some () | _ => none)
      fun _ d => d.panelOnly r fun d => d.clearStore r

end Sys2Proof.Machine
end

