-- ==== Sys2Proof/Machine/ExecOpens.lean ====
section
/-! DEFINITION. The meanings of OPEN_VERIFY, OPEN_RESTORE, REBUILD and GRANT. -/

namespace Sys2Proof.Machine

/-- R140. -/
def Dev.openVerify (d : Dev) (r : ReqId) (n : Nat) : Dev :=
  match d.liveSet n with
  | none => d.answer r .noSet
  | some e =>
    match d.set? e with
    | none => d.answer r .noSet
    | some x =>
      if r.port ≠ .P ∧ x.owner ≠ r.port then d.answer r .notOwner
      else if x.state = .opened then d.answer r .setOpen
      else if x.inUse.isSome then d.answer r .setInUse
      else if !x.noGap then d.answer r .setIncomplete
      else d.offerOpen r (.verify e) ((x.segment 1).map (·.cart))

/-- OPEN_VERIFY (R140). -/
def execOpenVerify (f : Req) (s : State) : Host.Outcome State Fault Refusal :=
  s.does fun d => d.arrive f .openVerify fun r d => d.withForm r (parseWord f.payload) fun n d => d.openVerify r n

/-- R154, check 1: 1 to 32 file numbers of 1..2,048, strictly ascending. -/
def filesOk (fs : List Nat) : Bool :=
  (1 ≤ fs.length && fs.length ≤ 32) && fs.all (fun f => 1 ≤ f && f ≤ 2048) && (fs.zip (fs.drop 1)).all fun p => p.1 < p.2

/-- R154. -/
def Dev.openRestore (d : Dev) (r : ReqId) (n : Nat) (fs : List Nat) : Dev :=
  if !filesOk fs then d.answer r .badRequest
  else
    match d.liveSet n with
    | none => d.answer r .noSet
    | some e =>
      match d.set? e with
      | none => d.answer r .noSet
      | some x =>
        if x.owner ≠ r.port then d.answer r .notOwner
        else if x.inUse.isSome then d.answer r .setInUse
        else if (x.state ≠ .closed ∧ x.state ≠ .recovered) ∨ x.locator.isNone then d.answer r .indexMissing
        else d.offerOpen r (.restore e fs) (x.locator.map (·.cart))

/-- OPEN_RESTORE (R154). -/
def execOpenRestore (f : Req) (s : State) : Host.Outcome State Fault Refusal :=
  s.does fun d => d.arrive f .openRestore fun r d =>
    d.withForm r (parseRestore f.payload) fun q d => d.openRestore r q.1 q.2

/-- R164. -/
def Dev.openRebuild (d : Dev) (r : ReqId) (n : Nat) : Dev :=
  if h : n < 64 then
    let i : CartIx := ⟨n, h⟩
    match d.cart i with
    | none => d.answer r .noCartridge
    | some x =>
      if x.location.isNone then d.answer r .badState
      else if (d.liveSetsOn i).any fun e => (d.set? e).any fun y => y.inUse.isSome then d.answer r .setInUse
      else d.offerOpen r (.rebuild i) (some i)
  else d.answer r .badRequest

/-- REBUILD (R164). -/
def execRebuild (f : Req) (s : State) : Host.Outcome State Fault Refusal :=
  s.does fun d => d.arrive f .rebuild fun r d =>
    d.withForm r (parseByte f.payload) fun n d => d.panelOnly r fun d => d.openRebuild r n

/-- R158: GRANT adds receive credits to a restore session, at most to 64; the frames held are handed. -/
def Dev.grantCredits (d : Dev) (r : ReqId) (n : Nat) (c : Chan) (s : Session) : Dev :=
  match s.kind with
  | .restore x =>
    if n = 0 ∨ 64 < x.credits + n then d.answer r .badRequest
    else
      ((d.modRestore c fun x => { x with credits := x.credits + n }).answerWith r .ok r.handle
        (leBytes 1 (x.credits + n))).push (.deliver c)
  | _ => d.answer r .badState

/-- GRANT (R158): the handle is the frame's, the payload the count. -/
def execGrant (f : Req) (s : State) : Host.Outcome State Fault Refusal :=
  s.does fun d => d.arrive f .grant fun r d =>
    d.withForm r (parseByte f.payload) fun n d => d.withSession r fun c x d => d.grantCredits r n c x

end Sys2Proof.Machine
end

