-- ==== Sys2Proof/Machine/ExecPorts.lean ====
section
/-! DEFINITION. The meanings of power-on, the store reads, start-up, the frames that are no request, frames that leave, and the
client links' events. -/

namespace Sys2Proof.Machine

/-- POWER_ON (R193). -/
def execPowerOn (i : Inputs) (s : State) : Host.Outcome State Fault Refusal := .next { s with dev := s.dev.powerOn i }

/-- STORE_READ_COMPLETION (R193). -/
def execStoreReadCompletion (r : StoreRead) (s : State) : Host.Outcome State Fault Refusal := s.does fun d => d.storeReadDone r

/-- START_UP (R194). -/
def execStartUp (s : State) : Host.Outcome State Fault Refusal := s.does Dev.startUp

/-- FRAME_ERROR (R170). -/
def execFrameError (p : Port) (s : State) : Host.Outcome State Fault Refusal := s.does fun d => d.badFrame p

/-- UNKNOWN_FRAME_KIND (R170). -/
def execUnknownFrameKind (p : Port) (tag handle : Byte) (s : State) : Host.Outcome State Fault Refusal :=
  s.does fun d => d.unknownKind p tag handle

/-- FRAME_LEFT (R174). -/
def execFrameLeft (p : Port) (s : State) : Host.Outcome State Fault Refusal := s.does fun d => d.frameGone p

/-- PANEL_READ_CUT_SHORT (R174): the frame stays with the transmitter. -/
def execPanelReadCutShort (s : State) : Host.Outcome State Fault Refusal := s.does id

/-- LINK_DOWN (R178, R179). -/
def execLinkDown (p : Port) (s : State) : Host.Outcome State Fault Refusal := s.does fun d => d.linkLost p

/-- LINK_UP (R178, R180). -/
def execLinkUp (p : Port) (s : State) : Host.Outcome State Fault Refusal := s.does fun d => d.linkReturned p

/-- HOLD_TIMER_EXPIRY (R181). -/
def execHoldTimerExpiry (p : Port) (s : State) : Host.Outcome State Fault Refusal := s.does fun d => d.holdExpired p

end Sys2Proof.Machine
end

