-- ==== Sys2Proof/Machine/Queries.lean ====
section
/-! DEFINITION. The results of the requests that read (R29, R68, R102, R182, R190), in the order R197 and the owning rules name
their items. -/

namespace Sys2Proof.Machine

/-! ### INQUIRE (R29, R197) -/

/-- A drive place: ABSENT, present, or not yet known after a start-up. -/
def DriveState.placeCode : DriveState → Nat
  | .absent => 0
  | .unknown => 2
  | _ => 1

/-- The holds present: door 1, STOP 2, power 4, changer fault 8, added together (R197). -/
def Mover.holds (m : Mover) : Nat := bitsNat [m.holdDoor, m.holdStop, m.holdPower, m.holdFault]

def Dev.freeCarts (d : Dev) : Nat := (d.cat.carts.filter Option.isNone).length
def SetEntry.isFree : SetEntry → Bool
  | .free => true
  | .holds x => x.state = .expired
  | .lost => false
def Dev.freeSets (d : Dev) : Nat := (d.cat.sets.filter SetEntry.isFree).length

/-- The result of INQUIRE at a port. -/
def Dev.inquireResult (d : Dev) (p : Port) : List Byte :=
  leBytes 2 d.cat.day ++ mapBytes d.cat.live ++ boolByte d.cat.staged.isSome
    ++ leBytes 1 (d.drive .ch0).state.placeCode ++ leBytes 1 (d.drive .ch1).state.placeCode ++ leBytes 1 d.mqu.changer.code
    ++ leBytes 1 d.freeCarts ++ leBytes 2 d.freeSets ++ boolByte (d.port p).lost
    ++ leBytes 1 d.mqu.changer.code ++ leBytes 1 d.mqu.holds ++ leBytes 1 d.mqu.queue.length
    ++ leBytes 1 (d.mqu.queue.filter fun o => o.state = .waiting ∧ o.wait = .noPlace).length ++ boolByte d.mqu.inventory
    ++ [if d.doorOpen then 0 else 1] ++ d.lines.flatMap (fun l => leBytes 1 (Level.code l.level))
    ++ boolByte d.cst.fault ++ leBytes 1 d.cst.dirtyCount

/-! ### CARTRIDGE_LIST, SET_LIST and SET_STATUS (R29) -/

/-- One registered entry: every field of R3, and whether its place is confirmed. -/
def Dev.cartResult (d : Dev) (x : Cart) : List Byte :=
  cartFields x ++ optHandle x.claim ++ boolByte (match x.location with | some p => d.confirmed p | none => false)

/-- The registered entries from an index upward, all of which fit in one frame, and no next index. -/
def Dev.cartListResult (d : Dev) (first : Nat) : List Byte :=
  let xs := (d.cat.carts.drop first).filterMap id
  leBytes 1 xs.length ++ xs.flatMap d.cartResult ++ [0xFF]

/-- Whether a port's SET_LIST shows an entry. -/
def SetEntry.shownTo (p : Port) : SetEntry → Bool
  | .free => false
  | .lost => p = .P
  | .holds x => p = .P || x.owner = p

/-- One summary; a LOST entry shows its name and the state code after those of R16. -/
def summaryBytes (e : SetIx) : SetEntry → List Byte
  | .holds x =>
    leBytes 1 e.val ++ leBytes 2 x.number ++ leBytes 1 x.state.code ++ boolByte x.ownerB ++ leBytes 1 x.pool
      ++ leBytes 2 x.expiry ++ leBytes 2 x.writeDay ++ leBytes 2 x.fileCount ++ leBytes 1 x.verify.result.code
  | _ => leBytes 1 e.val ++ [0, 0, 5, 0, 0, 0, 0, 0, 0, 0, 0, 0]

/-- The summaries from an index upward, all of which fit in one frame, and no next index. -/
def Dev.setListResult (d : Dev) (p : Port) (first : Nat) : List Byte :=
  let es := (allSets.drop first).filter fun e => (d.entry e).shownTo p
  leBytes 2 es.length ++ es.flatMap (fun e => summaryBytes e (d.entry e)) ++ optBytes 1 none

/-- A cartridge index with that cartridge's label (R197). -/
def Dev.cartRef (d : Dev) (i : CartIx) : List Byte := leBytes 1 i.val ++ labelBytes (d.cartLabel i)

/-- Every field of R16 to R18. -/
def Dev.setResult (d : Dev) (x : BackupSet) : List Byte :=
  leBytes 2 x.number ++ leBytes 2 x.tape ++ leBytes 1 x.state.code ++ boolByte x.ownerB ++ leBytes 1 x.pool
    ++ leBytes 2 x.expiry ++ leBytes 2 x.writeDay
    ++ leBytes 1 (bitsNat [x.digestOff, x.noSpanMark, x.renumbered, x.indexMissing])
    ++ leBytes 1 x.segments.length
    ++ x.segments.flatMap (fun g =>
        leBytes 1 g.ordinal ++ d.cartRef g.cart ++ leBytes 4 g.firstPos ++ leBytes 4 g.firstSeq ++ leBytes 4 g.count)
    ++ leBytes 4 x.dataCount
    ++ optBytes 17 (x.locator.map fun l => d.cartRef l.cart ++ leBytes 4 l.pos ++ leBytes 4 l.count)
    ++ leBytes 2 x.fileCount ++ leBytes 8 x.rawBytes ++ leBytes 8 x.storedBytes ++ optBytes 4 (x.digest.map crc32Bytes)
    ++ leBytes 1 x.verify.result.code ++ leBytes 2 x.verify.soft ++ leBytes 2 x.verify.hard
    ++ optBytes 6 (x.verify.locator.map failLocBytes) ++ optBytes 2 (x.verify.day.map (leBytes 2))
    ++ optHandle x.inUse

/-! ### SESSION_STATUS (R68, R75, R113, R139, R153, R164) -/

def BState.code : BState → Nat
  | .waitMedia => 0 | .positioning => 1 | .active => 2 | .spanning => 3 | .closing => 4 | .aborting => 5

/-- The states of a verify or rebuild session; a restore's READING_INDEX and DELIVERING follow POSITIONING. -/
def RState.code : RState → Nat
  | .waitMedia => 0 | .positioning => 1 | .reading => 2 | .readingIndex => 2 | .delivering => 3

def SessKind.code : SessKind → Nat
  | .backup _ => 0 | .verify _ => 1 | .restore _ => 2 | .rebuild _ => 3

def SessKind.stateCode : SessKind → Nat
  | .backup b => b.state.code
  | .verify v => v.state.code
  | .restore r => r.state.code
  | .rebuild r => r.state.code

/-- The credits R68 reports. -/
def SessKind.credits : SessKind → Nat
  | .backup b => b.credits
  | .restore r => r.credits
  | _ => 0

def SessKind.stops : SessKind → Nat
  | .backup b => b.stops
  | _ => 0

/-- A raw half's bytes count for a backup session alone (R68). -/
def SessKind.isBackup : SessKind → Bool
  | .backup _ => true
  | _ => false

/-- The result of SESSION_STATUS, as things stand when it is taken. -/
def Dev.sessionResult (d : Dev) (c : Chan) (s : Session) : List Byte :=
  let x := d.chan c
  let b := s.kind.isBackup
  leBytes 1 s.kind.code ++ leBytes 1 s.kind.stateCode
    ++ leBytes 4 (if b then x.rawA.bytes.length else 0) ++ leBytes 4 (if b then x.rawB.bytes.length else 0)
    ++ leBytes 1 s.kind.credits ++ leBytes 2 (if b then x.wq.length else 0) ++ leBytes 1 x.rq.length
    ++ leBytes 2 (d.smc.heldBy c) ++ optBytes 1 (x.drive.speed.map (leBytes 1)) ++ leBytes 2 s.kind.stops
    ++ leBytes 4 (narrow32 s.recordsDone) ++ leBytes 2 x.index.length
    ++ leBytes 1 x.drive.state.code ++ optHandle x.drive.claim ++ labelBytes (d.mountedLabel c)

end Sys2Proof.Machine
end

