-- ==== Sys2Proof/Machine/ExecQueries.lean ====
section
/-! DEFINITION. The meanings of the requests that read: INQUIRE, CARTRIDGE_LIST, SET_LIST, SET_STATUS and SESSION_STATUS. -/

namespace Sys2Proof.Machine

/-- INQUIRE: the port's LOST flag goes into the answer and is cleared (R29, R176). -/
def Dev.inquire (d : Dev) (r : ReqId) : Dev :=
  (d.modPort r.port fun u => { u with lost := false }).answerWith r .ok r.handle (d.inquireResult r.port)

/-- INQUIRE (R29). -/
def execInquire (f : Req) (s : State) : Host.Outcome State Fault Refusal :=
  s.does fun d => d.arrive f .inquire fun r d => d.withForm r (parseNone f.payload) fun _ d => d.inquire r

/-- CARTRIDGE_LIST (R29): an index outside 0..63 is refused. -/
def Dev.cartridgeList (d : Dev) (r : ReqId) (first : Nat) : Dev :=
  if 64 ≤ first then d.answer r .badRequest else d.answerWith r .ok r.handle (d.cartListResult first)

/-- CARTRIDGE_LIST (R29). -/
def execCartridgeList (f : Req) (s : State) : Host.Outcome State Fault Refusal :=
  s.does fun d => d.arrive f .cartridgeList fun r d =>
    d.withForm r (parseByte f.payload) fun first d => d.cartridgeList r first

/-- SET_LIST (R29): every one-byte index lies in 0..255. -/
def execSetList (f : Req) (s : State) : Host.Outcome State Fault Refusal :=
  s.does fun d => d.arrive f .setList fun r d =>
    d.withForm r (parseByte f.payload) fun first d => d.answerWith r .ok r.handle (d.setListResult r.port first)

/-- SET_STATUS (R29, R21). -/
def Dev.setStatus (d : Dev) (r : ReqId) (n : Nat) : Dev :=
  match (d.reportSet n).bind d.set? with
  | some x =>
    if r.port = .P ∨ x.owner = r.port then d.answerWith r .ok r.handle (d.setResult x) else d.answer r .notOwner
  | none => d.answer r .noSet

/-- SET_STATUS (R29). -/
def execSetStatus (f : Req) (s : State) : Host.Outcome State Fault Refusal :=
  s.does fun d => d.arrive f .setStatus fun r d => d.withForm r (parseWord f.payload) fun n d => d.setStatus r n

/-- SESSION_STATUS (R68): the figures as they stand; for a backup a grant is then worked out and rides in the response (R55,
R56). -/
def Dev.sessionStatus (d : Dev) (r : ReqId) (c : Chan) (x : Session) : Dev :=
  let result := d.sessionResult c x
  let (d, g) := d.grantInAnswer c
  d.answerWith r .ok r.handle (result ++ leBytes 1 g)

/-- SESSION_STATUS (R68, R121, R151). -/
def execSessionStatus (f : Req) (s : State) : Host.Outcome State Fault Refusal :=
  s.does fun d => d.arrive f .sessionStatus fun r d =>
    d.withForm r (parseNone f.payload) fun _ d => d.withSession r fun c x d => d.sessionStatus r c x

end Sys2Proof.Machine
end

