-- ==== Sys2Proof/Machine/Dispatch.lean ====
section
/-! DEFINITION. The meaning of each command: one arm per constructor of `Instr`. -/

namespace Sys2Proof.Machine

def exec (i : Instr) (s : State) : Host.Outcome State Fault Refusal :=
  match i with
  | .powerOn inputs => Sys2Proof.Machine.execPowerOn inputs s
  | .storeReadCompletion r => Sys2Proof.Machine.execStoreReadCompletion r s
  | .startUp => Sys2Proof.Machine.execStartUp s
  | .frameError p => Sys2Proof.Machine.execFrameError p s
  | .unknownFrameKind p tag handle => Sys2Proof.Machine.execUnknownFrameKind p tag handle s
  | .inquire f => Sys2Proof.Machine.execInquire f s
  | .cartridgeList f => Sys2Proof.Machine.execCartridgeList f s
  | .setList f => Sys2Proof.Machine.execSetList f s
  | .setStatus f => Sys2Proof.Machine.execSetStatus f s
  | .sessionStatus f => Sys2Proof.Machine.execSessionStatus f s
  | .openBackup f => Sys2Proof.Machine.execOpenBackup f s
  | .fileBegin f => Sys2Proof.Machine.execFileBegin f s
  | .data f => Sys2Proof.Machine.execData f s
  | .fileEnd f => Sys2Proof.Machine.execFileEnd f s
  | .closeSet f => Sys2Proof.Machine.execCloseSet f s
  | .abort f => Sys2Proof.Machine.execAbort f s
  | .cancel f => Sys2Proof.Machine.execCancel f s
  | .openVerify f => Sys2Proof.Machine.execOpenVerify f s
  | .openRestore f => Sys2Proof.Machine.execOpenRestore f s
  | .grant f => Sys2Proof.Machine.execGrant f s
  | .recycle f => Sys2Proof.Machine.execRecycle f s
  | .importCarts f => Sys2Proof.Machine.execImportCarts f s
  | .exportCart f => Sys2Proof.Machine.execExportCart f s
  | .relocate f => Sys2Proof.Machine.execRelocate f s
  | .inventory f => Sys2Proof.Machine.execInventory f s
  | .erase f => Sys2Proof.Machine.execErase f s
  | .rebuild f => Sys2Proof.Machine.execRebuild f s
  | .pools f => Sys2Proof.Machine.execPools f s
  | .lockPool f => Sys2Proof.Machine.execLockPool f s
  | .day f => Sys2Proof.Machine.execDay f s
  | .config f => Sys2Proof.Machine.execConfig f s
  | .noticeMask f => Sys2Proof.Machine.execNoticeMask f s
  | .stopResume f => Sys2Proof.Machine.execStopResume f s
  | .clearFaultDrive f => Sys2Proof.Machine.execClearFaultDrive f s
  | .clearFaultChanger f => Sys2Proof.Machine.execClearFaultChanger f s
  | .clearFaultStore f => Sys2Proof.Machine.execClearFaultStore f s
  | .reset f => Sys2Proof.Machine.execReset f s
  | .frameLeft p => Sys2Proof.Machine.execFrameLeft p s
  | .panelReadCutShort => Sys2Proof.Machine.execPanelReadCutShort s
  | .linkDown p => Sys2Proof.Machine.execLinkDown p s
  | .linkUp p => Sys2Proof.Machine.execLinkUp p s
  | .holdTimerExpiry p => Sys2Proof.Machine.execHoldTimerExpiry p s
  | .statusCompletion c num a => Sys2Proof.Machine.execStatusCompletion c num a s
  | .locateCompletion c num k => Sys2Proof.Machine.execLocateCompletion c num k s
  | .rewindCompletion c num k => Sys2Proof.Machine.execRewindCompletion c num k s
  | .writeCompletion c num k => Sys2Proof.Machine.execWriteCompletion c num k s
  | .readCompletion c num k record => Sys2Proof.Machine.execReadCompletion c num k record s
  | .speedCompletion c num k => Sys2Proof.Machine.execSpeedCompletion c num k s
  | .ejectCompletion c num k => Sys2Proof.Machine.execEjectCompletion c num k s
  | .mediaReady c capacity rate => Sys2Proof.Machine.execMediaReady c capacity rate s
  | .commandTimerExpiry c => Sys2Proof.Machine.execCommandTimerExpiry c s
  | .insertReadyTimerExpiry c => Sys2Proof.Machine.execInsertReadyTimerExpiry c s
  | .idleUnloadTimerExpiry c => Sys2Proof.Machine.execIdleUnloadTimerExpiry c s
  | .openWaitTimerExpiry handle => Sys2Proof.Machine.execOpenWaitTimerExpiry handle s
  | .mediaWaitTimerExpiry c => Sys2Proof.Machine.execMediaWaitTimerExpiry c s
  | .rateWindowExpiry c => Sys2Proof.Machine.execRateWindowExpiry c s
  | .encodeCompletion c => Sys2Proof.Machine.execEncodeCompletion c s
  | .decodeCompletion c => Sys2Proof.Machine.execDecodeCompletion c s
  | .settleTimerExpiry c => Sys2Proof.Machine.execSettleTimerExpiry c s
  | .moveCompletion tag k => Sys2Proof.Machine.execMoveCompletion tag k s
  | .scanCompletion tag k => Sys2Proof.Machine.execScanCompletion tag k s
  | .changerStatusCompletion tag answered => Sys2Proof.Machine.execChangerStatusCompletion tag answered s
  | .pickerTimerExpiry => Sys2Proof.Machine.execPickerTimerExpiry s
  | .lineInputChange l v => Sys2Proof.Machine.execLineInputChange l v s
  | .debounceTimerExpiry l => Sys2Proof.Machine.execDebounceTimerExpiry l s
  | .storeWriteCompletion ok => Sys2Proof.Machine.execStoreWriteCompletion ok s

end Sys2Proof.Machine
end

