-- ==== Sys2Proof/Decode.lean ====
section
/-! DEFINITION. What a word of the table spells (nothing: the table gives its rows no bits), and what the bytes that arrive at a
port are as a command: the frame check of R170 and the kinds of R197, with the frame of each request beside it. -/

namespace Sys2Proof

open Sys2Proof.Machine

/-- The table of operations gives its rows no bits, so no word spells a command (log entry 2). -/
def decodeTableWord (_nbits _w : Nat) : Option Instr := none

/-- The request a command brings, with its kind, when it brings one. The three forms of CLEAR_FAULT are one kind. -/
def Instr.request? : Instr → Option (Req × ReqKind)
  | .inquire f => some (f, .inquire)
  | .cartridgeList f => some (f, .cartridgeList)
  | .setList f => some (f, .setList)
  | .setStatus f => some (f, .setStatus)
  | .sessionStatus f => some (f, .sessionStatus)
  | .openBackup f => some (f, .openBackup)
  | .fileBegin f => some (f, .fileBegin)
  | .data f => some (f, .data)
  | .fileEnd f => some (f, .fileEnd)
  | .closeSet f => some (f, .closeSet)
  | .abort f => some (f, .abort)
  | .cancel f => some (f, .cancel)
  | .openVerify f => some (f, .openVerify)
  | .openRestore f => some (f, .openRestore)
  | .grant f => some (f, .grant)
  | .recycle f => some (f, .recycle)
  | .importCarts f => some (f, .importCarts)
  | .exportCart f => some (f, .exportCart)
  | .relocate f => some (f, .relocate)
  | .inventory f => some (f, .inventory)
  | .erase f => some (f, .erase)
  | .rebuild f => some (f, .rebuild)
  | .pools f => some (f, .pools)
  | .lockPool f => some (f, .lockPool)
  | .day f => some (f, .day)
  | .config f => some (f, .config)
  | .noticeMask f => some (f, .noticeMask)
  | .stopResume f => some (f, .stopResume)
  | .clearFaultDrive f => some (f, .clearFault)
  | .clearFaultChanger f => some (f, .clearFault)
  | .clearFaultStore f => some (f, .clearFault)
  | .reset f => some (f, .reset)
  | .powerOn _ => none
  | .storeReadCompletion _ => none
  | .startUp => none
  | .frameError _ => none
  | .unknownFrameKind _ _ _ => none
  | .frameLeft _ => none
  | .panelReadCutShort => none
  | .linkDown _ => none
  | .linkUp _ => none
  | .holdTimerExpiry _ => none
  | .statusCompletion _ _ _ => none
  | .locateCompletion _ _ _ => none
  | .rewindCompletion _ _ _ => none
  | .writeCompletion _ _ _ => none
  | .readCompletion _ _ _ _ => none
  | .speedCompletion _ _ _ => none
  | .ejectCompletion _ _ _ => none
  | .mediaReady _ _ _ => none
  | .commandTimerExpiry _ => none
  | .insertReadyTimerExpiry _ => none
  | .idleUnloadTimerExpiry _ => none
  | .openWaitTimerExpiry _ => none
  | .mediaWaitTimerExpiry _ => none
  | .rateWindowExpiry _ => none
  | .encodeCompletion _ => none
  | .decodeCompletion _ => none
  | .settleTimerExpiry _ => none
  | .moveCompletion _ _ => none
  | .scanCompletion _ _ => none
  | .changerStatusCompletion _ _ => none
  | .pickerTimerExpiry => none
  | .lineInputChange _ _ => none
  | .debounceTimerExpiry _ => none
  | .storeWriteCompletion _ => none

/-- The units of CLEAR_FAULT are 0 and 1 for the drives, 2 for the changer and 3 for the store (R177, R197). -/
def clearFaultOf (f : Req) : Instr :=
  if f.payload = [2] then .clearFaultChanger f else if f.payload = [3] then .clearFaultStore f else .clearFaultDrive f

/-- The command a request of a kind is. -/
def requestOf (f : Req) : ReqKind → Instr
  | .inquire => .inquire f
  | .cartridgeList => .cartridgeList f
  | .setList => .setList f
  | .setStatus => .setStatus f
  | .sessionStatus => .sessionStatus f
  | .openBackup => .openBackup f
  | .fileBegin => .fileBegin f
  | .data => .data f
  | .fileEnd => .fileEnd f
  | .closeSet => .closeSet f
  | .abort => .abort f
  | .cancel => .cancel f
  | .openVerify => .openVerify f
  | .openRestore => .openRestore f
  | .grant => .grant f
  | .recycle => .recycle f
  | .importCarts => .importCarts f
  | .exportCart => .exportCart f
  | .relocate => .relocate f
  | .inventory => .inventory f
  | .erase => .erase f
  | .rebuild => .rebuild f
  | .pools => .pools f
  | .lockPool => .lockPool f
  | .day => .day f
  | .config => .config f
  | .noticeMask => .noticeMask f
  | .stopResume => .stopResume f
  | .clearFault => clearFaultOf f
  | .reset => .reset f

/-- R197: the request kinds are 1 to 30, in the order of the table of section 9.2. -/
def reqKindOf : Nat → Option ReqKind
  | 1 => some .inquire | 2 => some .cartridgeList | 3 => some .setList | 4 => some .setStatus | 5 => some .sessionStatus
  | 6 => some .openBackup | 7 => some .fileBegin | 8 => some .data | 9 => some .fileEnd | 10 => some .closeSet
  | 11 => some .abort | 12 => some .cancel | 13 => some .openVerify | 14 => some .openRestore | 15 => some .grant
  | 16 => some .recycle | 17 => some .importCarts | 18 => some .exportCart | 19 => some .relocate | 20 => some .inventory
  | 21 => some .erase | 22 => some .rebuild | 23 => some .pools | 24 => some .lockPool | 25 => some .day | 26 => some .config
  | 27 => some .noticeMask | 28 => some .stopResume | 29 => some .clearFault | 30 => some .reset
  | _ => none

/-- R170, R197: whether bytes are a good frame: a payload length field of at most 4,096, that many payload bytes, and a CRC-16
that agrees. -/
def goodFrame (bs : List Byte) : Bool :=
  let n := fieldAt bs 4 2
  6 ≤ bs.length && n ≤ 4096 && bs.length = 8 + n && bs.drop (6 + n) == crc16Bytes (crc16 (bs.take (6 + n)))

/-- R170: the command that bytes arriving at a port are: a request, a good frame of no request's kind, or a bad frame. -/
def decodeFrame (p : Port) (bs : List Byte) : Instr :=
  if goodFrame bs then
    let f : Req := { port := p, tag := bs.getD 1 0, handle := bs.getD 2 0, flags := bs.getD 3 0, payload := (bs.drop 6).take (fieldAt bs 4 2) }
    match reqKindOf (bs.getD 0 0).toNat with
    | some k => requestOf f k
    | none => .unknownFrameKind p f.tag f.handle
  else .frameError p

/-- R197: the bytes of a request's frame. -/
def requestFrame (f : Req) (k : ReqKind) : List Byte := frameBytes k.code f.tag.toNat f.handle.toNat f.flags.toNat f.payload

end Sys2Proof
end

