-- ==== Sys2Proof/WellFormed.lean ====
section
/-! DEFINITION. Which commands can arrive at all: the ranges the links and ports give their operands. A request whose payload
fails its form check is still a command; it is answered BAD_REQUEST (R172). -/

namespace Sys2Proof

/-- R170: a payload of at most 4,096 bytes. -/
def Req.wellFormed (f : Req) : Bool := f.payload.length ≤ 4096

/-- R72: a capacity of 32 bits and a full rate of 20..400 MB/s. -/
def mediaOk (capacity rate : Nat) : Bool := capacity < 4294967296 && (20 ≤ rate && rate ≤ 400)

/-- R69, R97: command numbers and tags are of one byte. -/
def numberOk (n : Nat) : Bool := n < 256

def StatusAnswer.wellFormed : StatusAnswer → Bool
  | .loaded capacity rate => mediaOk capacity rate
  | .none => true
  | .ejected => true
  | .kind _ => true

/-- R199: a store copy has 2,054 bytes. -/
def StoreRead.wellFormed : StoreRead → Bool
  | .other bytes => bytes.length = 2054
  | .stored => true
  | .failed => true

/-- R178: port P has no link state and no hold timer. -/
def Port.isClient : Port → Bool
  | .A => true
  | .B => true
  | .P => false

/-- The operands of a command are in their ranges. -/
def Instr.wellFormed : Instr → Bool
  | .powerOn _ => true
  | .storeReadCompletion r => r.wellFormed
  | .startUp => true
  | .frameError _ => true
  | .unknownFrameKind _ _ _ => true
  | .inquire f => f.wellFormed
  | .cartridgeList f => f.wellFormed
  | .setList f => f.wellFormed
  | .setStatus f => f.wellFormed
  | .sessionStatus f => f.wellFormed
  | .openBackup f => f.wellFormed
  | .fileBegin f => f.wellFormed
  | .data f => f.wellFormed
  | .fileEnd f => f.wellFormed
  | .closeSet f => f.wellFormed
  | .abort f => f.wellFormed
  | .cancel f => f.wellFormed
  | .openVerify f => f.wellFormed
  | .openRestore f => f.wellFormed
  | .grant f => f.wellFormed
  | .recycle f => f.wellFormed
  | .importCarts f => f.wellFormed
  | .exportCart f => f.wellFormed
  | .relocate f => f.wellFormed
  | .inventory f => f.wellFormed
  | .erase f => f.wellFormed
  | .rebuild f => f.wellFormed
  | .pools f => f.wellFormed
  | .lockPool f => f.wellFormed
  | .day f => f.wellFormed
  | .config f => f.wellFormed
  | .noticeMask f => f.wellFormed
  | .stopResume f => f.wellFormed
  -- R177, R197: unit 2 is the changer and unit 3 the store; every other payload goes with the drives' form
  | .clearFaultDrive f => f.wellFormed && f.payload ≠ [2] && f.payload ≠ [3]
  | .clearFaultChanger f => f.payload = [2]
  | .clearFaultStore f => f.payload = [3]
  | .reset f => f.wellFormed
  | .frameLeft _ => true
  | .panelReadCutShort => true
  | .linkDown p => p.isClient
  | .linkUp p => p.isClient
  | .holdTimerExpiry p => p.isClient
  | .statusCompletion _ n a => numberOk n && a.wellFormed
  | .locateCompletion _ n _ => numberOk n
  | .rewindCompletion _ n _ => numberOk n
  | .writeCompletion _ n _ => numberOk n
  -- R32, R31: a record is a header of 32 bytes and at most 65,536 bytes of payload
  | .readCompletion _ n _ record => numberOk n && record.length ≤ 65568
  | .speedCompletion _ n _ => numberOk n
  | .ejectCompletion _ n _ => numberOk n
  | .mediaReady _ capacity rate => mediaOk capacity rate
  | .commandTimerExpiry _ => true
  | .insertReadyTimerExpiry _ => true
  | .idleUnloadTimerExpiry _ => true
  -- R78: a handle is 1..254
  | .openWaitTimerExpiry h => 1 ≤ h && h ≤ 254
  | .mediaWaitTimerExpiry _ => true
  | .rateWindowExpiry _ => true
  | .encodeCompletion _ => true
  | .decodeCompletion _ => true
  | .settleTimerExpiry _ => true
  | .moveCompletion t _ => numberOk t
  | .scanCompletion t _ => numberOk t
  | .changerStatusCompletion t _ => numberOk t
  | .pickerTimerExpiry => true
  | .lineInputChange _ _ => true
  | .debounceTimerExpiry _ => true
  | .storeWriteCompletion _ => true

end Sys2Proof
end

