-- ==== Sys2Proof/Safety.lean ====
section
/-! DEFINITION. The terms the statements are written in: what a request's arrival needs, what its answer does to its port, and
the conditions every step keeps. -/

namespace Sys2Proof.Machine

/-! ### Requests -/

/-- R171: a request joins its port's request queue: the port is heard and its queue has room. -/
abbrev Dev.takes (d : Dev) (f : Req) : Prop := d.hears f.port = true ∧ (d.port f.port).queue.length < Config.maxRequests

/-- A port unit after a request that joined its queue and was answered at once (R171, R173, R174). -/
def PortUnit.answered (u : PortUnit) (f : Req) (k : ReqKind) (st : Status) (handle : Nat) (result : List Byte) : PortUnit :=
  let r : ReqId := { port := f.port, serial := u.serial, kind := k, tag := f.tag.toNat, handle := f.handle.toNat }
  { u with
    queue := u.queue ++ [r], unanswered := u.unanswered.filter (· ≠ r), serial := u.serial + 1
    path := u.path ++ [.answer (some u.serial) f.tag.toNat handle st result] }

/-- The device after a request that joined its port's queue and was answered at once: that port's unit, and its transmitter is
looked at. -/
def Dev.answered (d : Dev) (f : Req) (k : ReqKind) (st : Status) (handle : Nat) (result : List Byte) : Dev :=
  (d.setPort f.port ((d.port f.port).answered f k st handle result)).push (.transmit f.port)

/-- R172, check 3: the frame's handle names a session of this port, on a channel. -/
abbrev Dev.names (d : Dev) (f : Req) (c : Chan) (x : Session) : Prop :=
  (f.handle.toNat ≠ 0 ∧ f.handle.toNat ≠ 255) ∧ d.sessionOf f.handle.toNat = some c ∧ d.sess c = some x ∧ x.owner = f.port

/-- R172, check 1: the payload of a request has the form of its kind; a command that is no request has none to check. -/
def formOk : Instr → Bool
  | .inquire f => (parseNone f.payload).isSome
  | .cartridgeList f => (parseByte f.payload).isSome
  | .setList f => (parseByte f.payload).isSome
  | .setStatus f => (parseWord f.payload).isSome
  | .sessionStatus f => (parseNone f.payload).isSome
  | .openBackup f => (parseOpenBackup f.payload).isSome
  | .fileBegin f => (parseTag f.payload).isSome
  | .data f => (parseData f.payload).isSome
  | .fileEnd f => (parseNone f.payload).isSome
  | .closeSet f => (parseNone f.payload).isSome
  | .abort f => (parseNone f.payload).isSome
  | .cancel f => (parseByte f.payload).isSome
  | .openVerify f => (parseWord f.payload).isSome
  | .openRestore f => (parseRestore f.payload).isSome
  | .grant f => (parseByte f.payload).isSome
  | .recycle f => (parseLabel f.payload).isSome
  | .importCarts f => (parseNone f.payload).isSome
  | .exportCart f => (parseLabel f.payload).isSome
  | .relocate f => (parseRelocate f.payload).isSome
  | .inventory f => (parseNone f.payload).isSome
  | .erase f => (parseByte f.payload).isSome
  | .rebuild f => (parseByte f.payload).isSome
  | .pools f => (parsePools f.payload).isSome
  | .lockPool f => (parseByte f.payload).isSome
  | .day f => (parseWord f.payload).isSome
  | .config f => (parseConfig f.payload).isSome
  | .noticeMask f => (parseMask f.payload).isSome
  | .stopResume f => (parseNone f.payload).isSome
  | .clearFaultDrive f => f.payload = [0] || f.payload = [1]
  | .clearFaultChanger f => f.payload = [2]
  | .clearFaultStore f => f.payload = [3]
  | .reset f => (parseNone f.payload).isSome
  | .powerOn _ => true
  | .storeReadCompletion _ => true
  | .startUp => true
  | .frameError _ => true
  | .unknownFrameKind _ _ _ => true
  | .frameLeft _ => true
  | .panelReadCutShort => true
  | .linkDown _ => true
  | .linkUp _ => true
  | .holdTimerExpiry _ => true
  | .statusCompletion _ _ _ => true
  | .locateCompletion _ _ _ => true
  | .rewindCompletion _ _ _ => true
  | .writeCompletion _ _ _ => true
  | .readCompletion _ _ _ _ => true
  | .speedCompletion _ _ _ => true
  | .ejectCompletion _ _ _ => true
  | .mediaReady _ _ _ => true
  | .commandTimerExpiry _ => true
  | .insertReadyTimerExpiry _ => true
  | .idleUnloadTimerExpiry _ => true
  | .openWaitTimerExpiry _ => true
  | .mediaWaitTimerExpiry _ => true
  | .rateWindowExpiry _ => true
  | .encodeCompletion _ => true
  | .decodeCompletion _ => true
  | .settleTimerExpiry _ => true
  | .moveCompletion _ _ => true
  | .scanCompletion _ _ => true
  | .changerStatusCompletion _ _ => true
  | .pickerTimerExpiry => true
  | .lineInputChange _ _ => true
  | .debounceTimerExpiry _ => true
  | .storeWriteCompletion _ => true

/-- The panel group of section 9.2. -/
def ReqKind.panel : ReqKind → Bool
  | .importCarts | .exportCart | .relocate | .inventory | .erase | .rebuild | .pools | .lockPool | .day | .config
  | .noticeMask | .stopResume | .clearFault | .reset => true
  | .inquire | .cartridgeList | .setList | .setStatus | .sessionStatus | .openBackup | .fileBegin | .data | .fileEnd | .closeSet
  | .abort | .cancel | .openVerify | .openRestore | .grant | .recycle => false

/-- The requests that name a session (R172, check 3). -/
def ReqKind.namesSession : ReqKind → Bool
  | .fileBegin | .data | .fileEnd | .closeSet | .abort | .sessionStatus | .grant => true
  | .inquire | .cartridgeList | .setList | .setStatus | .openBackup | .cancel | .openVerify | .openRestore | .recycle
  | .importCarts | .exportCart | .relocate | .inventory | .erase | .rebuild | .pools | .lockPool | .day | .config
  | .noticeMask | .stopResume | .clearFault | .reset => false

/-! ### Drive links -/

/-- R69: the drive waits for the completion of this command, and none is left over from before a RESET request. -/
abbrev Dev.awaits (d : Dev) (c : Chan) (o : Outstanding) : Prop := (d.drive c).stale ≠ some o.num ∧ (d.drive c).out = some o

/-- R69: the outstanding command has ended: its timer stops. -/
def Dev.commandEnded (d : Dev) (c : Chan) : Dev := d.modDrive c fun x => { x with out := none, cmdTimer := none }

/-! ### Notices -/

/-- R176: a port takes a notice: its link is UP, its queue has room for two, and its mask enables the notice. -/
abbrev Dev.roomFor (d : Dev) (p : Port) (n : Notice) : Prop :=
  (d.port p).link = .up ∧ (d.port p).notices.length < 15 ∧ (d.cfg.mask p).getD n.index true = true

/-! ### What every step keeps -/

/-- R51, R52: every page is free or held by one channel, and neither channel holds more than 832. -/
def Smc.balanced (m : Smc) : Prop :=
  m.free + m.held.zero + m.held.one = Config.pages ∧ m.held.zero ≤ Config.maxHeld ∧ m.held.one ≤ Config.maxHeld

/-- R192: every setting lies in its range. -/
def Settings.inRange (g : Settings) : Prop :=
  g.openWait ≤ 3600 ∧ g.idleUnload ≤ 3600 ∧ (g.settle ≤ 2550 ∧ g.settle % 10 = 0) ∧ (4 ≤ g.watermark ∧ g.watermark ≤ 256) ∧
    (8 ≤ g.readAhead ∧ g.readAhead ≤ 128) ∧ g.spanReserve ≤ 65535 ∧ (1 ≤ g.retireLimit ∧ g.retireLimit ≤ 65535) ∧
    g.fns.length = 4

end Sys2Proof.Machine
end

