-- ==== Sys2Proof/Certificates/Slice0/Obligations.lean ====
section
/-! DEFINITION. The statements about the controller. A command's completion is given as the device its own effect leaves, `e`,
and the step's next state as `e.finish`: the effect, then what follows from it inside the same step (log entry 4). -/

open Sys2Proof Sys2Proof.Machine

/-! ### The queue of commands -/

/-- A step takes the command at the front of the queue and carries it out with the queue's rest. -/
def Obligations.StepRunsTheFrontCommand : Prop :=
  ∀ (s : State) (c : Instr) (rest : List Instr), s.pending = c :: rest → step s = exec c { s with pending := rest }

/-- Every step answers a next state, whose queue is the old one without its front command; on an empty queue the controller idles
(the model's choice, log entry 1). -/
def Obligations.EveryStepAnswersANextState : Prop :=
  (∀ (c : Instr) (s : State), ∃ t, exec c s = .next t ∧ t.pending = s.pending) ∧
  (∀ s : State, ∃ t, step s = .next t ∧ t.pending = s.pending.tail) ∧ ∀ s : State, s.pending = [] → step s = .next s

/-! ### Requests at a port (R170 to R172) -/

/-- R171, R179, R195: a request that finds its port's queue full gets an overflow answer, or, when four already wait, sets LOST; it
has no other effect. A frame of any kind at a port that takes none, because start-up is not done or the link is not UP, has no
effect: R195 says so of RESET alone, so that while the store is read at power-on, and while the link is not UP, it is the model's
choice (log entry 11). Every request of the table. -/
def Obligations.FullOrDeafPortTurnsAFrameAway : Prop :=
  (∀ (s : State) (i : Instr) (f : Req) (k : ReqKind), i.request? = some (f, k) → s.dev.hears f.port = true →
    Config.maxRequests ≤ (s.dev.port f.port).queue.length →
    let u := s.dev.port f.port
    let waiting := (u.path.filter OutFrame.isOverflow).length
    (waiting < 4 → exec i s = .next { s with dev := ((s.dev.begin.setPort f.port
        { u with path := u.path ++ [.overflow f.tag.toNat f.handle.toNat] }).push (.transmit f.port)).finish }) ∧
    (4 ≤ waiting → exec i s = .next { s with dev := (s.dev.begin.setPort f.port { u with lost := true }).finish })) ∧
  (∀ (s : State) (i : Instr) (f : Req) (k : ReqKind), i.request? = some (f, k) → s.dev.hears f.port = false →
    exec i s = .next { s with dev := s.dev.begin.finish }) ∧
  ∀ (s : State) (p : Port), s.dev.hears p = false →
    exec (.frameError p) s = .next { s with dev := s.dev.begin.finish } ∧
    ∀ tag handle : Byte, exec (.unknownFrameKind p tag handle) s = .next { s with dev := s.dev.begin.finish }

/-- R172: the checks that come before a request's own: a payload without the form of its kind is answered BAD_REQUEST; a panel
request of port A or B NOT_OWNER; and of the requests that name a session, a handle that can be none, or that nothing holds, is
answered BAD_REQUEST, one that a waiting open holds BAD_STATE, and one of another port's session NOT_OWNER. Nothing else changes.
The payload forms (the unit byte of CLEAR_FAULT, the optional label, the mask bits) are the model's choice, log entry 10. -/
def Obligations.RequestsAreCheckedFirst : Prop :=
  ∀ (s : State) (i : Instr) (f : Req) (k : ReqKind), i.request? = some (f, k) → s.dev.takes f →
    let h := f.handle.toNat
    let turned (st : Status) : Prop := exec i s = .next { s with dev := (s.dev.begin.answered f k st h []).finish }
    (formOk i = false → turned .badRequest) ∧
    (formOk i = true → k.panel = true → f.port ≠ .P → turned .notOwner) ∧
    (formOk i = true → k.namesSession = true →
      ((h = 0 ∨ h = 255) → turned .badRequest) ∧
      (h ≠ 0 → h ≠ 255 → s.dev.sessionOf h = none →
        turned (if s.dev.waitList.any (·.handle = h) then .badState else .badRequest)) ∧
      ∀ (c : Chan) (x : Session), h ≠ 0 → h ≠ 255 → s.dev.sessionOf h = some c → s.dev.sess c = some x → x.owner ≠ f.port →
        turned .notOwner)

/-- R103: under the power hold IMPORT, EXPORT, RELOCATE and INVENTORY are answered HELD and change nothing else. That HELD comes before
the request's own checks, whatever its label or place, is the model's choice (log entry 28). -/
def Obligations.PowerHoldRefusesMovement : Prop :=
  ∀ (s : State) (f : Req), f.port = .P → s.dev.takes f → s.dev.mqu.holdPower = true →
    ∀ p ∈ [(Instr.importCarts f, ReqKind.importCarts), (.exportCart f, .exportCart), (.relocate f, .relocate),
        (.inventory f, .inventory)],
      formOk p.1 = true →
        exec p.1 s = .next { s with dev := (s.dev.begin.answered f p.2 .held f.handle.toNat []).finish }

/-! ### Frames that are no request, frames that leave, and the links (R170, R174, R178 to R181) -/

/-- R170: a frame that fails its check is answered with one FRAME_ERROR frame, unless one already waits; a good frame whose kind
names no request is answered BAD_REQUEST under its tag, with no queue entry. That the answer carries the frame's own handle is the
model's choice, log entry 69. -/
def Obligations.FramesThatAreNoRequestAreAnswered : Prop :=
  (∀ (s : State) (p : Port), s.dev.hears p = true →
    let u := s.dev.port p
    (u.path.any OutFrame.isFrameError = false → exec (.frameError p) s = .next { s with dev :=
      ((s.dev.begin.setPort p { u with path := u.path ++ [.frameError] }).push (.transmit p)).finish }) ∧
    (u.path.any OutFrame.isFrameError = true → exec (.frameError p) s = .next { s with dev := s.dev.begin.finish })) ∧
  (∀ (s : State) (p : Port) (tag handle : Byte), s.dev.hears p = true →
    let u := s.dev.port p
    exec (.unknownFrameKind p tag handle) s = .next { s with dev := ((s.dev.begin.setPort p
      { u with path := u.path ++ [.answer none tag.toNat handle.toNat .badRequest []] }).push (.transmit p)).finish })

/-- R171, R174: the frame the transmitter holds has left: the transmitter is free, an answer's entry leaves the request queue, and
a restore is told of its FILE_DONE. A read the panel ends part way leaves the frame with the transmitter: with nothing left to
follow it changes nothing. -/
def Obligations.TransmitterIsToldWhenAFrameLeaves : Prop :=
  (∀ (s : State) (p : Port) (f : OutFrame), (s.dev.port p).tx = some f →
    let u : PortUnit := { s.dev.port p with tx := none }
    let e := s.dev.begin.setPort p u
    (∀ n t h st r, f = .answer (some n) t h st r → exec (.frameLeft p) s = .next { s with dev :=
      ((s.dev.begin.setPort p { u with queue := u.queue.filter fun q => q.serial ≠ n }).push (.transmit p)).finish }) ∧
    (∀ h q n o k m, f = .delivery h q (.done n o k m) →
      exec (.frameLeft p) s = .next { s with dev := ((e.doneLeft p q n).push (.transmit p)).finish }) ∧
    ((∀ n t h st r, f ≠ .answer (some n) t h st r) → (∀ h q n o k m, f ≠ .delivery h q (.done n o k m)) →
      exec (.frameLeft p) s = .next { s with dev := (e.push (.transmit p)).finish })) ∧
  (∀ s : State, exec .panelReadCutShort s = .next { s with dev := s.dev.begin.finish } ∧
    (s.dev.todo = [] → exec .panelReadCutShort s = .next { s with dev := { s.dev with sent := [] } }))

/-- R178 to R181: the loss of a client link that is UP discards the port's queues and the frame part way through sending, starts the
hold timer, and clears the receive credits of the port's restores. The return makes the link UP: from HOLDING the timer stops and
the port's sessions go on, in a free order. At the hold's expiry the link is DOWN, the port's waiting opens leave the list without an
answer, and its sessions are aborted with LINK_LOST, in a free order (log entry 5). That the links are taken so in every phase is log
entry 12, and the credits restated at the return are log entry 33. -/
def Obligations.ClientLinksAreLostHeldAndReturned : Prop :=
  (∀ (s : State) (p : Port), p ≠ .P →
    let u := s.dev.port p
    (u.link = .up → exec (.linkDown p) s = .next { s with dev :=
      ((s.dev.channelsOf p).foldl Dev.restoreLost (s.dev.begin.setPort p
        { u with present := false, queue := [], path := [], notices := [], tx := none, link := .holding
                 hold := some Config.holdMs })).finish }) ∧
    (u.link ≠ .up → exec (.linkDown p) s = .next { s with dev := (s.dev.begin.setPort p { u with present := false }).finish })) ∧
  (∀ (s : State) (p : Port), p ≠ .P →
    let u := s.dev.port p
    (u.link = .down → exec (.linkUp p) s = .next { s with dev :=
      (s.dev.begin.setPort p { u with present := true, link := .up }).finish }) ∧
    (u.link = .holding → let e := s.dev.begin.setPort p { u with present := true, link := .up, hold := none }
      exec (.linkUp p) s = .next { s with dev :=
        ((e.shuffled (s.dev.channelsOf p)).1.foldl Dev.sessionReturned (e.shuffled (s.dev.channelsOf p)).2).finish }) ∧
    (u.link = .up → exec (.linkUp p) s = .next { s with dev := (s.dev.begin.setPort p { u with present := true }).finish })) ∧
  (∀ (s : State) (p : Port), (s.dev.port p).hold ≠ none →
    let e := s.dev.begin.setPort p { s.dev.port p with hold := none, link := .down }
    let e := (s.dev.waitList.filter fun w => w.req.port = p).foldl (fun d w => d.leaveList w none) e
    exec (.holdTimerExpiry p) s = .next { s with dev :=
      ((e.shuffled (e.channelsOf p)).1.foldl Dev.loseSession (e.shuffled (e.channelsOf p)).2).finish })

/-! ### Requests that read (R29, R68) -/

/-- R29, R176: INQUIRE reads the port's LOST flag into its answer and clears it; the lists and SET_STATUS read the catalogue and
change nothing but the port that is answered. -/
def Obligations.QueriesAnswerFromTheState : Prop :=
  (∀ (s : State) (f : Req), s.dev.takes f → f.payload = [] →
    let u := s.dev.port f.port
    exec (.inquire f) s = .next { s with dev := ((s.dev.begin.setPort f.port { u with lost := false }).answered f .inquire .ok
      f.handle.toNat (s.dev.inquireResult f.port)).finish }) ∧
  (∀ (s : State) (f : Req), s.dev.takes f →
    (∀ b : Byte, f.payload = [b] → b.toNat < 64 → exec (.cartridgeList f) s = .next { s with dev :=
      (s.dev.begin.answered f .cartridgeList .ok f.handle.toNat (s.dev.cartListResult b.toNat)).finish }) ∧
    (∀ b : Byte, f.payload = [b] → 64 ≤ b.toNat → exec (.cartridgeList f) s = .next { s with dev :=
      (s.dev.begin.answered f .cartridgeList .badRequest f.handle.toNat []).finish }) ∧
    (∀ b : Byte, f.payload = [b] → exec (.setList f) s = .next { s with dev :=
      (s.dev.begin.answered f .setList .ok f.handle.toNat (s.dev.setListResult f.port b.toNat)).finish }) ∧
    (∀ (n : Nat) (e : SetIx) (x : BackupSet), parseWord f.payload = some n → s.dev.reportSet n = some e → s.dev.set? e = some x →
      exec (.setStatus f) s = .next { s with dev :=
        (if f.port = .P ∨ x.owner = f.port then s.dev.begin.answered f .setStatus .ok f.handle.toNat (s.dev.setResult x)
         else s.dev.begin.answered f .setStatus .notOwner f.handle.toNat []).finish }) ∧
    (∀ n : Nat, parseWord f.payload = some n → s.dev.reportSet n = none → exec (.setStatus f) s = .next { s with dev :=
      (s.dev.begin.answered f .setStatus .noSet f.handle.toNat []).finish }))

/-- R55, R56, R68: SESSION_STATUS answers with the session's figures; for a backup a grant is worked out, added to the outstanding
credits, and rides in the answer. -/
def Obligations.SessionStatusCarriesAGrant : Prop :=
  ∀ (s : State) (f : Req) (c : Chan) (x : Session), s.dev.takes f → f.payload = [] → s.dev.names f c x →
    let result := s.dev.sessionResult c x
    (∀ b, x.kind = .backup b → let g := creditsDue (s.dev.chan c) b
      exec (.sessionStatus f) s = .next { s with dev :=
        ((s.dev.begin.modBackup c fun b => { b with credits := b.credits + g, undelivered := false }).answered f .sessionStatus .ok
          f.handle.toNat (result ++ leBytes 1 g)).finish }) ∧
    ((∀ b, x.kind ≠ .backup b) → exec (.sessionStatus f) s = .next { s with dev :=
      (s.dev.begin.answered f .sessionStatus .ok f.handle.toNat (result ++ leBytes 1 0)).finish })

/-! ### Opens (R80, R83, R84, R114, R140, R154, R164) -/

/-- R114: an OPEN_BACKUP of a new set that names no cartridge, or names one by its label, and passes its checks is offered to the
wait list; an append is offered when its set passes the checks of R115. -/
def Obligations.BackupOpenIsOffered : Prop :=
  ∀ (s : State) (f : Req) (q : BackupOpen), s.dev.takes f → parseOpenBackup f.payload = some q → q.pool ≤ 4 → f.port ≠ .P →
    (s.dev.cat.live.pool q.pool).allows f.port = true →
    let e := s.dev.begin.joined f .openBackup
    let r := s.dev.begin.newReq f .openBackup
    (q.target = none → q.append = none → exec (.openBackup f) s = .next { s with dev :=
      (e.offerOpen r (.backup q.pool q.expiry q.verifyAfter none) none).finish }) ∧
    (∀ l i, q.target = some l → q.append = none → s.dev.byLabel l = some i → exec (.openBackup f) s = .next { s with dev :=
      (e.offerOpen r (.backup q.pool q.expiry q.verifyAfter (some l)) (some i)).finish }) ∧
    (∀ n i x, q.target = none → q.append = some n → s.dev.liveSet n = some i → s.dev.set? i = some x → x.owner = f.port →
      x.inUse = none → x.state = .closed → q.pool = x.pool → x.locator ≠ none → s.dev.appendFits x = true →
      exec (.openBackup f) s = .next { s with dev :=
        (e.offerOpen r (.append i q.pool q.expiry q.verifyAfter) (x.lastSegment.map (·.cart))).finish })

/-- R140, R154, R164: a verify, restore or rebuild open that passes its checks is offered to the wait list. -/
def Obligations.ReadOpensAreOffered : Prop :=
  ∀ (s : State) (f : Req), s.dev.takes f →
    (∀ n i x, parseWord f.payload = some n → s.dev.liveSet n = some i → s.dev.set? i = some x →
      (f.port = .P ∨ x.owner = f.port) → x.state ≠ .opened → x.inUse = none → x.noGap = true →
      exec (.openVerify f) s = .next { s with dev := ((s.dev.begin.joined f .openVerify).offerOpen
        (s.dev.begin.newReq f .openVerify) (.verify i) ((x.segment 1).map (·.cart))).finish }) ∧
    (∀ n fs i x, parseRestore f.payload = some (n, fs) → filesOk fs = true → s.dev.liveSet n = some i → s.dev.set? i = some x →
      x.owner = f.port → x.inUse = none → (x.state = .closed ∨ x.state = .recovered) → x.locator ≠ none →
      exec (.openRestore f) s = .next { s with dev := ((s.dev.begin.joined f .openRestore).offerOpen
        (s.dev.begin.newReq f .openRestore) (.restore i fs) (x.locator.map (·.cart))).finish }) ∧
    (∀ (n : Byte) (i : CartIx) (x : Cart), f.port = .P → f.payload = [n] → n.toNat = i.val → s.dev.cart i = some x →
      x.location ≠ none →
      (∀ e ∈ s.dev.liveSetsOn i, ∀ y, s.dev.set? e = some y → y.inUse = none) →
      exec (.rebuild f) s = .next { s with dev := ((s.dev.begin.joined f .rebuild).offerOpen
        (s.dev.begin.newReq f .rebuild) (.rebuild i) (some i)).finish })

/-- R78, R80, R83: an open offered to a wait list with room, with a drive present, joins its tail under the handle it is given; its
open-wait timer runs, the set it names is in use under that handle, and the grant rule follows. With an open-wait value of 0 no timer
runs, and when the grant rule has not granted it, it leaves the list at once and is answered BUSY. With neither drive present it is
answered FAULT, and with the list full BUSY. The handle is 1 to 254 and held by no session and no open that waits. R81: the grant rule
gives a free drive to the first open, of those not blocked, whose needed cartridge is mounted there; with none such, the first open not
blocked gets the lower-numbered free drive whose place holds no cartridge another open needs, or else the lower-numbered free drive; and
it runs again. R82: an open granted, of a verify, restore, append or rebuild that its chapter does not refuse, leaves the list; its
session stands on the drive's channel under its handle with the open still to be answered; the drive is claimed, its idle-unload timer
stopped, and the cartridge the open needs is the session cartridge, claimed when it is mounted there. -/
def Obligations.OfferedOpenJoinsTheWaitList : Prop :=
  (∀ (d : Dev) (r : ReqId) (k : OpenKind) (needed : Option CartIx),
    let absent := (d.drive .ch0).state = .absent ∧ (d.drive .ch1).state = .absent
    (absent → d.offerOpen r k needed = d.answer r .fault) ∧
    (¬ absent → Config.maxWaiting ≤ d.waitList.length → d.offerOpen r k needed = d.answer r .busy) ∧
    let h := d.handleFrom 11 d.nextHandle
    (1 ≤ d.nextHandle → d.nextHandle ≤ 254 → d.waitList.length ≤ Config.maxWaiting → (1 ≤ h ∧ h ≤ 254) ∧ d.handleHeld h = false) ∧
    (∀ g w, d.waitList.find? (fun w => w.handle = g) = some w → d.zeroWait g =
      (({ d with waitList := d.waitList.filter fun x => x.handle ≠ w.handle } : Dev).freeSet w.kind.set?).answer w.req .busy) ∧
    (¬ absent → d.waitList.length < Config.maxWaiting →
      let e := d.offerOpen r k needed
      e.waitList = d.waitList ++
        [{ req := r, handle := h, kind := k, needed := needed
           timer := if d.cfg.openWait = 0 then none else some (d.cfg.openWait * 1000) }] ∧
      Todo.grantRule ∈ e.todo ∧ (d.cfg.openWait = 0 → Todo.zeroWait h ∈ e.todo) ∧
      e.nextHandle = (if h = 254 then 1 else h + 1) ∧
      (∀ i x, k.set? = some i → d.set? i = some x → e.set? i = some { x with inUse := some h }) ∧
      (∀ i, k.set? ≠ some i → e.set? i = d.set? i) ∧
      e.cat.carts = d.cat.carts ∧ e.cst = d.cst ∧ e.ch = d.ch ∧ e.mqu = d.mqu ∧ e.smc = d.smc ∧ e.pa = d.pa ∧ e.pb = d.pb ∧
      e.pp = d.pp)) ∧
  (∀ (d : Dev) (pre post : List WaitEntry) (w : WaitEntry) (c : Chan), d.waitList = pre ++ w :: post →
    let blocked (v : WaitEntry) : Prop := ∃ i, v.needed = some i ∧ d.cartBusy i = true
    let fits (v : WaitEntry) (k : Chan) : Prop :=
      ¬ blocked v ∧ (d.drive k).isFree = true ∧ ∃ i, v.needed = some i ∧ (d.drive k).mounted = .cart i
    let spare (k : Chan) : Prop := (d.drive k).isFree = true ∧
      ∀ i, d.occ (.drive k) = .cart i → ∀ v ∈ d.waitList, v.handle ≠ w.handle → v.needed ≠ some i
    let lowest (p : Chan → Prop) : Prop := p c ∧ (c = .ch0 ∨ ¬ p .ch0)
    let granted : Prop := d.grantRule = (d.grantTo w c).pushFront [.grantRule]
    (lowest (fits w) → (∀ v ∈ pre, ∀ k, ¬ fits v k) → granted) ∧
    ((∀ v ∈ d.waitList, ∀ k, ¬ fits v k) → ¬ blocked w → (∀ v ∈ pre, blocked v) →
      (lowest spare → granted) ∧ ((∀ k, ¬ spare k) → lowest (fun k => (d.drive k).isFree = true) → granted)) ∧
    ((∀ k, (d.drive k).isFree = false) ∨ (∀ v ∈ d.waitList, blocked v) → d.grantRule = d)) ∧
  ∀ (d : Dev) (w : WaitEntry) (c : Chan) (i : CartIx), w.needed = some i →
    (∃ k y, d.set? k = some y ∧
      ((w.kind = .verify k ∧ (y.segment 1).map (·.cart) = some i ∧ (y.locator ≠ none ∨ ∃ g ∈ y.segments, g.count ≠ 0)) ∨
       (∃ fs, w.kind = .restore k fs ∧ y.locator.map (·.cart) = some i) ∨
       (∃ pool expiry va, w.kind = .append k pool expiry va ∧ d.appendFits y = true ∧
         y.lastSegment.map (·.cart) = some i))) ∨
      (w.kind = .rebuild i ∧ ∀ k ∈ d.liveSetsOn i, ∀ y, d.set? k = some y → y.inUse = none) →
    let e := d.grantTo w c
    e.waitList = d.waitList.filter (fun v => v.handle ≠ w.handle) ∧ (e.drive c).claim = some w.handle ∧
      (e.drive c).idleTimer = none ∧ (e.drive c).state = (d.drive c).state ∧ Todo.bring c ∈ e.todo ∧
      e.sess (otherChan c) = d.sess (otherChan c) ∧
      (∃ x, e.sess c = some x ∧ x.handle = w.handle ∧ x.owner = w.req.port ∧ x.set = w.kind.set? ∧ x.cart = some i ∧
        x.openReq = some w.req ∧ x.openTimer = w.timer) ∧
      ((d.cart i).map (·.claim) = some none → (d.drive c).mounted = .cart i →
        (d.drive c).state = .ready ∨ (d.drive c).state = .inserting → (e.cart i).bind (·.claim) = some w.handle)

/-- R80, R84: CANCEL withdraws the oldest waiting open of its port with the tag, which is answered ABORTED; with none it is
answered NOT_WAITING. -/
def Obligations.CancelWithdrawsTheOldestOpen : Prop :=
  ∀ (s : State) (f : Req) (tag : Byte), s.dev.takes f → f.payload = [tag] →
    let d := s.dev.begin.joined f .cancel
    let r := s.dev.begin.newReq f .cancel
    let found := s.dev.waitList.find? fun w => w.req.port = f.port ∧ w.req.tag = tag.toNat
    (∀ w, found = some w → exec (.cancel f) s = .next { s with dev :=
      ((({ d with waitList := s.dev.waitList.filter fun x => x.handle ≠ w.handle }.freeSet w.kind.set?).answerWith w.req
        .aborted w.handle []).answer r .ok).finish }) ∧
    (found = none → exec (.cancel f) s = .next { s with dev :=
      (s.dev.begin.answered f .cancel .notWaiting f.handle.toNat []).finish })

/-! ### A backup's files and data (R54 to R57, R121 to R124, R128, R138) -/

/-- R122, R124: FILE_BEGIN opens the next file at the place in the stream where its first byte will go, and answers its number;
with a file open it is answered BAD_STATE, with 2,048 files in the set SET_FULL, and with a tag of more than 64 bytes BAD_REQUEST.
FILE_END without a file open is answered BAD_STATE; otherwise it closes the open file: its entry joins the index area, the set's
file count rises, and the answer carries the length and the CRC-32. The layout of the answers' bytes is the model's choice, log
entry 9. -/
def Obligations.FilesOpenAndClose : Prop :=
  (∀ (s : State) (f : Req) (c : Chan) (x : Session) (b : Backup) (tag : List Byte), s.dev.takes f →
    parseTag f.payload = some tag → s.dev.names f c x → x.kind = .backup b → b.granting = true →
    let half := (s.dev.chan c).half (s.dev.chan c).curB
    let file : OpenFile := { file := b.nextFile, tag := tag, startSeq := b.nextData
                             startOff := if half.state = .handed then 0 else half.bytes.length, length := 0
                             crc := crc32Preset }
    (b.openFile = none → b.nextFile ≤ 2048 → exec (.fileBegin f) s = .next { s with dev :=
      ((s.dev.begin.modBackup c fun b => { b with openFile := some file, nextFile := b.nextFile + 1 }).answered f .fileBegin .ok
        f.handle.toNat (leBytes 2 b.nextFile)).finish }) ∧
    (b.openFile ≠ none → exec (.fileBegin f) s = .next { s with dev :=
      (s.dev.begin.answered f .fileBegin .badState f.handle.toNat []).finish }) ∧
    (b.openFile = none → 2048 < b.nextFile → exec (.fileBegin f) s = .next { s with dev :=
      (s.dev.begin.answered f .fileBegin .setFull f.handle.toNat []).finish })) ∧
  (∀ (s : State) (f : Req), s.dev.takes f →
    (parseTag f.payload = none → exec (.fileBegin f) s = .next { s with dev :=
      (s.dev.begin.answered f .fileBegin .badRequest f.handle.toNat []).finish }) ∧
    ∀ c x b, f.payload = [] → s.dev.names f c x → x.kind = .backup b → b.granting = true → b.openFile = none →
      exec (.fileEnd f) s = .next { s with dev := (s.dev.begin.answered f .fileEnd .badState f.handle.toNat []).finish }) ∧
  (∀ (s : State) (f : Req) (c : Chan) (x : Session) (b : Backup) (o : OpenFile), s.dev.takes f → f.payload = [] →
    s.dev.names f c x → x.kind = .backup b → b.granting = true → b.openFile = some o →
    let entry : IndexEntry := { file := o.file, tag := o.tag, startSeq := o.startSeq, startOff := o.startOff, length := o.length
                                crc := crc32Finish o.crc }
    let d := (s.dev.begin.joined f .fileEnd).modBackup c fun b => { b with openFile := none }
    let d := d.modChan c fun y => { y with index := y.index ++ [entry] }
    let d := match x.set with
      | some e => d.modSet e fun y => { y with fileCount := y.fileCount + 1 }
      | none => d
    exec (.fileEnd f) s = .next { s with dev := (d.answerWith (s.dev.begin.newReq f .fileEnd) .ok f.handle.toNat
      (leBytes 8 o.length ++ crc32Bytes entry.crc)).finish })

/-- R54, R56, R57, R123: an accepted DATA frame costs one credit, extends the open file's length and CRC and the set's raw bytes,
and fills the raw halves; the grant worked out then rides in the answer. Without a file open it is answered BAD_STATE, without a
credit NO_CREDIT. The one-byte count of the answer is the model's choice, log entry 9. -/
def Obligations.DataCostsOneCredit : Prop :=
  ∀ (s : State) (f : Req) (c : Chan) (x : Session) (b : Backup) (bytes : List Byte), s.dev.takes f →
    parseData f.payload = some bytes → s.dev.names f c x → x.kind = .backup b → b.granting = true →
    (∀ o, b.openFile = some o → b.credits ≠ 0 →
      let d := (s.dev.begin.joined f .data).modBackup c fun b =>
        { b with credits := b.credits - 1
                 openFile := some { o with length := o.length + bytes.length, crc := crc32Extend o.crc bytes } }
      let d := match x.set with
        | some e => d.modSet e fun y => { y with rawBytes := narrow64 (y.rawBytes + bytes.length) }
        | none => d
      let d := d.fillHalves c (((d.setOf x).map fun p => p.2.tape).getD 0) bytes
      exec (.data f) s = .next { s with dev := ((d.grantInAnswer c).1.answerWith (s.dev.begin.newReq f .data) .ok f.handle.toNat
        (leBytes 1 (d.grantInAnswer c).2)).finish }) ∧
    (b.openFile = none → exec (.data f) s = .next { s with dev :=
      (s.dev.begin.answered f .data .badState f.handle.toNat []).finish }) ∧
    (b.openFile ≠ none → b.credits = 0 → exec (.data f) s = .next { s with dev :=
      (s.dev.begin.answered f .data .noCredit f.handle.toNat []).finish })

/-- R54: bytes go into the current half in order; the half that fills is handed over with 65,536 bytes as the next DATA block, and
the rest goes into the other half, which becomes current. No byte is lost. -/
def Obligations.HalvesTakeEveryByteInOrder : Prop :=
  ∀ (d : Dev) (c : Chan) (x : Session) (b : Backup) (tape : Nat) (bytes : List Byte), d.backup? c = some (x, b) →
    let y := d.chan c
    let all := (y.half y.curB).bytes ++ bytes
    let e := d.fillHalves c tape bytes
    let z := e.chan c
    (y.half y.curB).bytes.length < 65536 → 1 ≤ bytes.length → bytes.length ≤ 4096 →
    (all.length < 65536 →
      z.half y.curB = { state := .filling, bytes := all } ∧ z.half (!y.curB) = y.half (!y.curB) ∧ z.curB = y.curB ∧ z.enc = y.enc ∧
        e.backup? c = d.backup? c) ∧
    (65536 ≤ all.length →
      z.half y.curB = { state := .handed, bytes := all.take 65536 } ∧ z.curB = (!y.curB) ∧
      z.enc = { y.enc with work := y.enc.work ++ [{ kind := .data, fromB := y.curB, length := 65536, tape := tape
                                                    seq := b.nextData }] } ∧
      (65536 < all.length → z.half (!y.curB) = { state := .filling, bytes := all.drop 65536 }) ∧
      (all.length = 65536 → z.half (!y.curB) = y.half (!y.curB)) ∧
      (e.backup? c).map (fun p => p.2.nextData) = some (b.nextData + 1))

/-- R55, R56: a grant brings the outstanding credits up to what the room in the halves allows, and never lowers them. -/
def Obligations.GrantFillsTheRoomInTheHalves : Prop :=
  ∀ (d : Dev) (c : Chan) (x : Session) (b : Backup), d.backup? c = some (x, b) → b.granting = true →
    let room := (131072 - (d.chan c).bytesHeld) / 4096
    ((d.grantInAnswer c).1.backup? c).map (fun p => p.2) = some { b with credits := max b.credits room, undelivered := false } ∧
      b.credits + (d.grantInAnswer c).2 = max b.credits room

/-- R128: CLOSE_SET with no file open is taken: it stays pending, the credits are cleared, the writer is in STREAM, the index
builder is armed, and a half that is filling is handed over as the last DATA block. R131, R138: what the end of the CLOSE trailer's WRITE
leaves: the set is CLOSED with its digest, absent with DIGEST_OFF, and its index locator, and every figure counted as it was; the
CLOSE_SET is answered OK. Without verify-after the session has ended and the set is in use no longer; SESSION_ENDED carries CLOSED, or
LINK_LOST when the link's hold expired meanwhile. With verify-after it is a verify session of the set under the same handle, its
drive still claimed. -/
def Obligations.CloseSetArmsTheIndexBuilder : Prop :=
  (∀ (s : State) (f : Req) (c : Chan) (x : Session) (b : Backup), s.dev.takes f → f.payload = [] → s.dev.names f c x →
    x.kind = .backup b → b.granting = true → b.openFile = none →
    let r := s.dev.begin.newReq f .closeSet
    let d := (s.dev.begin.joined f .closeSet).modBackup c fun b =>
      { b with pendingClose := some r, credits := 0, undelivered := false, window := none, writer := .stream, building := true
               state := if b.state = .active then .closing else b.state, returnClosing := decide (b.state = .spanning) }
    let y := s.dev.chan c
    let last := y.half y.curB
    (last.state ≠ .filling → exec (.closeSet f) s = .next { s with dev := ((d.push (.build c)).push (.command c)).finish }) ∧
    (last.state = .filling → exec (.closeSet f) s = .next { s with dev :=
      ((((d.handBlock c .data y.curB last.bytes (((s.dev.setOf x).map fun p => p.2.tape).getD 0) b.nextData).modBackup c
        fun b => { b with nextData := b.nextData + 1 }).push (.build c)).push (.command c)).finish })) ∧
  ∀ (d : Dev) (c : Chan) (x : Session) (b : Backup) (i : SetIx) (y : BackupSet) (g : Segment) (pos : Nat),
    d.backup? c = some (x, b) → d.setOf x = some (i, y) → y.lastSegment = some g →
    let e := d.closeDone c pos
    let closed : BackupSet := { y with
      state := .closed, locator := some ⟨g.cart, b.indexPos.getD pos, b.nextIndex⟩
      digest := if y.digestOff then none else b.digest.map crc32Finish }
    (∀ j, j ≠ i → e.set? j = d.set? j) ∧
    (∀ r, b.pendingClose = some r → r ∈ (d.port r.port).unanswered → (d.port r.port).link = .up →
      ∃ n, OutFrame.answer n r.tag r.handle .ok [] ∈ (e.port r.port).path) ∧
    (b.verifyAfter = false ∨ b.lostHold = true →
      e.set? i = some { closed with inUse := none } ∧ e.sess c = none ∧ (e.drive c).claim = none ∧ e.smc.heldBy c = 0 ∧
      let n := Notice.sessionEnded x.handle (if b.lostHold then .linkLost else .closed) none .none
      ∀ p, p = x.owner ∨ p = .P → d.roomFor p n → n ∈ (e.port p).notices) ∧
    ∀ h, b.verifyAfter = true → b.lostHold = false → d.cfg.openWait ≠ 0 → y.segment 1 = some h →
      e.set? i = some { closed with verify := {} } ∧ (e.drive c).claim = (d.drive c).claim ∧ e.smc.heldBy c = 0 ∧
      ∃ x' v, e.verify? c = some (x', v) ∧ x'.handle = x.handle ∧ x'.owner = x.owner ∧ x'.set = some i ∧
        x'.cart = some h.cart ∧ v.state = .waitMedia ∧ v.segment = 1 ∧ v.started = true

/-- R138, R151, R163, R164: an ABORT that is taken stays pending, and the session is aborted with ABORTED_BY_CLIENT; a backup that
does not take it answers BAD_STATE. R136, R137, R152, R163, R169: what an abort leaves. A session that ends at once leaves its channel
without session, claim, pages or queues; its set is in use no longer; an OPEN set of a backup is ABORTED without digest and index
locator; a verify that started writes FAILED or INCOMPLETE with the day; SESSION_ENDED is offered to the owner port and to port P. A
backup that has been ACTIVE and is aborted for a reason that allows a trailer is ABORTING instead: with its cartridge mounted in a
READY drive at a known position, and no WRITE in flight, its write queue holds an ABORT trailer alone, with its page. That it is ABORTING
from the abort on, also while a WRITE is still in flight, is the model's choice, log entry 66. -/
def Obligations.AbortEndsTheSession : Prop :=
  (∀ (s : State) (f : Req) (c : Chan) (x : Session), s.dev.takes f → f.payload = [] → s.dev.names f c x →
    let taken := exec (.abort f) s = .next { s with dev :=
      (((s.dev.begin.joined f .abort).modSess c fun x => { x with pendingAbort := some (s.dev.begin.newReq f .abort) }).abortSession c
        .abortedByClient).finish }
    ((∀ b, x.kind ≠ .backup b) → taken) ∧
    (∀ b, x.kind = .backup b → s.dev.abortAllowed c x b = true → taken) ∧
    (∀ b, x.kind = .backup b → s.dev.abortAllowed c x b = false → exec (.abort f) s = .next { s with dev :=
      (s.dev.begin.answered f .abort .badState f.handle.toNat []).finish })) ∧
  (∀ (d : Dev) (c : Chan) (x : Session) (why : Reason), d.sess c = some x →
    let e := d.abortSession c why
    let ended := e.sess c = none ∧ (e.drive c).claim = none ∧ e.smc.heldBy c = 0 ∧ (e.chan c).wq = [] ∧ (e.chan c).rq = []
    let told (k : EndCounts) := let n := Notice.sessionEnded x.handle why none k
      ∀ p, p = x.owner ∨ p = .P → d.roomFor p n → n ∈ (e.port p).notices
    let setsBut := ∀ j, x.set ≠ some j → e.set? j = d.set? j
    (∀ b, x.kind = .backup b → why.allowsTrailer = false ∨ (b.wasActive = false ∧ b.state ≠ .aborting) →
      ended ∧ told .none ∧ setsBut ∧ ∀ i y, x.set = some i → d.set? i = some y → e.set? i = some
        (if y.state = .opened then { y with state := .aborted, digest := none, locator := none, inUse := none }
         else { y with inUse := none })) ∧
    (∀ v, x.kind = .verify v → ended ∧ told .none ∧ setsBut ∧ ∀ i y, x.set = some i → d.set? i = some y → e.set? i = some
      { y with
        inUse := none
        verify := if v.started then
            { y.verify with result := if 0 < y.verify.hard then .failed else .incomplete, day := some d.cat.day }
          else y.verify }) ∧
    (∀ r, x.kind = .restore r → ended ∧ told .none ∧ setsBut ∧ ∀ i y, x.set = some i → d.set? i = some y →
      e.set? i = some { y with inUse := none }) ∧
    (∀ r, x.kind = .rebuild r → ended ∧ (r.state ≠ .reading → told (rebuildCounts r) ∧ ∀ i y, d.set? i = some y →
      e.set? i = some (if y.inUse = some x.handle then { y with inUse := none } else y)))) ∧
  (∀ (d : Dev) (c : Chan) (x : Session) (b : Backup) (why : Reason), d.backup? c = some (x, b) → b.wasActive = true →
    b.state ≠ .aborting → why.allowsTrailer = true → d.smc.balanced →
    let e := d.abortSession c why
    let aborting := e.cat = d.cat ∧ (e.chan c).rq = [] ∧ ∃ x' b', e.backup? c = some (x', b') ∧ x'.handle = x.handle ∧
      b'.state = .aborting ∧ b'.ending = some (why, none) ∧ b'.credits = 0 ∧ b'.openFile = none ∧ b'.pendingClose = none
    ((d.writeInFlight c x.handle).isSome = true → aborting ∧ (e.chan c).wq = [] ∧ e.smc.heldBy c = 0) ∧
    ∀ i y g, (d.writeInFlight c x.handle).isSome = false → x.set = some i → d.set? i = some y → y.lastSegment = some g →
      (d.drive c).state = .ready → (d.drive c).unload = none → (d.drive c).pos ≠ none → (d.drive c).mounted = .cart g.cart →
      aborting ∧ (e.chan c).wq = [.trailer .abort] ∧ e.smc.heldBy c = 1)

/-- R158: GRANT adds receive credits to a restore up to 64, and frames held for want of one are looked at; 0, or more than 64 in
all, is answered BAD_REQUEST, and another kind of session BAD_STATE (the answer's count byte: log entry 9; the session named by the
frame's handle with a one-byte payload: log entry 10). R157 to R160: each delivery frame costs one credit. A record that passes is held
for delivery; one that fails is counted against its segment at once, the result being FAILED. With a credit and the link UP the current
file's FILE_HEAD is handed first, then its bytes, at most 4,096 in a frame and across two records where they straddle, then, when it has
ended, FILE_DONE, and the next file of the list becomes the current one. A file stops DAMAGED in a record that failed, is too
short, or is the last that failed. Which records are checked at all, and that a failed record leaves the file unfinished until its
delivery comes to the record, is log entry 50 (DEDUCED). -/
def Obligations.GrantAddsReceiveCredits : Prop :=
  (∀ (s : State) (f : Req) (c : Chan) (x : Session) (n : Byte), s.dev.takes f → f.payload = [n] → s.dev.names f c x →
    (∀ y, x.kind = .restore y → n.toNat ≠ 0 → y.credits + n.toNat ≤ 64 → exec (.grant f) s = .next { s with dev :=
      (((s.dev.begin.modRestore c fun y => { y with credits := y.credits + n.toNat }).answered f .grant .ok f.handle.toNat
        (leBytes 1 (y.credits + n.toNat))).push (.deliver c)).finish }) ∧
    (∀ y, x.kind = .restore y → (n.toNat = 0 ∨ 64 < y.credits + n.toNat) → exec (.grant f) s = .next { s with dev :=
      (s.dev.begin.answered f .grant .badRequest f.handle.toNat []).finish }) ∧
    ((∀ y, x.kind ≠ .restore y) → exec (.grant f) s = .next { s with dev :=
      (s.dev.begin.answered f .grant .badState f.handle.toNat []).finish })) ∧
  (∀ (d : Dev) (c : Chan) (x : Session) (y : Restore) (f : RestoreFile), d.restore? c = some (x, y) → y.readsIndex = false →
    y.currentFile = some f →
    let e := d.deliver c
    let hands (g : Delivery) := (e.port x.owner).path = (d.port x.owner).path ++ [.delivery x.handle x.serial g]
    let now (p : Restore → Prop) := ∃ x' y', e.restore? c = some (x', y') ∧ x'.handle = x.handle ∧ p y'
    let entry := if y.indexBad then none else d.fileEntry c f.file
    let may := 0 < y.credits ∧ (d.port x.owner).link = .up
    (∀ t, entry = some t → y.headSent = false → may →
      hands (.head f.file t.tag t.length y.restart) ∧
        now fun z => z = { y with credits := y.credits - 1, headSent := true, restart := false }) ∧
    (y.finished = true → (y.headSent = true ∨ entry = none) → (¬ may → e = d) ∧
      (may → hands (.done f.file f.outcome y.delivered y.crcMatched) ∧
        now fun z => z.credits = y.credits - 1 ∧ z.current = y.current + 1 ∧ z.restart = false)) ∧
    (∀ t, entry = some t → y.finished = false → y.headSent = true →
      let want := min 4096 (t.length - y.delivered)
      (∀ bs, d.holding c y t y.seq = .bytes bs → may →
        let here := (bs.drop y.off).take want
        (here.length = want → hands (.data here) ∧
          now fun z => z.credits = y.credits - 1 ∧ z.delivered = y.delivered + want ∧ z.crc = crc32Extend y.crc here) ∧
        ∀ bs', here.length < want → want - here.length ≤ bs'.length → d.holding c y t (y.seq + 1) = .bytes bs' →
          hands (.data (here ++ bs'.take (want - here.length))) ∧
            now fun z => z.credits = y.credits - 1 ∧ z.delivered = y.delivered + want) ∧
      (((∃ cause, d.holding c y t y.seq = .stopped cause) ∨ d.holding c y t y.seq = .short) →
        (e.port x.owner).path = (d.port x.owner).path ∧
          now fun z => z.finished = true ∧ z.credits = y.credits ∧ (z.files[y.current]?).map (·.outcome) = some .damaged))) ∧
  (∀ (d : Dev) (c half : Chan) (x : Session) (y : Restore) (i : SetIx) (z : BackupSet) (r : ReadEntry) (out : Option (List Byte)),
    d.restore? c = some (x, y) → d.setOf x = some (i, z) → y.state ≠ .readingIndex → d.needsRecord c y y.expect = true →
    let e := d.restoreRecord c half r out
    let now (p : Restore → Prop) := ∃ x' y', e.restore? c = some (x', y') ∧ p y'
    (∀ bs, out = some bs → checkRecord (readHeader r.bytes) .data z.tape y.expect out = none → e.cat = d.cat ∧
      now fun w => w = { y with
        inbox := y.inbox ++ [{ seq := y.expect, half := some half, length := bs.length }], expect := y.expect + 1 }) ∧
    ∀ cause, checkRecord (readHeader r.bytes) .data z.tape y.expect out = some cause →
      (∀ g, z.segmentOf y.expect = some g → e.set? i = some { z with
        verify := { z.verify.hardError g.ordinal y.expect cause with result := .failed, day := some d.cat.day } }) ∧
      now fun w => w = { y with
        inbox := y.inbox ++ [{ seq := y.expect, half := none, cause := some cause }]
        lastFailed := some y.expect, expect := y.expect + 1 })

/-! ### The catalogue's requests (R12 to R15, R20, R21, R24 to R28) -/

/-- R26, R27: a RECYCLE or ERASE that passes its checks returns the cartridge to SCRATCH and is answered OK. What an ERASE leaves:
from any state, SCRATCH with end position 0, no bytes written and SUSPECT and PROTECTED cleared; the entry of an ABSENT cartridge free;
every set not EXPIRED with a segment on it EXPIRED. An export mark names the cartridge whose entry is freed by its label from then on,
and an inventory goes on counting it as missing (log entries 61 and 62). -/
def Obligations.RecycleAndEraseAreTaken : Prop :=
  (∀ (s : State) (f : Req) (i : CartIx) (x : Cart), s.dev.takes f → s.dev.cart i = some x → s.dev.cartBusy i = false →
    s.dev.setInUseOn i = false →
    (∀ l, parseLabel f.payload = some l → s.dev.byLabel l = some i → (s.dev.cat.live.pool x.pool).allows f.port = true →
      x.state ≠ .foreign → ((s.dev.cat.live.pool x.pool).kind = .retained →
        ∀ e ∈ s.dev.liveSetsOn i, ∀ y, s.dev.set? e = some y → y.expiry ≤ s.dev.cat.day) →
      exec (.recycle f) s = .next { s with dev := (((s.dev.begin.joined f .recycle).recycleCart i).answer
        (s.dev.begin.newReq f .recycle) .ok).finish }) ∧
    (∀ n : Byte, f.port = .P → f.payload = [n] → n.toNat = i.val →
      exec (.erase f) s = .next { s with dev := (((s.dev.begin.joined f .erase).eraseCart i).answer
        (s.dev.begin.newReq f .erase) .ok).finish })) ∧
  ∀ (d : Dev) (i : CartIx) (x : Cart), d.cart i = some x → d.cat.carts.length = 64 → d.cat.sets.length = 256 →
    let e := d.eraseCart i
    let lost (j : CartIx) := ((d.liveSetsOn i).filter fun k => (d.set? k).any (·.onCart j)).length
    (x.location ≠ none → e.cart i = some { x with
      state := .scratch, endPos := 0, written := 0, suspect := false, writeProt := false, live := x.live - (d.liveSetsOn i).length }) ∧
    (x.location = none → e.cart i = none) ∧ e.liveSetsOn i = [] ∧
    (∀ k y, d.set? k = some y → e.set? k = some (if y.isLive && y.onCart i then { y with state := .expired } else y)) ∧
    (∀ k, d.set? k = none → e.entry k = d.entry k) ∧
    (∀ j, j ≠ i → e.cart j = (d.cart j).map fun y => { y with live := y.live - lost j }) ∧
    e.cat.places = d.cat.places ∧ e.cat.live = d.cat.live ∧ e.cat.staged = d.cat.staged ∧ e.cat.day = d.cat.day ∧
    e.cat.nextSet = d.cat.nextSet ∧ e.cfg = d.cfg ∧ e.smc = d.smc ∧ e.waitList = d.waitList ∧ e.lines = d.lines ∧
    e.mqu = (if x.location = none then d.mqu.entryFreed i x.label else d.mqu) ∧
    e.ch = d.ch ∧ e.pa = d.pa ∧ e.pb = d.pb ∧ e.pp = d.pp ∧ e.cst.slots = d.cst.slots ∧ e.cst.newest = d.cst.newest

/-- R26, R10: what a RECYCLE leaves of a cartridge that is not SCRATCH: SCRATCH with end position 0, no bytes written and no live
set; every set not EXPIRED with a segment on it is EXPIRED, and every other set is as it was. The live set count of each cartridge falls
by the number of those sets that name it. The places, the pool maps, the day and set numbers, the settings, the stage pages, the move
queue, the channels, the ports, the lines and the store's slots are as they were. -/
def Obligations.RecycledCartridgeIsScratchAndItsSetsExpired : Prop :=
  ∀ (d : Dev) (i : CartIx) (x : Cart), d.cart i = some x → x.state ≠ .scratch → d.cat.carts.length = 64 →
    d.cat.sets.length = 256 →
    let e := d.recycleCart i
    let lost (j : CartIx) := ((d.liveSetsOn i).filter fun k => (d.set? k).any (·.onCart j)).length
    e.cart i = some { x with state := .scratch, endPos := 0, written := 0, live := x.live - (d.liveSetsOn i).length } ∧
    e.liveSetsOn i = [] ∧
    (∀ k y, d.set? k = some y → e.set? k = some (if y.isLive && y.onCart i then { y with state := .expired } else y)) ∧
    (∀ k, d.set? k = none → e.entry k = d.entry k) ∧
    (∀ j, j ≠ i → e.cart j = (d.cart j).map fun y => { y with live := y.live - lost j }) ∧
    e.cat.places = d.cat.places ∧ e.cat.live = d.cat.live ∧ e.cat.staged = d.cat.staged ∧ e.cat.day = d.cat.day ∧
    e.cat.nextSet = d.cat.nextSet ∧ e.cfg = d.cfg ∧ e.smc = d.smc ∧ e.waitList = d.waitList ∧ e.lines = d.lines ∧ e.mqu = d.mqu ∧
    e.ch = d.ch ∧ e.pa = d.pa ∧ e.pb = d.pb ∧ e.pp = d.pp ∧ e.cst.slots = d.cst.slots ∧ e.cst.newest = d.cst.newest

/-- R13: POOLS from a client is answered NOT_OWNER; from the panel it stages the map it carries, with the locks of the live map, when
its boundaries rise, its kinds and owners are in their sets and no locked pool is changed; else it is answered BAD_REQUEST or
RETAINED and stages nothing. -/
def Obligations.PoolsStagesTheMap : Prop :=
  (∀ (s : State) (f : Req) (q : PoolsReq), s.dev.takes f → parsePools f.payload = some q →
    let refused (st : Status) : Prop :=
      exec (.pools f) s = .next { s with dev := (s.dev.begin.answered f .pools st f.handle.toNat []).finish }
    (f.port ≠ .P → refused .notOwner) ∧
    (f.port = .P → boundsOk q.b1 q.b2 q.b3 q.b4 = false → refused .badRequest) ∧
    (f.port = .P → stagedPools s.dev.cat.live q.pools = none → refused .badRequest) ∧
    ∀ ps, f.port = .P → boundsOk q.b1 q.b2 q.b3 q.b4 = true → stagedPools s.dev.cat.live q.pools = some ps →
      let m : PoolMap := { b1 := q.b1, b2 := q.b2, b3 := q.b3, b4 := q.b4, pools := ps }
      (locksKept s.dev.cat.live m = false → refused .retained) ∧
      (locksKept s.dev.cat.live m = true → exec (.pools f) s = .next { s with dev :=
        ((((s.dev.begin.modCat fun t => { t with staged := some m }).dirty 0).answered f .pools .ok f.handle.toNat []).push
          .poolsApply).finish })) ∧
  (∀ b1 b2 b3 b4, boundsOk b1 b2 b3 b4 = true ↔ b1 ≤ b2 ∧ b2 ≤ b3 ∧ b3 ≤ b4 ∧ b4 ≤ 24) ∧
  (∀ (live : PoolMap) (codes : List (Nat × Nat)), live.pools.length = 5 → codes.length = 5 →
    (stagedPools live codes = none ↔ ∃ x ∈ codes, 1 < x.1 ∨ 2 < x.2) ∧
    ∀ ps, stagedPools live codes = some ps → ps.map (·.lock) = live.pools.map (·.lock) ∧
      ps.map (·.kind.code) = codes.map (·.1) ∧ ps.map (·.owner.code) = codes.map (·.2)) ∧
  ∀ live staged : PoolMap, locksKept live staged = true ↔ ∀ k, k < 5 → (live.pool k).lock = true →
    staged.bound k = live.bound k ∧ staged.bound (k + 1) = live.bound (k + 1) ∧ (staged.pool k).kind = .retained

/-- R15, R28: LOCK_POOL from the panel sets the lock of a RETAINED pool while no map is staged; of a pool outside 0 to 4 it is answered
BAD_REQUEST, with a staged map or of a ROTATION pool BAD_STATE, and from a client NOT_OWNER. DAY sets the day number, and the
selections of the sessions that wait run again. Block 0 is marked dirty. R14: with no session on either channel a staged map is applied,
and with one it waits. Applied, it is the live map and no map is staged; the pool of every cartridge with a home is that of its home
slot, and every other cartridge and every set keeps its own; block 0 and the blocks of the cartridges whose pool changed are dirty;
POOLS_APPLIED goes to every port. -/
def Obligations.LockPoolAndDaySetTheirFields : Prop :=
  (∀ (s : State) (f : Req) (k : Byte), s.dev.takes f → f.payload = [k] →
    let n := k.toNat
    let m := s.dev.cat.live
    let gives (d : Dev) : Prop := exec (.lockPool f) s = .next { s with dev := d.finish }
    let answer (d : Dev) (st : Status) : Dev := d.answered f .lockPool st f.handle.toNat []
    (f.port ≠ .P → gives (answer s.dev.begin .notOwner)) ∧
    (f.port = .P →
      (4 < n → gives (answer s.dev.begin .badRequest)) ∧
      (n ≤ 4 → s.dev.cat.staged ≠ none → gives (answer s.dev.begin .badState)) ∧
      (n ≤ 4 → s.dev.cat.staged = none → (m.pool n).kind = .rotation → gives (answer s.dev.begin .badState)) ∧
      (n ≤ 4 → s.dev.cat.staged = none → (m.pool n).kind = .retained →
        ((m.pool n).lock = true → gives (answer s.dev.begin .ok)) ∧
        ((m.pool n).lock = false → gives (answer ((s.dev.begin.modCat fun t =>
          { t with live := { t.live with pools := t.live.pools.modify n fun p => { p with lock := true } } }).dirty 0) .ok))))) ∧
  (∀ (s : State) (f : Req) (n : Nat), s.dev.takes f → f.port = .P → parseWord f.payload = some n →
    exec (.day f) s = .next { s with dev :=
      ((((s.dev.begin.modCat fun t => { t with day := n }).dirty 0).answered f .day .ok f.handle.toNat []).push .select).finish }) ∧
  (∀ d : Dev,
    (d.cat.staged = none ∨ (∃ c, d.sess c ≠ none) → d.poolsTest = d) ∧
    ((∀ c, d.sess c = none) → d.poolsTest = d.applyPools)) ∧
  ∀ (d : Dev) (m : PoolMap), d.cat.staged = some m →
    let e := d.applyPools
    e.cat.live = m ∧ e.cat.staged = none ∧ e.cat.sets = d.cat.sets ∧ e.cat.places = d.cat.places ∧ e.cat.day = d.cat.day ∧
    e.cat.nextSet = d.cat.nextSet ∧ e.ch = d.ch ∧ e.mqu = d.mqu ∧ e.cfg = d.cfg ∧ e.smc = d.smc ∧ e.waitList = d.waitList ∧
    (∀ i, e.cart i = (d.cart i).map fun x => { x with pool := (x.home.map fun n => m.poolOf n.val).getD x.pool }) ∧
    (d.cst.dirty.length = 21 → e.cst.isDirty 0 = true ∧
      ∀ i x, d.cart i = some x → (e.cart i).map (·.pool) ≠ some x.pool → e.cst.isDirty (cartBlock i) = true) ∧
    ∀ p, d.roomFor p .poolsApplied → Notice.poolsApplied ∈ (e.port p).notices

/-- R192, R177: CONFIG stores each value it carries, taken to the nearest end of its range, and answers with every setting as it
stands; block 0 is marked dirty when any changed, and the door state is worked out again. NOTICE_MASK gives a port its twelve
enables, marks block 0 dirty and answers with the mask; a port value outside A, B and P is answered BAD_REQUEST. -/
def Obligations.ConfigAndMasksAreStored : Prop :=
  (∀ (s : State) (f : Req) (q : ConfigReq), s.dev.takes f → f.port = .P → parseConfig f.payload = some q →
    let g := s.dev.cfg.configured q
    let e : Dev := { s.dev.begin with cfg := g }
    exec (.config f) s = .next { s with dev := (((if g ≠ s.dev.cfg then e.dirty 0 else e).answered f .config .ok f.handle.toNat
      (settingsBytes g)).doorUpdate).finish }) ∧
  (∀ (s : State) (f : Req) (code : Nat) (m : List Bool), s.dev.takes f → f.port = .P → parseMask f.payload = some (code, m) →
    (∀ p, portOfCode code = some p → exec (.noticeMask f) s = .next { s with dev :=
      (({ s.dev.begin with cfg := s.dev.cfg.withMask m p }.dirty 0).answered f .noticeMask .ok f.handle.toNat
        (leBytes 2 (bitsNat m))).finish }) ∧
    (portOfCode code = none → exec (.noticeMask f) s = .next { s with dev :=
      (s.dev.begin.answered f .noticeMask .badRequest f.handle.toNat []).finish }))

/-- R20, R21: the number a new set is given is 1 to 65,535 and held by no set that is not EXPIRED, and the entry taken is the lowest
free or EXPIRED one, else the lowest LOST one. -/
def Obligations.NewSetTakesAFreshNumberAndTheLowestEntry : Prop :=
  ∀ d : Dev, 1 ≤ d.cat.nextSet → d.cat.nextSet ≤ 65535 →
    let n := d.allocNumber.1
    ((1 ≤ n ∧ n ≤ 65535) ∧ d.liveSet n = none ∧ d.allocNumber.2.cat.nextSet = if n = 65535 then 1 else n + 1) ∧
    ∀ e, d.freeEntry = some e →
      ((d.entry e).isFree = true ∧ ∀ k : SetIx, k < e → (d.entry k).isFree = false) ∨
      (d.entry e = .lost ∧ (∀ k : SetIx, (d.entry k).isFree = false) ∧ ∀ k : SetIx, k < e → d.entry k ≠ .lost)

/-- R24: selection for a new set takes an ACTIVE candidate mounted in the granted drive, else the ACTIVE candidate with the lowest
index, else (and for a continuation at once) the SCRATCH candidate with the lowest load count, of those the one with the lowest index,
else, in a ROTATION pool, the cartridge auto-recycle takes. R25: that one has no set before its expiry day, none in use and no claim; it
has the lowest rank, of those the lowest load count, and of those the lowest index. -/
def Obligations.SelectionTakesTheLeastWorn : Prop :=
  (∀ (d : Dev) (c : Chan) (h k : Nat),
    let active (i : CartIx) : Prop := d.candidate c h k i = true ∧ (d.cart i).any (·.state = .active) = true
    let later := (d.pickScratch c h k).orElse fun _ => if (d.cat.live.pool k).kind = .rotation then d.pickRecycle c k else none
    (∀ i, (d.drive c).mounted = .cart i → active i → d.pickTarget c h k false = some i) ∧
    (∀ i, (∀ j, (d.drive c).mounted = .cart j → ¬ active j) → active i → (∀ j, j < i → ¬ active j) →
      d.pickTarget c h k false = some i) ∧
    ((∀ i, ¬ active i) → d.pickTarget c h k false = later) ∧ d.pickTarget c h k true = later ∧
    ((∀ i, d.candidate c h k i = true → (d.cart i).any (·.state = .scratch) = false) → d.pickScratch c h k = none) ∧
    ((∀ i, d.recyclable c k i = false) → d.pickRecycle c k = none)) ∧
  (∀ (d : Dev) (c : Chan) (h k : Nat) (i : CartIx), d.pickScratch c h k = some i →
    let fits (j : CartIx) : Prop := d.candidate c h k j = true ∧ (d.cart j).any (·.state = .scratch) = true
    fits i ∧ ∀ j, fits j → d.loadsOf i < d.loadsOf j ∨ (d.loadsOf i = d.loadsOf j ∧ i ≤ j)) ∧
  (∀ (d : Dev) (c : Chan) (k : Nat) (i : CartIx), d.pickRecycle c k = some i →
    (∃ x, d.cart i = some x ∧ x.pool = k ∧ x.claim = none ∧ (x.state = .active ∨ x.state = .full) ∧ x.suspect = false ∧
      x.writeProt = false ∧ x.retired = false) ∧
    (d.cat.live.pool k).kind = .rotation ∧
    (∀ e y, d.set? e = some y → y.isLive = true → y.onCart i = true → y.expiry ≤ d.cat.day ∧ y.inUse = none) ∧
    ∀ j, d.recyclable c k j = true → d.recycleRank i < d.recycleRank j ∨ (d.recycleRank i = d.recycleRank j ∧
      (d.loadsOf i < d.loadsOf j ∨ (d.loadsOf i = d.loadsOf j ∧ i ≤ j))))

/-! ### Movement (R91 to R112, R187) -/

/-- R92: an order that is no scan and finds no waiting LOAD of its cartridge is taken at the tail of the queue, unless an order in
the queue names its cartridge or 16 are there: then it is refused and the queue is as it was. -/
def Obligations.MoveQueueAdmitsSixteenOrders : Prop :=
  ∀ (d : Dev) (o : Order), o.kind ≠ .scan → d.waitingLoad o = none →
    (d.cartNamed o = true ∨ 16 ≤ d.mqu.queue.length → d.offerOrder o = (d, .busy)) ∧
    (d.cartNamed o = false → d.mqu.queue.length < 16 →
      (d.offerOrder o).2 = .taken ∧ (d.offerOrder o).1 = (d.modMqu fun m => { m with queue := m.queue ++ [o] }).push .send)

/-- R107, R110: with no power hold, IMPORT and INVENTORY are answered OK at once, and the import or the full inventory starts. R104,
R187: STOP_RESUME lifts a STOP hold, empties the stop list and has each place on it scanned or asked for, the scans going first (log
entry 48; a place whose halted SCAN is still SENT, log entry 71); with no STOP hold it is answered BAD_STATE. What the start leaves. An
inventory: it runs, its counts at 0 or as the one it continues had them;
every place that exists is unconfirmed, every storage and mail slot is on the scan list or has a SCAN queued, and a STATUS of each drive
is wanted. An import: both mail slots are unconfirmed and marked for import, each on the scan list or with a SCAN that waits. No
occupant, cartridge, set or order changes. -/
def Obligations.ImportInventoryAndResumeStartAtOnce : Prop :=
  (∀ (s : State) (f : Req), s.dev.takes f → f.port = .P → f.payload = [] → s.dev.mqu.holdPower = false →
    exec (.importCarts f) s = .next { s with dev :=
      ((s.dev.begin.answered f .importCarts .ok f.handle.toNat []).startImport).finish } ∧
    exec (.inventory f) s = .next { s with dev :=
      ((s.dev.begin.answered f .inventory .ok f.handle.toNat []).startInventory).finish }) ∧
  (∀ (s : State) (f : Req), s.dev.takes f → f.port = .P → f.payload = [] →
    (s.dev.mqu.holdStop = true →
      let e := (s.dev.begin.joined f .stopResume).modMqu fun m =>
        { m with holdStop := false, stopList := [], first := m.first ++ m.stopList.filter (· ∈ allSlots) }
      exec (.stopResume f) s = .next { s with dev :=
        ((((s.dev.mqu.stopList.foldl Dev.checkPlace e).pushFront [.feedScan]).push .send).answer (s.dev.begin.newReq f .stopResume)
          .ok).finish }) ∧
    (s.dev.mqu.holdStop = false → exec (.stopResume f) s = .next { s with dev :=
      (s.dev.begin.answered f .stopResume .badState f.handle.toNat []).finish })) ∧
  ∀ d : Dev, d.cat.places.length = 28 →
    let same (e : Dev) := (∀ p, e.occ p = d.occ p) ∧ e.cat.carts = d.cat.carts ∧ e.cat.sets = d.cat.sets ∧
      e.mqu.queue = d.mqu.queue ∧ ∀ c, (e.drive c).state = (d.drive c).state
    let e := d.startInventory
    (same e ∧ e.mqu.inventory = true ∧ e.mqu.missing = (if d.mqu.inventory then d.mqu.missing else []) ∧
      e.mqu.missingErased = (if d.mqu.inventory then d.mqu.missingErased else 0) ∧
      e.mqu.registered = (if d.mqu.inventory then d.mqu.registered else 0) ∧
      (∀ p, d.placeExists p = true → e.confirmed p = false) ∧ (∀ p ∈ allSlots, p ∈ e.mqu.scanList ∨ e.scanQueued p = true) ∧
      ∀ c, (d.drive c).state ≠ .absent → (e.drive c).wants.other = true) ∧
    let e := d.startImport
    same e ∧ ∀ m : Fin 2, e.confirmed (.mail m) = false ∧ e.mqu.importMark.get (mailChan m) = true ∧
      (Place.mail m ∈ e.mqu.scanList ∨ ∃ o ∈ e.mqu.queue, o.kind = .scan ∧ o.src = .mail m ∧ o.state = .waiting) ∧
      ∀ p, (∀ m, p ≠ .mail m) → e.confirmed p = d.confirmed p

/-- R111, R112: with no power hold, EXPORT and RELOCATE of a cartridge that is not busy: from a storage slot an order for it is
offered; a cartridge already in a mail slot is marked for export there, one in a drive is unloaded first, and a RELOCATE to the
place the cartridge lies in is answered OK. -/
def Obligations.ExportAndRelocateOfferAnOrder : Prop :=
  ∀ (s : State) (f : Req) (l : Label) (i : CartIx), s.dev.takes f → f.port = .P → s.dev.mqu.holdPower = false →
    s.dev.byLabel l = some i → s.dev.cartBusy i = false →
    let at_ (p : Place) : Prop := (s.dev.cart i).bind (·.location) = some p
    let e := s.dev.begin.joined f .exportCart
    let r := s.dev.begin.newReq f .exportCart
    let e' := s.dev.begin.joined f .relocate
    let r' := s.dev.begin.newReq f .relocate
    (parseLabel f.payload = some l →
      (∀ n, at_ (.slot n) → exec (.exportCart f) s = .next { s with dev :=
        (e.offerForPanel r { kind := .exporting, cart := .cart i, src := .slot n, reqs := [.panel r] }).finish }) ∧
      (∀ m, at_ (.mail m) → exec (.exportCart f) s = .next { s with dev := ((e.markExport (.mail m) (some i)).answer r .ok).finish }) ∧
      (∀ c, at_ (.drive c) → ((s.dev.drive c).state = .ready ∨ (s.dev.drive c).state = .inserting) →
        (s.dev.drive c).claim = none → (s.dev.drive c).unload = none →
        exec (.exportCart f) s = .next { s with dev := (e.beginUnload c (some (.panel r))).finish })) ∧
    (∀ code p q, parseRelocate f.payload = some (l, code) → placeOfCode code = some p → (∀ c, p ≠ .drive c) → at_ q →
      (∀ c, q ≠ .drive c) →
      (q ≠ p → s.dev.occ p = .none → exec (.relocate f) s = .next { s with dev :=
        (e'.offerForPanel r' { kind := .relocate, cart := .cart i, src := q, dst := some p, reqs := [.panel r'] }).finish }) ∧
      (q = p → exec (.relocate f) s = .next { s with dev := (s.dev.begin.answered f .relocate .ok f.handle.toNat []).finish }))

/-- R77, R105, R190: CLEAR_FAULT of a unit in fault: a STATUS of the drive or of the changer is wanted and its end answers the
request, and one that comes meanwhile is answered BUSY (of a drive whose STATUS is not yet sent the model's choice, log entry 58); the store leaves
STORE_FAULT, and the request is answered when the first block's write ends (the model's choice, log entry 17), or at once when no block is
dirty. Of a unit not in fault it is answered BAD_STATE. That the unit byte is 0 to 3 is the model's choice, log entry 10. -/
def Obligations.ClearFaultAsksTheUnit : Prop :=
  ∀ (s : State) (f : Req), s.dev.takes f → f.port = .P →
    let e := s.dev.begin.joined f .clearFault
    let r := s.dev.begin.newReq f .clearFault
    let badState := s.dev.begin.answered f .clearFault .badState f.handle.toNat []
    let busy := s.dev.begin.answered f .clearFault .busy f.handle.toNat []
    (∀ c : Chan, f.payload = [if c = .ch0 then 0 else 1] →
      let asked := (s.dev.drive c).wants.clear ≠ none ∨ ∃ w n o, (s.dev.drive c).out = some ⟨.status w, n, o⟩ ∧ w.clear ≠ none
      ((s.dev.drive c).state = .fault → asked → exec (.clearFaultDrive f) s = .next { s with dev := busy.finish }) ∧
      ((s.dev.drive c).state = .fault → ¬ asked →
        exec (.clearFaultDrive f) s = .next { s with dev := ((e.modDrive c fun x =>
          { x with wants := x.wants.merge { clear := some r } }).push (.command c)).finish }) ∧
      ((s.dev.drive c).state ≠ .fault → exec (.clearFaultDrive f) s = .next { s with dev := badState.finish })) ∧
    (f.payload = [2] →
      (s.dev.mqu.changer = .fault → s.dev.mqu.clearReq = none → exec (.clearFaultChanger f) s = .next { s with dev :=
        ((e.modMqu fun m => { m with clearReq := some r, statusWant := true }).push .changerStatus).finish }) ∧
      (s.dev.mqu.changer = .fault → s.dev.mqu.clearReq ≠ none →
        exec (.clearFaultChanger f) s = .next { s with dev := busy.finish }) ∧
      (s.dev.mqu.changer ≠ .fault → exec (.clearFaultChanger f) s = .next { s with dev := badState.finish })) ∧
    (f.payload = [3] →
      (s.dev.cst.fault = true → s.dev.cst.dirty.any (· = true) = true → exec (.clearFaultStore f) s = .next { s with dev :=
        ((e.modCst fun t => { t with fault := false, clear := some r }).push .flush).finish }) ∧
      (s.dev.cst.fault = true → s.dev.cst.dirty.any (· = true) = false → exec (.clearFaultStore f) s = .next { s with dev :=
        ((s.dev.begin.modCst fun t => { t with fault := false }).answered f .clearFault .ok f.handle.toNat []).finish }) ∧
      (s.dev.cst.fault = false → exec (.clearFaultStore f) s = .next { s with dev := badState.finish }))

/-- R97 to R100: a MOVE completes under the tag of the message outstanding: no message is outstanding and the picker timer stops. OK:
the order's move is applied from its source to its destination. FROM_EMPTY: the source is unconfirmed and looked at again, and the order
fails with cause NO_CARTRIDGE. TO_OCCUPIED: the destination is unconfirmed, UNREGISTERED where none was recorded, and looked at again; an
order that chose its destination at send is tried again, up to two times, and any other fails with cause BAD_STATE. GRIP_FAULT: source
and destination are unconfirmed, the order fails with cause FAULT, and the changer enters FAULT. DOOR_OPEN: the order waits again. -/
def Obligations.MoveCompletionAppliesTheOrder : Prop :=
  ∀ (s : State) (tag : Nat) (o : Order) (p : Place), s.dev.mqu.stale ≠ some tag → s.dev.mqu.sent = some ⟨tag, .order⟩ →
    s.dev.sentOrder = some o → o.kind ≠ .scan → o.dst = some p →
    let e := s.dev.begin.modMqu fun m => { m with sent := none, picker := none }
    let gives (k : MoveKind) (d : Dev) := exec (.moveCompletion tag k) s = .next { s with dev :=
      ((d.push .send).push .changerStatus).finish }
    gives .ok (e.moveDone o p) ∧
    gives .fromEmpty (((e.setConfirmed o.src false).checkPlace o.src).failOrder o .noCartridge) ∧
    (let b := ((if e.occ p = .none then e.setOcc p .unregistered else e).setConfirmed p false).checkPlace p
      let again := (o.kind = .unload ∨ o.kind = .importing ∨ o.kind = .exporting) ∧ o.retry < 2
      (again → gives .toOccupied (b.requeue o (o.retry + 1))) ∧ (¬ again → gives .toOccupied (b.failOrder o .badState))) ∧
    gives .gripFault ((((e.setConfirmed o.src false).setConfirmed p false).failOrder o .fault).changerFault) ∧
    gives .doorOpen (e.requeue o o.retry)

/-- R98, R1, R72, R96, R110: what an OK MOVE of a registered cartridge leaves, for a LOAD, UNLOAD, IMPORT, EXPORT and RELOCATE alike: the
cartridge is at the destination and the source has no occupant; both places are confirmed when the order was not halted, but for a drive
place whose drive was not EMPTY; every other place is as it was. A LOAD into an EMPTY drive leaves it INSERTING with the cartridge mounted
and loaded once more, claimed when it is the session cartridge of the session that claims the drive (log entry 47). A cartridge with no
home gets the storage slot it comes to rest in. An EXPORT marks its mail slot, an IMPORT or RELOCATE clears its source's mark, and an
UNLOAD for an EXPORT marks the mail slot or has the EXPORT take its place. The order leaves the queue. -/
def Obligations.MovedCartridgeIsAtItsDestination : Prop :=
  ∀ (d : Dev) (o : Order) (i : CartIx) (x : Cart) (p : Place), o.kind ≠ .scan → o.cart = .cart i → o.src ≠ p → d.cart i = some x →
    x.location = some o.src → d.occ o.src = .cart i → d.cat.places.length = 28 → d.cat.carts.length = 64 →
    let e := d.moveDone o p
    let busyDrive := o.kind = .load ∧ ∃ c, p = .drive c ∧ (d.drive c).state ≠ .empty
    let exports (q : ReqId) := o.kind = .unload ∧ o.reqs = [.panel q]
    (e.cart i).bind (·.location) = some p ∧ e.occ o.src = .none ∧ e.occ p = .cart i ∧
    (o.halted = false → e.confirmed o.src = true ∧ (¬ busyDrive → e.confirmed p = true)) ∧ (busyDrive → e.confirmed p = false) ∧
    (∀ q, q ≠ o.src → q ≠ p → e.place q = d.place q) ∧
    (∀ c, o.kind = .load → p = .drive c → (d.drive c).state = .empty →
      ((e.drive c).state = .inserting ∧ (e.drive c).mounted = .cart i ∧ (e.drive c).pos = none ∧ (e.drive c).insertTimer = some 180000) ∧
      (e.cart i).map (·.loads) = some (satInc x.loads) ∧
      ∀ h s, (d.drive c).claim = some h → d.sess c = some s → s.handle = h → s.cart = some i →
        (e.cart i).bind (·.claim) = some h) ∧
    (∀ n, p = .slot n → o.kind = .unload ∨ o.kind = .importing ∨ o.kind = .relocate →
      (x.home = none → (e.cart i).bind (·.home) = some n ∧ (e.cart i).map (·.pool) = some (d.cat.live.poolOf n.val)) ∧
      (x.home ≠ none → (e.cart i).bind (·.home) = x.home)) ∧
    (∀ m, o.kind = .exporting → p = .mail m → e.mqu.exportMark.get (mailChan m) = some (.cart i)) ∧
    (∀ m, o.kind = .importing ∨ o.kind = .relocate → o.src = .mail m → e.mqu.exportMark.get (mailChan m) = none) ∧
    (∀ q m, exports q → p = .mail m → e.mqu.exportMark.get (mailChan m) = some (.cart i)) ∧
    (∀ q n, exports q → p = .slot n → o ∈ d.mqu.queue →
      { kind := .exporting, cart := .cart i, src := p, reqs := [.panel q] } ∈ e.mqu.queue) ∧
    (o.kind ≠ .unload ∨ (∀ r ∈ o.reqs, ∀ q, r ≠ .panel q) ∨ (∃ m, p = .mail m) → e.mqu.queue = d.mqu.queue.erase o)

/-- R100, R108, R109: a SCAN that shows its place empty: a registered cartridge recorded there is displaced, the place has no occupant,
and it is confirmed when the order was not halted. One that reads a label, or none, is reconciled, a label that R97 does not allow being
taken as none; with DOOR_OPEN the order waits again. What the label of a registered cartridge leaves: the cartridge is recorded where it
was scanned, and the place it was recorded at, when it was not confirmed, is scanned next; when that place is confirmed or a drive place,
the scanned place holds an UNREGISTERED cartridge. A label that no entry holds, or no label at a place that records no unlabelled
cartridge, registers a FOREIGN cartridge in the lowest free entry; with none free the occupant is UNREGISTERED and TABLE_FULL goes to port P.
A mail slot's export mark goes when the scan shows EMPTY or another label than its cartridge's, and stays when it shows that label; one whose
entry ERASE has freed is known by its label (log entry 61). -/
def Obligations.EmptyScanClearsThePlace : Prop :=
  (∀ (s : State) (tag : Nat) (o : Order), s.dev.mqu.stale ≠ some tag → s.dev.mqu.sent = some ⟨tag, .order⟩ →
    s.dev.sentOrder = some o → o.kind = .scan →
    let e := s.dev.begin.modMqu fun m => { m with sent := none, picker := none }
    let gives (k : ScanKind) (d : Dev) := exec (.scanCompletion tag k) s = .next { s with dev :=
      ((d.push .send).push .changerStatus).finish }
    let shows (k : ScanKind) (d : Dev) :=
      let d := d.checkExportMark o.src k
      let d := if o.halted then d else d.setConfirmed o.src true
      gives k (((d.dropOrder o).tell o .ok).importScanned o.src)
    shows .empty ((e.displaceAt o.src).setOcc o.src .none) ∧
    (∀ l, shows (.label l) (if labelOk l then e.scanLabel o.src l else e.scanNoLabel o.src)) ∧
    shows .noLabel (e.scanNoLabel o.src) ∧ gives .doorOpen (e.requeue o o.retry)) ∧
  ∀ (d : Dev) (p : Place), d.cat.places.length = 28 → d.cat.carts.length = 64 →
    (∀ q j, d.occ q = .cart j → ∃ y, d.cart j = some y ∧ y.location = some q) →
    let registers (e : Dev) (l : Option Label) :=
      (∀ k, d.cart k = none → (∀ j, j < k → d.cart j ≠ none) → e.occ p = .cart k ∧
        ∃ z, e.cart k = some z ∧ z.label = l ∧ z.location = some p ∧ z.state = .foreign ∧
          ∀ n, p = .slot n → z.home = some n ∧ z.pool = d.cat.live.poolOf n.val) ∧
      ((∀ k, d.cart k ≠ none) → e.occ p = .unregistered ∧ (d.pp.link = .up → d.pp.notices.length < 16 →
        d.cfg.maskP.getD (Notice.tableFull p).index true = true → Notice.tableFull p ∈ e.pp.notices))
    let displaced (e : Dev) (i : Option CartIx) := ∀ j, d.occ p = .cart j → some j ≠ i → (e.cart j).bind (·.location) = none
    (∀ l i x, d.byLabel l = some i → d.cart i = some x →
      let e := d.scanLabel p l
      (x.location = none → e.occ p = .cart i ∧ (e.cart i).bind (·.location) = some p ∧ displaced e (some i)) ∧
      (x.location = some p → (∀ c, p ≠ .drive c) → e = d) ∧
      ∀ q, x.location = some q → q ≠ p →
        ((∃ c, q = .drive c) ∨ d.confirmed q = true → e.occ p = .unregistered ∧ displaced e (some i) ∧
          e.cart i = d.cart i) ∧
        ((∀ c, q ≠ .drive c) → d.confirmed q = false → e.occ p = .cart i ∧ (e.cart i).bind (·.location) = some p ∧
          displaced e (some i) ∧ (d.occ q = .cart i → e.occ q = .none) ∧ (q ∈ e.mqu.scanList ∨ e.scanQueued q = true))) ∧
    (∀ l, d.byLabel l = none → registers (d.scanLabel p l) (some l) ∧ displaced (d.scanLabel p l) none) ∧
    (∀ i x, d.occ p = .cart i → d.cart i = some x → x.label = none → d.scanNoLabel p = d) ∧
    ((∀ i x, d.occ p = .cart i → d.cart i = some x → x.label ≠ none) →
      registers (d.scanNoLabel p) none ∧ displaced (d.scanNoLabel p) none) ∧
    ∀ m, p = .mail m →
      let mark (e : Dev) := e.mqu.exportMark.get (mailChan m)
      mark (d.reconcile p .empty) = none ∧
      ∀ l, labelOk l = true →
        (∀ i x, mark d = some (.cart i) → d.cart i = some x → x.label ≠ none → (∀ j y, d.cart j = some y → y.label = x.label → j = i) →
          mark (d.reconcile p (.label l)) = if x.label = some l then some (.cart i) else none) ∧
        ∀ t, mark d = some (.erased t) → mark (d.reconcile p (.label l)) = if t = some l then some (.erased t) else none

/-- R102: an answered STATUS makes the changer READY; one answered NOT_READY puts a changer that is not in FAULT there, and answers a
CLEAR_FAULT with FAULT. R105: an answered STATUS of a CLEAR_FAULT also lifts the changer's hold, has every unconfirmed storage and mail
slot scanned, and answers OK. R100: the picker timer's expiry ends the message outstanding: an order fails with cause FAULT and the
changer is in FAULT; a STATUS ends as one not answered. R94: the settle timer's expiry marks the drive settled. -/
def Obligations.ChangerStatusAndTimersAreTaken : Prop :=
  (∀ (s : State) (tag : Nat), s.dev.mqu.stale ≠ some tag → s.dev.mqu.sent = some ⟨tag, .status⟩ →
    let e := s.dev.begin.modMqu fun m => { m with sent := none, picker := none }
    (s.dev.mqu.clearReq = none → exec (.changerStatusCompletion tag true) s = .next { s with dev :=
      ((((e.modMqu fun m => { m with changer := .ready }).push .send).push .send).push .changerStatus).finish }) ∧
    (s.dev.mqu.clearReq = none → s.dev.mqu.changer ≠ .fault → exec (.changerStatusCompletion tag false) s = .next { s with dev :=
      (((e.modMqu fun m => { m with changer := .fault, holdFault := true }).noticeAll (.fault .changer none)).push .send |>.push
        .changerStatus).finish }) ∧
    (∀ r, s.dev.mqu.clearReq = some r →
      let d := e.modMqu fun m => { m with clearReq := none, changer := .ready, holdFault := false }
      exec (.changerStatusCompletion tag true) s = .next { s with dev :=
        ((((((allSlots.filter fun p => !d.confirmed p).foldl (fun d p => d.joinScan false p) d).answer r .ok).push .send).push
          .send).push .changerStatus).finish }) ∧
    (∀ r, s.dev.mqu.clearReq = some r → exec (.changerStatusCompletion tag false) s = .next { s with dev :=
      ((((e.modMqu fun m => { m with clearReq := none }).answer r .fault).push .send).push .changerStatus).finish })) ∧
  (∀ s : State, s.dev.mqu.picker ≠ none →
    let e := s.dev.begin.modMqu fun m => { m with sent := none, picker := none }
    (∀ t o, s.dev.mqu.sent = some ⟨t, .order⟩ → s.dev.sentOrder = some o → exec .pickerTimerExpiry s = .next { s with dev :=
      (((e.orderFault o).push .send).push .changerStatus).finish }) ∧
    (∀ t, s.dev.mqu.sent = some ⟨t, .status⟩ → exec .pickerTimerExpiry s = .next { s with dev :=
      (((e.changerAnswered false).push .send).push .changerStatus).finish })) ∧
  (∀ (s : State) (c : Chan), s.dev.mqu.settle.get c ≠ none → exec (.settleTimerExpiry c) s = .next { s with dev :=
    ((s.dev.begin.modMqu fun m => { m with settle := m.settle.set c none, settled := m.settled.set c true }).push .send).finish })

/-! ### Library lines (R182 to R187) -/

/-- R183 to R187: a change of a line's raw input starts its debounce timer of 20 ms again, and the level it already shows changes
nothing; the timer's expiry makes the raw input the line's level, and an edge has the effect of the line's function. R104, R187:
what a STOP event leaves: HALT is sent when the changer is READY, and the STOP hold is set. An order that is SENT and not yet halted is
halted, its source and destination are unconfirmed and stand on the stop list; nothing else changes. With no such order nothing but the
hold changes. -/
def Obligations.LineInputsAreDebounced : Prop :=
  (∀ (s : State) (l : Fin 4) (v : Level),
    ((s.dev.line l).raw ≠ v → exec (.lineInputChange l v) s = .next { s with dev :=
      (s.dev.begin.setLine l { s.dev.line l with raw := v, timer := some 20 }).finish }) ∧
    ((s.dev.line l).raw = v → exec (.lineInputChange l v) s = .next { s with dev := s.dev.begin.finish })) ∧
  (∀ (s : State) (l : Fin 4), (s.dev.line l).timer ≠ none →
    let x := s.dev.line l
    let e := s.dev.begin.setLine l { x with level := x.raw, timer := none }
    let gives (d : Dev) : Prop := exec (.debounceTimerExpiry l) s = .next { s with dev := d.finish }
    (x.raw = x.level → gives e) ∧
    (s.dev.phase = .running → x.raw ≠ x.level →
      (s.dev.cfg.fn l = .none → gives e) ∧
      (s.dev.cfg.fn l = .door → gives e.doorUpdate) ∧
      (s.dev.cfg.fn l = .powerFail → gives (if x.raw = .low then e.powerFail else e)) ∧
      (s.dev.cfg.fn l = .mailRequest → gives (if x.raw = .low then e.mailRequest else e)) ∧
      (s.dev.cfg.fn l = .stop → gives (if x.raw = .low then e.stopEvent else e)))) ∧
  ∀ d : Dev, d.cat.places.length = 28 →
    let e := d.stopEvent
    e.sent = d.sent ++ (if d.mqu.changer = .ready then [.halt] else []) ∧ e.mqu.holdStop = true ∧ e.cat.carts = d.cat.carts ∧
    e.cat.sets = d.cat.sets ∧ (∀ p, e.occ p = d.occ p) ∧ e.ch = d.ch ∧ e.cfg = d.cfg ∧ e.smc = d.smc ∧ e.waitList = d.waitList ∧
    e.pa = d.pa ∧ e.pb = d.pb ∧ e.pp = d.pp ∧ e.cst = d.cst ∧ e.lines = d.lines ∧
    ((∀ o, d.sentOrder = some o → o.halted = true) → e.mqu = { d.mqu with holdStop := true } ∧ e.cat = d.cat) ∧
    ∀ o, d.sentOrder = some o → o.halted = false →
      let its (p : Place) : Prop := p = o.src ∨ o.dst = some p
      e.mqu = { d.mqu with
        holdStop := true, stopList := e.mqu.stopList
        queue := d.mqu.queue.map fun x => if x = o then { o with halted := true } else x } ∧
      (∀ p, p ∈ e.mqu.stopList ↔ p ∈ d.mqu.stopList ∨ its p) ∧
      ∀ p, (its p → e.confirmed p = false) ∧ (¬ its p → e.confirmed p = d.confirmed p)

/-- R184: the door is OPEN exactly while the level of some DOOR line is LOW, and the door hold follows it. R185: a power-fail event
sets the power hold and begins a flush pass; when the hold is there already it is taken no further. -/
def Obligations.DoorAndPowerFollowTheirLines : Prop :=
  (∀ d : Dev, (d.doorUpdate.doorOpen = true ↔ ∃ l : Fin 4, d.cfg.fn l = .door ∧ (d.line l).level = .low) ∧
    (d.doorOpen ≠ d.doorUpdate.doorOpen → d.doorUpdate.mqu.holdDoor = d.doorUpdate.doorOpen)) ∧
  (∀ d : Dev,
    (d.mqu.holdPower = true → d.powerFail = d) ∧
    (d.mqu.holdPower = false →
      let e := d.powerFail
      e.mqu = { d.mqu with holdPower := true } ∧ (∃ p, e.cst = { d.cst with pass := some p }) ∧ Todo.flush ∈ e.todo ∧ e.ch = d.ch ∧
        e.cat = d.cat ∧ e.cfg = d.cfg ∧ e.smc = d.smc))

/-! ### The drive links (R69 to R77, R85 to R87) -/

/-- R69: a completion that carries a number other than the outstanding command's is discarded without effect; with nothing left to
follow, the state is as it was. R90: one left over from before a RESET request is discarded too, and the drive may then be sent a
command. -/
def Obligations.CompletionsCarryTheCommandNumber : Prop :=
  ∀ (s : State) (c : Chan) (n : Nat) (a : StatusAnswer) (k : DriveKind) (bytes : List Byte),
    ∀ i ∈ [Instr.statusCompletion c n a, .locateCompletion c n k, .rewindCompletion c n k, .writeCompletion c n k,
        .readCompletion c n k bytes, .speedCompletion c n k, .ejectCompletion c n k],
      ((s.dev.drive c).stale ≠ some n → (∀ o, (s.dev.drive c).out = some o → o.num ≠ n) → s.dev.todo = [] →
        exec i s = .next { s with dev := { s.dev with sent := [] } }) ∧
      ((s.dev.drive c).stale = some n → exec i s = .next { s with dev :=
        ((s.dev.begin.modDrive c fun x => { x with stale := none, cmdTimer := none }).push (.command c)).finish })

/-- R73, R75, R77, R87: what a STATUS answer does in each state of the drive. The requests that wait for a retry of an UNLOAD are
answered as failed unless EJECTED hands the cartridge over; a CLEAR_FAULT answered LOADED leaves the drive READY with the occupant of
its place mounted at an unknown position. NO_MEDIA and NOT_READY fail the STATUS. That the grant rule follows a start-up answer of NONE
is the model's choice, log entry 21; what NO_MEDIA does to a STATUS, log entry 22; that an answer in FAULT that no CLEAR_FAULT asked for
confirms the place, log entry 63; what is answered and offered again, log entries 26 and 39. -/
def Obligations.StatusAnswersReachTheDrive : Prop :=
  ∀ (s : State) (c : Chan) (o : Outstanding) (w : Wants), s.dev.awaits c o → o.cmd = .status w →
    let e := s.dev.begin.commandEnded c
    let st := (s.dev.drive c).state
    let full := e.reconcileDrive c true
    let bare := e.reconcileDrive c false
    let fullTold := full.dropRetry w.retry
    let bareTold := bare.dropRetry w.retry
    let gives (a : StatusAnswer) (d : Dev) : Prop :=
      exec (.statusCompletion c o.num a) s = .next { s with dev := (d.push (.command c)).finish }
    (st = .unknown → gives .none (((bare.modDrive c fun x => { x with state := .empty }).push .grantRule).look) ∧
      gives .ejected (full.startUpUnload c) ∧ ∀ cap rate, gives (.loaded cap rate) (full.startUpUnload c)) ∧
    (st = .empty → gives .none bareTold ∧ gives .ejected (full.handOver c w.retry) ∧ ∀ cap rate, gives (.loaded cap rate) fullTold) ∧
    (st = .inserting → gives .none (bareTold.driveFault c) ∧ gives .ejected fullTold ∧
      ∀ cap rate, gives (.loaded cap rate) (fullTold.threaded c cap rate)) ∧
    (st = .ready ∨ st = .ejecting → gives .none (bareTold.driveFault c) ∧ gives .ejected fullTold ∧
      ∀ cap rate, gives (.loaded cap rate) fullTold) ∧
    (st = .fault → w.clear = none → gives .none bareTold ∧ (w.retry = none → gives .ejected full) ∧
      (w.retry ≠ none → gives .ejected (full.handOver c w.retry)) ∧ ∀ cap rate, gives (.loaded cap rate) fullTold) ∧
    (st = .fault → ∀ r, w.clear = some r →
      gives .none ((((bareTold.modDrive c fun x => { x with state := .empty }).answer r .ok).push .grantRule).look) ∧
      gives .ejected
        (((((full.modDrive c fun x => { x with state := .empty }).handOver c w.retry).answer r .ok).push .grantRule).look) ∧
      ∀ cap rate, gives (.loaded cap rate) (((((fullTold.modDrive c fun x =>
        { x with state := .ready, pos := none, rate := some rate, speed := some 8, speedPending := false
                 mounted := full.occ (.drive c) }).startIdle c).answer r .ok).push .grantRule).look)) ∧
    gives (.kind .notReady) ((((e.setPos c none).dropRetry w.retry).driveFault c).answerOpt w.clear .fault) ∧
    (st = .unknown → gives (.kind .noMedia) ((((e.setPos c none).dropRetry w.retry).driveFault c).answerOpt w.clear .fault)) ∧
    (st ≠ .unknown → gives (.kind .noMedia) (((e.dropRetry w.retry).noMedia c).answerOpt w.clear .fault))

/-- R1, R2, R73: what the STATUS answer leaves of the drive place: it is confirmed; shown empty, its occupant is NONE and a
registered cartridge recorded there is ABSENT; shown occupied, its occupant stays, or is UNREGISTERED where none was recorded. That an
answer in FAULT that no CLEAR_FAULT asked for confirms the place too is log entry 63. -/
def Obligations.StatusConfirmsTheDrivePlace : Prop :=
  ∀ (d : Dev) (c : Chan) (present : Bool), d.cat.places.length = 28 →
    let p := Place.drive c
    let e := d.reconcileDrive c present
    e.confirmed p = true ∧
    (present = true → e.occ p = (if d.occ p = .none then .unregistered else d.occ p) ∧ e.cat.carts = d.cat.carts) ∧
    (present = false → e.occ p = .none ∧
      ∀ i x, d.occ p = .cart i → d.cart i = some x → e.cart i = some { x with location := none }) ∧
    (∀ q, q ≠ p → (∀ i x, d.occ p = .cart i → d.cart i = some x → x.location = some p) → e.place q = d.place q) ∧ e.ch = d.ch

/-- R70, R86, R87: LOCATE, REWIND, SPEED and EJECT complete: the position each leaves, the step of the session or the unload that
follows, and the drive FAULT that NOT_READY brings, or NO_MEDIA in a drive that holds a cartridge. That a session's REWIND that ends BLANK
or END_OF_MEDIA is a positioning that failed as by HARD_READ is the model's choice, log entry 24, and so is the NO_CARTRIDGE answer of an
EJECT that ends NO_MEDIA, log entry 26. -/
def Obligations.MotionCommandsComplete : Prop :=
  ∀ (s : State) (c : Chan) (o : Outstanding), s.dev.awaits c o →
    let e := s.dev.begin.commandEnded c
    let gives (i : Instr) (d : Dev) : Prop := exec i s = .next { s with dev := (d.push (.command c)).finish }
    let reqs := ((s.dev.drive c).unload.bind (·.req)).toList
    let moves (x : Session) : Prop := s.dev.sess c = some x ∧ o.owner = some x.handle ∧ (x.positioning || x.relocating) = true
    (∀ p, o.cmd = .locate p →
      (o.owner = none → gives (.locateCompletion c o.num .ok) (e.setPos c (some p))) ∧
      ∀ x, moves x → x.goal = some p → gives (.locateCompletion c o.num .ok) ((e.setPos c (some p)).arrived c) ∧
        gives (.locateCompletion c o.num .blank) ((e.setPos c none).missed c true) ∧
        gives (.locateCompletion c o.num .hardRead) ((e.setPos c none).missed c false)) ∧
    (o.cmd = .rewind false → ∀ x, moves x → x.goal = some 0 →
      gives (.rewindCompletion c o.num .ok) ((e.setPos c (some 0)).arrived c) ∧
      ∀ k ∈ [DriveKind.blank, .hardRead, .endOfMedia], gives (.rewindCompletion c o.num k) ((e.setPos c none).missed c false)) ∧
    (o.cmd = .rewind true → gives (.rewindCompletion c o.num .ok) ((e.setPos c (some 0)).unloadRewound c) ∧
      ∀ k ∈ [DriveKind.blank, .hardRead, .endOfMedia], gives (.rewindCompletion c o.num k) ((e.setPos c none).unloadRewound c)) ∧
    (∀ v, o.cmd = .speed v → gives (.speedCompletion c o.num .ok) e) ∧
    (o.cmd = .eject → gives (.ejectCompletion c o.num .ok) (((e.ejected c).startSettle c).offerUnload c reqs) ∧
      gives (.ejectCompletion c o.num .noMedia) ((e.ejected c).wantStatus c { retry := some ⟨reqs, .noCartridge⟩ })) ∧
    ∀ k, k = .notReady ∨ (k = .noMedia ∧ ((s.dev.drive c).state = .ready ∨ (s.dev.drive c).state = .ejecting)) →
      let faulted := (e.setPos c none).driveFault c
      (∀ p, o.cmd = .locate p → gives (.locateCompletion c o.num k) faulted) ∧
      (∀ u, o.cmd = .rewind u → gives (.rewindCompletion c o.num k) faulted) ∧
      (∀ v, o.cmd = .speed v → gives (.speedCompletion c o.num k) faulted) ∧
      (∀ r p, o.cmd = .write r p → gives (.writeCompletion c o.num k) faulted) ∧
      (o.cmd = .read → ∀ bytes, gives (.readCompletion c o.num k bytes) faulted) ∧
      (o.cmd = .eject → k = .notReady → gives (.ejectCompletion c o.num k) faulted)

/-- R60, R63, R70, R127: a WRITE and a READ complete for the session that sent them: the position moves on by one record, or is
unknown after a failed WRITE; the session is told, or, the session gone, nothing more follows. R165 to R167: what a rebuild makes of a
record read with data. One whose header check fails is skipped and counted as a hard error, the sixteenth in a row ending the session. A
DATA record that passes begins a group, or joins the current group of its tape number and ordinal. A group that joins an entry becomes a
segment of it in ordinal order, the DATA records and stored bytes add up, and a CLOSE trailer gives its figures; joined as the highest
ordinal it leaves the entry ABORTED when the ordinals run from 1 without a gap and it ended ABORT or none, else RECOVERED. R17: an
ABORTED entry has no index locator; INDEX_MISSING marks an entry without one. The size of a record whose header check fails (log
entry 53), the first sequence of a group that has none (log entry 52) and the locator kept for a later join (log entry 51) are the
model's choice. -/
def Obligations.RecordsAreWrittenAndRead : Prop :=
  (∀ (s : State) (c : Chan) (o : Outstanding), s.dev.awaits c o →
    let e := s.dev.begin.commandEnded c
    let gives (i : Instr) (d : Dev) : Prop := exec i s = .next { s with dev := (d.push (.command c)).finish }
    let mine := ∃ x, s.dev.sess c = some x ∧ o.owner = some x.handle
    let after (p : Nat) := e.setPos c (some (narrow32 (p + 1)))
    let read := e.setPos c ((s.dev.drive c).pos.map fun p => narrow32 (p + 1))
    (∀ r p, o.cmd = .write r p → mine →
      gives (.writeCompletion c o.num .ok) ((after p).wrote c r p false) ∧
      gives (.writeCompletion c o.num .okWarning) ((after p).wrote c r p true) ∧
      gives (.writeCompletion c o.num .writeProtected) (e.writeFailed c r true) ∧
      ∀ k ∈ [DriveKind.hardWrite, .endOfMedia], gives (.writeCompletion c o.num k) ((e.setPos c none).writeFailed c r false)) ∧
    (∀ r p, o.cmd = .write r p → ¬ mine → gives (.writeCompletion c o.num .ok) (after p)) ∧
    (o.cmd = .read → mine → ∀ bytes,
      (∀ k ∈ [DriveKind.ok, .softRecovered], gives (.readCompletion c o.num k bytes) (read.fillRead c k bytes)) ∧
      gives (.readCompletion c o.num .hardRead bytes) (read.fillRead c .hardRead []) ∧
      ∀ k ∈ [DriveKind.blank, .endOfMedia], gives (.readCompletion c o.num k bytes) (e.fillRead c k [])) ∧
    (o.cmd = .read → ¬ mine → ∀ bytes, gives (.readCompletion c o.num .ok bytes) read)) ∧
  (∀ (d : Dev) (c : Chan) (x : Session) (b : Rebuild) (r : ReadEntry), d.rebuild? c = some (x, b) →
    let h := readHeader r.bytes
    let now (e : Dev) (p : Rebuild → Prop) := ∃ x' b', e.rebuild? c = some (x', b') ∧ p b'
    (h.check = false → ∀ out, let e := d.rebuildRecord c r out
      (b.hardRun + 1 < 16 → e.cat = d.cat ∧ now e fun z => z = { b with
        lastPos := r.pos + 1, storedSum := b.storedSum + r.bytes.length, hardRun := b.hardRun + 1, skipped := b.skipped + 1 }) ∧
      (16 ≤ b.hardRun + 1 → e.sess c = none ∧ (e.drive c).claim = none)) ∧
    ∀ bs, h.check = true → h.kind = some .data → 1 ≤ h.ordinal → h.ordinal ≤ 4 → h.tape ≠ 0 → crc32 bs = h.rawCrc →
      let e := d.rebuildRecord c r (some bs)
      let counted (g : Group) (z : Rebuild) := z = { b with
        lastPos := r.pos + 1, storedSum := b.storedSum + (32 + h.payloadLength), hardRun := 0, anyHeader := true, group := some g }
      (b.group = none → e.cat = d.cat ∧ now e (counted
        { tape := h.tape, ordinal := h.ordinal, firstPos := r.pos, firstSeq := some h.seq, count := 1, stored := h.payloadLength
          raw := h.rawLength })) ∧
      ∀ g q, b.group = some g → g.tape = h.tape → g.ordinal = h.ordinal → g.firstSeq = some q → e.cat = d.cat ∧ now e (counted
        { g with count := g.count + 1, stored := g.stored + h.payloadLength, raw := g.raw + h.rawLength })) ∧
  ∀ (d : Dev) (c : Chan) (i : CartIx) (k : SetIx) (y : BackupSet) (x : Session) (b : Rebuild) (g : Group), d.set? k = some y →
    d.rebuild? c = some (x, b) →
    let e := d.joinGroup c i k g
    ∃ z, e.set? k = some z ∧
      z.segments = insertSegment ⟨g.ordinal, i, g.firstPos, g.firstSeq.getD 0, g.count⟩ y.segments ∧
      z.dataCount = narrow32 (z.segments.map Segment.count).sum ∧ z.storedBytes = narrow64 (y.storedBytes + g.stored) ∧
      z.number = y.number ∧ z.tape = y.tape ∧ z.inUse = y.inUse ∧ (z.state = .aborted ∨ z.state = .recovered) ∧
      (∀ t, g.close = some t → z.fileCount = t.fileCount ∧ z.rawBytes = t.raw ∧
        z.digest = (if t.digestMark = 1 then some t.digest else none) ∧ z.digestOff = decide (t.digestMark = 0) ∧
        (z.state = .recovered → (∀ k, k < t.indexCount → ∃ p ∈ g.indexes, p.1 = k) →
          z.locator = some ⟨i, t.indexPos, t.indexCount⟩)) ∧
      (z.state = .aborted → z.locator = none) ∧ z.indexMissing = z.locator.isNone ∧
      ((∀ s ∈ y.segments, s.ordinal < g.ordinal) → (∀ t ∈ y.ends, t.1 ≠ g.ordinal) →
        (z.state = .aborted ↔ z.noGap = true ∧ (g.ended = .abort ∨ g.ended = .none))) ∧
      (∀ j, j ≠ k → e.set? j = d.set? j) ∧
      ∀ u, d.cart i = some u → (e.cart i).map (·.live) = some (if y.onCart i then u.live else u.live + 1)

/-- R6: the report of a write at a position moves the cartridge's end position past it, sets its bytes written, and makes an ACTIVE
cartridge FULL when they reach its capacity; no other entry changes. R132: a span trigger at the set's fourth segment aborts the session;
at another the session is SPANNING, and the SPAN trailer heads the write queue with its page, or, its page refused, NO_SPAN_MARK is set
and the segment closes. R133, R134: the segment closed, the full cartridge is FULL and its unload begins for the session. The SCRATCH
cartridge selection finds is the set's next segment, at position 0 from the first DATA sequence not yet written, ACTIVE, counted live, and
the session cartridge; the full cartridge's claim is cleared. With none found the media-wait timer runs. R135: at the span's end SPANNED
goes to the owner port; the writer of an ACTIVE session is in REFILL, or in STREAM when the queue holds the watermark, and a CLOSING
session goes on in STREAM. -/
def Obligations.WriteReportMovesTheEndPosition : Prop :=
  (∀ (d : Dev) (i : CartIx) (x : Cart) (p figure : Nat), d.cart i = some x → p + 1 < 4294967296 → figure < 18446744073709551616 →
    let full := x.state = .active ∧ ∃ cap, x.capacity = some cap ∧ cap * 1048576 ≤ figure
    let e := d.writeReport i p figure
    (full → e.cart i = some { x with endPos := p + 1, written := figure, state := .full }) ∧
    (¬ full → e.cart i = some { x with endPos := p + 1, written := figure }) ∧
    (∀ j, j ≠ i → e.cart j = d.cart j) ∧ e.cat.sets = d.cat.sets ∧ e.cat.places = d.cat.places ∧ e.ch = d.ch ∧ e.mqu = d.mqu ∧
      e.pa = d.pa ∧ e.pb = d.pb ∧ e.pp = d.pp) ∧
  ∀ (d : Dev) (c : Chan) (x : Session) (b : Backup) (i : SetIx) (y : BackupSet) (g : Segment), d.backup? c = some (x, b) →
    d.setOf x = some (i, y) → y.lastSegment = some g →
    let has (e : Dev) (p : Session → Backup → Prop) : Prop := ∃ x' b', e.backup? c = some (x', b') ∧ x'.handle = x.handle ∧ p x' b'
    (b.state = .active ∨ b.state = .closing →
      let e := d.beginSpan c
      let spanning : Backup := { b with
        state := .spanning, returnClosing := decide (b.state = .closing), window := none, writer := .stream, span := .trailer }
      (4 ≤ g.ordinal → e = d.abortSession c .spanLimit) ∧
      (g.ordinal < 4 → d.smc.mayTake c = true → e.cat = d.cat ∧ e.smc = d.smc.take c ∧
        (e.chan c).wq = .trailer .span :: (d.chan c).wq ∧ has e fun _ q => q = spanning) ∧
      (g.ordinal < 4 → d.smc.mayTake c = false →
        e = ((d.modBackup c fun _ => spanning).modSet i fun y => { y with noSpanMark := true }).closeSegment c)) ∧
    (∀ u, b.state = .spanning → d.cart g.cart = some u → x.cart = some g.cart → (d.drive c).mounted = .cart g.cart →
      (d.drive c).state = .ready → (d.drive c).unload = none →
      let e := d.closeSegment c
      let full := d.setCartState g.cart .full
      let leaves : Prop := (e.drive c).state = .ejecting ∧ (e.drive c).unload = some ⟨.rewind, some (.session x.handle)⟩ ∧
        (∀ j, j ≠ i → e.set? j = d.set? j) ∧ (e.chan c).wq = (d.chan c).wq
      (∀ j v, full.pickTarget c x.handle y.pool true = some j → full.cart j = some v → v.state = .scratch →
        leaves ∧
        e.set? i = some { y with
          segments := y.segments ++ [{ ordinal := y.segments.length + 1, cart := j, firstPos := 0, firstSeq := y.dataCount, count := 0 }] } ∧
        e.cart g.cart = some { u with state := .full, claim := if u.claim = some x.handle then none else u.claim } ∧
        e.cart j = some { v with state := .active, live := if y.onCart j then v.live else v.live + 1 } ∧
        has e fun x' q => x'.cart = some j ∧ x'.mediaTimer = none ∧ q = { b with span := .loading, written := v.written }) ∧
      (full.pickTarget c x.handle y.pool true = none → d.cfg.openWait ≠ 0 → x.mediaTimer = none →
        leaves ∧ e.set? i = some y ∧ e.cart g.cart = some { u with state := .full } ∧
        (has e fun x' q => x'.cart = x.cart ∧ x'.mediaTimer = some (d.cfg.openWait * 1000) ∧ q = { b with span := .choosing }) ∧
        let n := Notice.mediaNeeded x.handle (.pool y.pool) none
        x.noted ≠ some (.pool y.pool) → ∀ p, p = x.owner ∨ p = .P → d.roomFor p n → n ∈ (e.port p).notices)) ∧
    let e := d.spanEnd c
    let n := Notice.spanned y.number g.ordinal (d.cartLabel g.cart)
    e.cat = d.cat ∧ e.smc = d.smc ∧ (e.chan c).wq = (d.chan c).wq ∧ (d.roomFor x.owner n → n ∈ (e.port x.owner).notices) ∧
      (b.returnClosing = true → has e fun _ q => q = { b with state := .closing, span := .none, writer := .stream }) ∧
      (b.returnClosing = false → has e fun _ q => q = { b with
        state := .active, span := .none, window := some 0
        writer := if d.cfg.watermark ≤ (d.chan c).wq.length then .stream else .refill })

/-- R71, R72, R85: MEDIA_READY and the expiry of a drive's timers. -/
def Obligations.DriveTimersAndMediaReady : Prop :=
  ∀ (s : State) (c : Chan),
    let x := s.dev.drive c
    let gives (i : Instr) (d : Dev) : Prop := exec i s = .next { s with dev := d.finish }
    let e := s.dev.begin.commandEnded c
    (∀ cap rate,
      (x.state = .inserting → gives (.mediaReady c cap rate) (s.dev.begin.threaded c cap rate)) ∧
      (x.state = .ready → gives (.mediaReady c cap rate)
        ((s.dev.begin.modDrive c fun x => { x with rate := some rate }).recordCapacity c cap)) ∧
      (x.state ≠ .inserting → x.state ≠ .ready → gives (.mediaReady c cap rate) s.dev.begin)) ∧
    (∀ o, x.cmdTimer ≠ none → x.out = some o →
      ((∀ w, o.cmd ≠ .status w) → gives (.commandTimerExpiry c) ((e.driveFault c).push (.command c))) ∧
      ∀ w, o.cmd = .status w → w.retry = none →
        (x.state = .unknown → gives (.commandTimerExpiry c) ((e.driveAbsent c).push (.command c))) ∧
        (x.state ≠ .unknown → gives (.commandTimerExpiry c) (((e.driveFault c).answerOpt w.clear .fault).push (.command c)))) ∧
    (x.insertTimer ≠ none → gives (.insertReadyTimerExpiry c)
      ((s.dev.begin.modDrive c fun x => { x with insertTimer := none }).driveFault c)) ∧
    (x.idleTimer ≠ none →
      let d := s.dev.begin.modDrive c fun x => { x with idleTimer := none }
      (s.dev.mqu.holdPower = true → gives (.idleUnloadTimerExpiry c) d) ∧
      (s.dev.mqu.holdPower = false → x.state = .ready → x.unload = none → gives (.idleUnloadTimerExpiry c)
        (d.modDrive c fun x => { x with state := .ejecting, unload := some ⟨.rewind, none⟩, idleTimer := none, rate := none
                                        speed := none, speedPending := false }).look))

/-- R7, R72: what a threaded tape leaves: the drive READY at position 0 under its full rate and step 8, its insert-ready timer
stopped, and the reported capacity recorded for the mounted cartridge. -/
def Obligations.ThreadedTapeIsReadyAtPositionZero : Prop :=
  ∀ (d : Dev) (c : Chan) (cap rate : Nat), (d.drive c).unload = none →
    let e := d.threaded c cap rate
    let y := e.drive c
    y.state = .ready ∧ y.pos = some 0 ∧ y.rate = some rate ∧ y.speed = some 8 ∧ y.insertTimer = none ∧
      y.mounted = (d.drive c).mounted ∧ y.claim = (d.drive c).claim ∧ y.out = (d.drive c).out ∧
      (∀ i x, (d.drive c).mounted = .cart i → d.cart i = some x → e.cart i = some { x with capacity := some cap }) ∧
      (∀ i, (d.drive c).mounted ≠ .cart i → e.cart i = d.cart i) ∧
      ((d.drive c).claim = none → d.cfg.idleUnload ≠ 0 → y.idleTimer = some (d.cfg.idleUnload * 1000)) ∧
      e.chan (otherChan c) = d.chan (otherChan c) ∧ e.cat.sets = d.cat.sets ∧ e.cat.places = d.cat.places ∧ e.mqu = d.mqu

/-- R76, R2: a drive that enters FAULT: no command is outstanding, its timers stop, its unload is given up, its session is ended, its
mounted cartridge, rate and position are unknown, and its place is unconfirmed. -/
def Obligations.DriveFaultClearsTheDrive : Prop :=
  ∀ (d : Dev) (c : Chan), (d.drive c).state ≠ .fault → (d.drive c).state ≠ .absent →
    let e := d.driveFault c
    let y := e.drive c
    y.state = .fault ∧ y.out = none ∧ y.cmdTimer = none ∧ y.insertTimer = none ∧ y.idleTimer = none ∧ y.unload = none ∧
      y.mounted = .none ∧ y.rate = none ∧ y.speed = none ∧ y.pos = none ∧ e.sess c = none ∧ e.confirmed (.drive c) = false ∧
      e.occ (.drive c) = d.occ (.drive c) ∧ e.cfg = d.cfg ∧ e.lines = d.lines ∧ e.cst.slots = d.cst.slots

/-! ### Sessions' timers and the coding engines (R47, R48, R64 to R66, R83, R134, R142, R155) -/

/-- R65, R66, R83, R134, R142, R155: the expiry of the timers that belong to opens and sessions; and the step R66 gives: the
smallest in 1 to 8 that carries the window's bytes, taken up at once, taken down one step at a time, and 8 when the write queue
holds four watermarks. -/
def Obligations.SessionTimersExpire : Prop :=
  (∀ (s : State) (h : Nat),
    let gives (d : Dev) : Prop := exec (.openWaitTimerExpiry h) s = .next { s with dev := d.finish }
    (∀ w, s.dev.waitList.find? (fun w => w.handle = h) = some w → w.timer ≠ none →
      gives ((({ s.dev.begin with waitList := s.dev.waitList.filter fun x => x.handle ≠ w.handle } : Dev).freeSet w.kind.set?).answerWith
        w.req .timeout w.handle [])) ∧
    (∀ c x, s.dev.waitList.find? (fun w => w.handle = h) = none → s.dev.sessionOf h = some c → s.dev.sess c = some x →
      x.openTimer ≠ none →
      gives ((s.dev.begin.modSess c fun x => { x with openTimer := none }).abortSession c .mediaTimeout))) ∧
  (∀ (s : State) (c : Chan) (x : Session), s.dev.sess c = some x → x.mediaTimer ≠ none →
    exec (.mediaWaitTimerExpiry c) s = .next { s with dev :=
      ((s.dev.begin.modSess c fun x => { x with mediaTimer := none }).abortSession c .mediaTimeout).finish }) ∧
  (∀ (s : State) (c : Chan) (x : Session) (b : Backup) (p rf v : Nat), s.dev.backup? c = some (x, b) → b.window = some p →
    (s.dev.drive c).rate = some rf → (s.dev.drive c).speed = some v →
    let e := s.dev.begin.modBackup c fun b => { b with window := some 0 }
    let v' := newStep v (targetStep p rf) (s.dev.chan c).wq.length s.dev.cfg.watermark
    exec (.rateWindowExpiry c) s = .next { s with dev :=
      (if v' = v then e else e.modDrive c fun x => { x with speed := some v', speedPending := true }).finish }) ∧
  (∀ p rf t : Nat, 1 ≤ rf → targetStep p rf = t → (1 ≤ t ∧ t ≤ 8) ∧ (t < 8 → 8 * p ≤ t * (2 * rf * 1000000)) ∧
    (1 < t → (t - 1) * (2 * rf * 1000000) < 8 * p)) ∧
  ∀ v t q w : Nat, 1 ≤ t → t ≤ 8 → 1 ≤ v → v ≤ 8 →
    (4 * w ≤ q → newStep v t q w = 8) ∧ (q < 4 * w → v < t → newStep v t q w = t) ∧
    (q < 4 * w → t + 1 < v → newStep v t q w = v - 1) ∧ (q < 4 * w → t ≤ v → v ≤ t + 1 → newStep v t q w = v)

/-- R47, R48: an encode that ends puts the coded record at the tail of the write queue, frees its half, extends the set digest by the
raw CRC-32 of a DATA block, and leaves the encoder IDLE. A decode that ends leaves its bytes in the decode half, the entry leaves the
read queue with its page, and the session checks the record; a session other than a restore frees the half first (log entry 75). R145 to
R150: the checks of a record in their order; a hard error is counted, the first giving the locator; what a verify leaves of a record of
its run that passes, or of one that fails: its totals, its trailer and, of an INDEX record, the index area and whether the index is
whole. After the last record of a segment the next segment's cartridge is waited for; after the last of the set the final checks of R149
are made in their order, the result and the day are written, and the session has ended. And the result at a normal end. -/
def Obligations.CodingEnginesComplete : Prop :=
  (∀ (s : State) (c : Chan) (b : Block), (s.dev.chan c).enc.state = .coding → (s.dev.chan c).enc.desc = some b →
    let block := ((s.dev.chan c).half b.fromB).bytes
    let e := s.dev.begin.encodeDone c
    exec (.encodeCompletion c) s = .next { s with dev := e.finish } ∧
    (e.chan c).wq = (s.dev.chan c).wq ++
      [.item { kind := b.kind, shrunk := (shrinkBlock block).1, rawLength := block.length, payload := (shrinkBlock block).2
               rawCrc := crc32 block, tape := b.tape, seq := b.seq }] ∧
    (e.chan c).half b.fromB = {} ∧ (e.chan c).half (!b.fromB) = (s.dev.chan c).half (!b.fromB) ∧ (e.chan c).enc.state = .idle ∧
    (e.chan c).enc.desc = none ∧ (e.chan c).enc.work = (s.dev.chan c).enc.work ∧
    (∀ x q, s.dev.backup? c = some (x, q) → (e.backup? c).map (fun p => p.2.digest) = some
      (if b.kind = .data then q.digest.map fun g => crc32Extend g (crc32Bytes (crc32 block)) else q.digest)) ∧
    e.smc = s.dev.smc ∧ e.cat = s.dev.cat ∧ e.mqu = s.dev.mqu) ∧
  (∀ (s : State) (c h : Chan) (r : ReadEntry) (rest : List ReadEntry) (x : Session), (s.dev.chan c).dec = some h →
    (s.dev.chan c).rq = r :: rest → s.dev.sess c = some x →
    let out := decodeRecord r.bytes
    let e := s.dev.begin.modChan c fun y => { y with dec := none, halves := y.halves.set h (some (decodeLeaves r.bytes)) }
    let e := (e.popRead c).push (.decoder c)
    exec (.decodeCompletion c) s = .next { s with dev := Dev.finish (match x.kind with
      | .backup _ => (e.freeHalf c h).reloadRecord c r out
      | .verify _ => (e.freeHalf c h).verifyRecord c r out
      | .restore _ => e.restoreRecord c h r out
      | .rebuild _ => (e.freeHalf c h).rebuildRecord c r out) }) ∧
  (∀ (h : Header) (k : RecKind) (tape seq : Nat) (out : Option (List Byte)),
    let right := h.kind = some k ∧ h.tape = tape ∧ h.seq = seq
    (h.check = false → checkRecord h k tape seq out = some .headerFault) ∧
    (h.check = true → ¬ right → checkRecord h k tape seq out = some .sequenceFault) ∧
    (h.check = true → right → out = none → checkRecord h k tape seq out = some .decodeFault) ∧
    (h.check = true → right → ∀ bs, out = some bs → checkRecord h k tape seq out = if crc32 bs = h.rawCrc then none else some .crcFault)) ∧
  (∀ (v : VerifyRec) (o n : Nat) (cause : Cause), v.hard ≤ 65535 → v.hardError o n cause =
    { v with hard := min 65535 (v.hard + 1), locator := if v.hard = 0 then some ⟨o, n, cause⟩ else v.locator }) ∧
  (∀ (d : Dev) (c : Chan) (x : Session) (v : Verify) (i : SetIx) (y : BackupSet) (g : Segment) (r : ReadEntry)
      (out : Option (List Byte)), d.verify? c = some (x, v) → d.setOf x = some (i, y) → y.segment v.segment = some g →
    y.verify.soft ≤ 65535 →
    let h := readHeader r.bytes
    let p := y.expected g v.at_
    let e := d.verifyRecord c r out
    let checked := checkRecord h p.1 y.tape p.2.1 out
    let area := (d.chan c).index
    let soft := { y.verify with soft := if r.kind = some .softRecovered then min 65535 (y.verify.soft + 1) else y.verify.soft }
    let leaves (w : Verify) (t : VerifyRec) (index : List IndexEntry) : Prop :=
      (∀ cause, checked = some cause → index = area ∧ t = soft.hardError g.ordinal p.2.2 cause ∧ w = { v with
        dataClean := v.dataClean && decide (p.1 ≠ .data), indexWhole := v.indexWhole && decide (p.1 ≠ .index)
        indexCounted := v.indexCounted || decide (p.1 = .index) }) ∧
      ∀ bs, out = some bs → checked = none → t = soft ∧
        (p.1 = .data → index = area ∧ w = { v with
          digest := crc32Extend v.digest (crc32Bytes (crc32 bs)), storedTotal := v.storedTotal + h.payloadLength }) ∧
        (p.1 = .index → index = (unpackEntries bs.length bs area).1 ∧
          w = { v with indexWhole := v.indexWhole && (unpackEntries bs.length bs area).2 }) ∧
        (p.1 = .close → index = area ∧ w = { v with trailer := some (readCloseTrailer bs) })
    ∀ w t index, leaves w t index →
      (v.at_ + 1 < y.runCount g → e.set? i = some { y with verify := t } ∧ (e.chan c).index = index ∧
        ∃ x', e.verify? c = some (x', { w with at_ := v.at_ + 1 }) ∧ x'.handle = x.handle) ∧
      (∀ g', y.runCount g ≤ v.at_ + 1 → v.segment < y.segments.length → y.segment (v.segment + 1) = some g' → d.cfg.openWait ≠ 0 →
        e.set? i = some { y with verify := t } ∧ (e.chan c).index = index ∧
        ∃ x', e.verify? c = some (x', { w with at_ := 0, segment := v.segment + 1, state := .waitMedia }) ∧ x'.handle = x.handle ∧
          x'.cart = some g'.cart) ∧
      (y.runCount g ≤ v.at_ + 1 → y.segments.length ≤ v.segment →
        let last := (y.lastSegment.map (·.ordinal)).getD 0
        let number := y.dataCount + (y.locator.map (·.count)).getD 0
        let made (t : VerifyRec) (due good : Bool) (cause : Cause) := if due && !good then t.hardError last number cause else t
        let t := made t (y.locator.isSome && w.trailer.isSome)
          (w.trailer.any fun q => trailerMatches y q w.dataClean w.storedTotal) .trailerMismatch
        let t := made t (y.locator.isSome && y.digest.isSome && w.dataClean) (y.digest = some (crc32Finish w.digest)) .digestMismatch
        let t := made t (y.locator.isSome && !w.indexCounted)
          (w.indexWhole && index.length = y.fileCount && (index.map (·.length)).sum = y.rawBytes) .indexMismatch
        e.sess c = none ∧ (e.drive c).claim = none ∧ e.set? i = some { y with
          inUse := none
          verify := { t with result := verifyOutcome { y with verify := t } w.cutShort, day := some d.cat.day } })) ∧
  (∀ (y : BackupSet) (t : CloseTrailer) (clean : Bool) (total : Nat) (l : Locator) (g : Segment), y.locator = some l →
    y.lastSegment = some g → (trailerMatches y t clean total = true ↔
      t.dataCount = y.dataCount ∧ t.stored = y.storedBytes ∧ t.indexCount = l.count ∧ t.fileCount = y.fileCount ∧ t.raw = y.rawBytes ∧
      t.ordinal = g.ordinal ∧ t.indexPos = l.pos ∧ (∀ q, y.digest = some q → t.digestMark = 1 ∧ t.digest = q) ∧
      (y.digest = none → t.digestMark = 0) ∧ (clean = true → total = y.storedBytes))) ∧
  ∀ (y : BackupSet) (cut : Bool),
    (0 < y.verify.hard → verifyOutcome y cut = .failed) ∧
    (y.verify.hard = 0 → cut = true ∨ y.locator = none → verifyOutcome y cut = .incomplete) ∧
    (y.verify.hard = 0 → cut = false → y.locator ≠ none → verifyOutcome y cut = if y.digest = none then .passedNoDigest else .passed)

/-! ### Notices and the transmitter (R174, R176) -/

/-- R176: a notice the port's mask disables is not offered; one the port cannot take, its link not UP or its queue at 16, is
dropped, and sets LOST unless it is a CREDIT; a CREDIT of a session whose CREDIT is pending adds to that notice in its place; any
other joins the tail. -/
def Obligations.NoticesAreQueuedCoalescedOrDropped : Prop :=
  ∀ (d : Dev) (p : Port) (n : Notice),
    let u := d.port p
    let enabled := (d.cfg.mask p).getD n.index true = true
    let dropped := if n.isCredit then d else d.setPort p { u with lost := true }
    (¬ enabled → d.offer p n = (d, false)) ∧
    (enabled → u.link ≠ .up → d.offer p n = (dropped, false)) ∧
    (enabled → u.link = .up → n.isCredit = false →
      (u.notices.length < 16 → d.offer p n = ((d.setPort p { u with notices := u.notices ++ [n] }).push (.transmit p), true)) ∧
      (16 ≤ u.notices.length → d.offer p n = (dropped, false))) ∧
    (enabled → u.link = .up → ∀ h k r, n = .credit h k r →
      (∀ pre m r' post, u.notices = pre ++ .credit h m r' :: post → (∀ m r, Notice.credit h m r ∉ pre) →
        d.offer p n = (d.setPort p { u with notices := pre ++ .credit h (m + k) r' :: post }, true)) ∧
      ((∀ m r, Notice.credit h m r ∉ u.notices) → u.notices.length < 16 →
        d.offer p n = ((d.setPort p { u with notices := u.notices ++ [n] }).push (.transmit p), true)) ∧
      ((∀ m r, Notice.credit h m r ∉ u.notices) → 16 ≤ u.notices.length → d.offer p n = (d, false)))

/-- R174: a free transmitter of a port whose link is UP takes the head frame of the response path or of the notice queue, in turn
when both hold frames; a transmitter that holds a frame takes none. -/
def Obligations.TransmitterTakesFromThePathsInTurn : Prop :=
  ∀ (d : Dev) (p : Port),
    let u := d.port p
    (u.tx ≠ none ∨ u.link ≠ .up → d.transmit p = d) ∧
    (u.tx = none → u.link = .up →
      (∀ f fs, u.path = f :: fs → (u.notices = [] ∨ u.lastNotice = true) →
        d.transmit p = d.setPort p { u with path := fs, tx := some f, lastNotice := false }) ∧
      (∀ n ns, u.notices = n :: ns → (u.path = [] ∨ u.lastNotice = false) →
        d.transmit p = (d.setPort p { u with notices := ns, tx := some (.notice n), lastNotice := true }).push (.creditRetry p)) ∧
      (u.path = [] → u.notices = [] → d.transmit p = d))

/-! ### The store, start-up and RESET (R188 to R195) -/

/-- R188 to R191: a block write that completes OK makes its copy the block's newest, under its generation; one that fails leaves its
slot neither valid nor erased (the model's choice, log entry 16), and with its retry due is made again at once, to the same slot (details
of the retry: log entry 17); a second failure leaves the block dirty and CST in STORE_FAULT, and one in a flush pass keeps the block out
of the rest of it. START_UP outside its phase has no effect (the model's choice, log entry 13). R193: power-on
clears every block but the store's slots and reads the first copy of block 0; each read is followed by the next, block by block,
and the last by the loaded catalogue, from which start-up goes on. Of two valid copies the newer is taken. -/
def Obligations.StoreIsWrittenAndRead : Prop :=
  (∀ (s : State) (w : StoreWrite), s.dev.cst.write = some w →
    let i := 2 * w.block + w.copy
    let d := s.dev.begin.modCst fun t => { t with write := none, slots := t.slots.set i .torn }
    exec (.storeWriteCompletion true) s = .next { s with dev := (((s.dev.begin.modCst fun t =>
      { t with write := none, newest := t.newest.set w.block (some ⟨w.copy, w.gen⟩), slots := t.slots.set i (.holds w.image) }).answerOpt
        w.clear .ok).push .flush).finish } ∧
    (w.retry = true → exec (.storeWriteCompletion false) s = .next { s with dev :=
      ((d.modCst fun t => { t with clear := w.clear.orElse fun _ => t.clear }).startWrite w.block false).finish }) ∧
    (w.retry = false →
      let failed (p : Pass) : Pass := if p.cursor = w.block + 1 then { p with failed := p.failed ++ [w.block] } else p
      exec (.storeWriteCompletion false) s = .next { s with dev := ((((d.modCst fun t =>
        { t with dirty := t.dirty.set w.block true, pass := t.pass.map failed }).storeFault).answerOpt w.clear .fault).push
          .flush).finish })) ∧
  (∀ (m : Store) (p : Pass) (b : Nat), m.clear = none → m.passNext p = some b →
    m.isDirty b = true ∧ b ∉ p.failed ∧
      ∀ k, k < 21 → m.isDirty k = true → k ∉ p.failed → (p.cursor ≤ b → p.cursor ≤ k → b ≤ k) ∧ (b < p.cursor → k < p.cursor ∧ b ≤ k)) ∧
  (∀ (s : State) (i : Inputs),
    let e := s.dev.powerOn i
    exec (.powerOn i) s = .next { s with dev := e } ∧ e.phase = .reading ∧ e.cat = {} ∧ e.cfg = {} ∧ e.smc = {} ∧ e.ch = ⟨{}, {}⟩ ∧
      e.waitList = [] ∧ e.mqu = {} ∧ e.pp = {} ∧ e.pa.link = (if i.linkA then .up else .down) ∧
      e.pb.link = (if i.linkB then .up else .down) ∧ e.cst.read = some ⟨0, none⟩ ∧ e.sent = [.storeRead 0 0] ∧
      e.lines.map (·.level) = [i.l0, i.l1, i.l2, i.l3] ∧
      (s.dev.cst.write = none → e.cst.slots = s.dev.cst.slots)) ∧
  (∀ (s : State) (b : Nat),
    let got (k : Nat) := (s.dev.cst.slots.getD (2 * b + k) .erased).asCopy b
    (s.dev.cst.read = some ⟨b, none⟩ →
      exec (.storeReadCompletion .stored) s = .next { s with dev :=
        ((s.dev.begin.modCst fun t => { t with read := some ⟨b, some (got 0)⟩ }).emit (.storeRead b 1)).finish } ∧
      exec (.storeReadCompletion .failed) s = .next { s with dev :=
        ((s.dev.begin.modCst fun t => { t with read := some ⟨b, some .bad⟩ }).emit (.storeRead b 1)).finish }) ∧
    ∀ x, s.dev.cst.read = some ⟨b, some x⟩ → ∀ r ∈ [(StoreRead.stored, got 1), (.failed, .bad)],
      let e := s.dev.begin.settleBlock b x r.2
      (b < 20 → exec (.storeReadCompletion r.1) s = .next { s with dev :=
        ((e.modCst fun t => { t with read := some ⟨b + 1, none⟩ }).emit (.storeRead (b + 1) 0)).finish }) ∧
      (20 ≤ b → exec (.storeReadCompletion r.1) s = .next { s with dev :=
        (({ e with phase := .loaded, cst := { e.cst with read := none } } : Dev)).finish })) ∧
  (∀ s : State, (s.dev.phase = .loaded → exec .startUp s = .next { s with dev := s.dev.begin.startUp.finish }) ∧
    (s.dev.phase ≠ .loaded → exec .startUp s = .next { s with dev := s.dev.begin.finish })) ∧
  ∀ (n g g' : Nat) (b b' : List Byte) (x : CopyRead), g < 65536 → g' < 65536 →
    ((∃ k, 1 ≤ k ∧ k ≤ 32767 ∧ g = (g' + k) % 65536) → settleCopies n (.valid g b) (.valid g' b') = .taken ⟨0, g⟩ b ∧
      settleCopies n (.valid g' b') (.valid g b) = .taken ⟨1, g⟩ b) ∧
    (x = .erased ∨ x = .bad → settleCopies n (.valid g b) x = .taken ⟨0, g⟩ b ∧ settleCopies n x (.valid g b) = .taken ⟨1, g⟩ b) ∧
    settleCopies n .erased .erased = .empty ∧ settleCopies n .bad .erased = .bad ∧ settleCopies n .erased .bad = .bad ∧
    settleCopies n .bad .bad = .bad

/-- R2, R10, R182, R194: what start-up leaves, whatever the store held: no session, no waiting open, every page free, no in-use field
and no claim; no OPEN set, and no set but an EXPIRED one that names a free cartridge entry; every live set count the number of sets
that have a segment on the cartridge; every place unconfirmed, with its occupant and the cartridges' locations in agreement; and no
hold but the door's, which the lines give. -/
def Obligations.StartUpOrdersTheCatalogue : Prop :=
  ∀ d : Dev, d.phase = .loaded →
    let e := d.startUp
    e.phase = .running ∧ e.sess .ch0 = none ∧ e.sess .ch1 = none ∧ e.waitList = [] ∧ e.smc = {} ∧
    (∀ k y, e.set? k = some y → y.state ≠ .opened ∧ y.inUse = none) ∧
    (∀ k y, e.set? k = some y → y.state ≠ .expired → ∀ g ∈ y.segments, e.cart g.cart ≠ none) ∧
    (∀ i x, e.cart i = some x → x.claim = none ∧ x.live = (e.liveSetsOn i).length) ∧
    (∀ p, e.confirmed p = false) ∧
    (∀ i x p, e.cart i = some x → x.location = some p → e.occ p = .cart i) ∧
    (∀ p i, e.occ p = .cart i → ∃ x, e.cart i = some x ∧ x.location = some p) ∧
    e.mqu.holdStop = false ∧ e.mqu.holdPower = false ∧ e.mqu.holdFault = false ∧ e.mqu.holdDoor = e.doorLevel ∧
      e.doorOpen = e.doorLevel ∧ e.resetReq = none ∧ e.cst.slots = d.cst.slots ∧ e.cst.newest = d.cst.newest

/-- R195: RESET from port P is taken: the sessions end and the wait list is emptied, the timers stop but those of a command or message
still to complete, the hold timers of the ports among them (log entry 34), and a flush pass begins. No frame is heard until start-up. That the drives
and the move queue are cleared now, not at the start-up, is log entry 76. -/
def Obligations.ResetEndsTheSessionsAndFlushes : Prop :=
  (∀ (s : State) (f : Req), s.dev.takes f → f.port = .P → f.payload = [] →
    exec (.reset f) s = .next { s with dev :=
      ((s.dev.begin.joined f .reset).resetTaken (s.dev.begin.newReq f .reset)).finish }) ∧
  ∀ (d : Dev) (r : ReqId),
    let e := d.resetTaken r
    e.phase = .resetting ∧ e.resetReq = some r ∧ e.waitList = [] ∧ (∀ c, e.sess c = none ∧ (e.chan c).wq = [] ∧ (e.chan c).rq = []) ∧
      (∀ p, e.hears p = false ∧ (e.port p).hold = none) ∧ e.cst.pass = some {} ∧ Todo.flush ∈ e.todo ∧ e.mqu.queue = [] ∧ e.mqu.scanList = [] ∧
      (∀ c, (e.drive c).idleTimer = none ∧ (e.drive c).insertTimer = none ∧ (e.drive c).cmdNum = (d.drive c).cmdNum ∧
        e.mqu.settle.get c = none) ∧
      (∀ c o, (d.drive c).out = some o → (e.drive c).stale = some o.num ∧ (e.drive c).cmdTimer = (d.drive c).cmdTimer) ∧
      (∀ c, (d.drive c).out = none → (d.drive c).stale = none → (e.drive c).stale = none ∧ (e.drive c).cmdTimer = none) ∧
      e.lines = (d.lines.map fun x => { x with timer := none }) ∧ e.cst.slots = d.cst.slots ∧ e.cfg = d.cfg

/-! ### Codings and formats (chapters 2 and 12) -/

/-- R33 to R40: what the encoder makes of a block of 1 to 65,536 bytes decodes to the same block under the coding its header carries;
a record is SHRUNK, with the coded form as its payload, when the coded form is shorter than the block, and else STORED, with the block
itself. -/
def Obligations.ShrinkDecodesToTheSameBlock : Prop :=
  ∀ block : List Byte, 1 ≤ block.length → block.length ≤ 65536 →
    let p := shrinkBlock block
    decodePayload (if p.1 then 1 else 0) block.length p.2.length p.2 = some block ∧
      (p.1 = true ↔ (codedForm block).length < block.length) ∧ (p.1 = true → p.2 = codedForm block) ∧
      (p.1 = false → p.2 = block)

/-- R198, R199: a record's header, a CLOSE, SPAN and ABORT trailer and an index entry read back as they were written; and so do a store copy and what
the blocks hold: block 0's items, a cartridge entry but for its claim, and a set entry but for its in-use field and what rebuilds found
of its endings and trailer, which is not stored (log entries 36 and 51). -/
def Obligations.RecordsAndStoreCopiesReadBack : Prop :=
  (∀ r : Record, r.payload.length < 4294967296 → r.rawLength < 4294967296 → r.tape < 65536 → r.seq < 4294967296 → r.ordinal < 256 →
    readHeader (recordBytes r) =
      { kind := some r.kind, coding := if r.shrunk then 1 else 0, ordinal := r.ordinal, rawLength := r.rawLength
        payloadLength := r.payload.length, rawCrc := r.rawCrc, tape := r.tape, seq := r.seq, check := true } ∧
    readPayload (recordBytes r) = r.payload ∧ (recordBytes r).length = r.stored) ∧
  (∀ t : CloseTrailer, t.dataCount < 4294967296 → t.ordinal < 256 → t.digestMark < 256 → t.fileCount < 65536 →
    t.indexCount < 4294967296 → t.indexPos < 4294967296 → t.stored < 18446744073709551616 → t.raw < 18446744073709551616 →
    readCloseTrailer (closeTrailerBytes t) = t ∧ (closeTrailerBytes t).length = 64) ∧
  (∀ count first next ordinal : Nat, count < 4294967296 → first < 4294967296 → next < 4294967296 → ordinal < 256 →
    let t := spanTrailerBytes count first next ordinal
    let u := abortTrailerBytes next ordinal
    t.length = 64 ∧ fieldAt t 0 4 = count ∧ fieldAt t 4 4 = first ∧ fieldAt t 8 4 = next ∧ fieldAt t 12 1 = ordinal ∧
      u.length = 64 ∧ fieldAt u 0 4 = next ∧ fieldAt u 12 1 = ordinal ∧ (u.drop 4).take 8 = List.replicate 8 0) ∧
  (∀ (x : IndexEntry) (rest : List Byte), 1 ≤ x.file → x.file ≤ 2048 → x.startSeq < 4294967296 → x.startOff < 65536 →
    x.length < 18446744073709551616 → x.tag.length ≤ 64 → takeEntry (entryBytes x ++ rest) = some (x, rest)) ∧
  (∀ (b gen : Nat) (body : List Byte), b < 21 → gen < 65536 → body.length = 2048 →
    readCopy b (copyBytes b gen body) = .valid gen body ∧ (copyBytes b gen body).length = 2054) ∧
  (∀ x : Cart, (∀ l, x.label = some l → labelOk l = true) → x.pool < 5 → x.loads < 65536 → x.stops < 65536 →
    (∀ n, x.capacity = some n → n < 4294967296) → x.written < 18446744073709551616 → x.endPos < 4294967296 → x.live ≤ 256 →
    readCartEntry (cartEntryBytes (some x)) = some (some { x with claim := none }) ∧ (cartEntryBytes (some x)).length = 48) ∧
  (∀ x : BackupSet, (1 ≤ x.number ∧ x.number < 65536) → (1 ≤ x.tape ∧ x.tape < 65536) → x.pool < 5 → x.expiry < 65536 →
    x.writeDay < 65536 → (1 ≤ x.segments.length ∧ x.segments.length ≤ 4) →
    (∀ g ∈ x.segments, 1 ≤ g.ordinal ∧ g.ordinal ≤ 4 ∧ g.firstPos < 4294967296 ∧ g.firstSeq < 4294967296 ∧ g.count < 4294967296) →
    x.dataCount < 4294967296 → (∀ l, x.locator = some l → l.pos < 4294967296 ∧ l.count < 4294967296) → x.fileCount ≤ 2048 →
    x.rawBytes < 18446744073709551616 → x.storedBytes < 18446744073709551616 → x.verify.soft < 65536 → x.verify.hard < 65536 →
    (∀ l, x.verify.locator = some l → 1 ≤ l.ordinal ∧ l.ordinal ≤ 4 ∧ l.record < 4294967296) →
    (∀ n, x.verify.day = some n → n < 65536) →
    readSetEntry (setEntryBytes (.holds x)) = some (.holds { x with inUse := none, ends := [], closeLoc := none }) ∧ (setEntryBytes (.holds x)).length = 128) ∧
  (∀ (k : Catalogue) (g : Settings), g.inRange → g.maskA.length = 12 → g.maskB.length = 12 → g.maskP.length = 12 →
    (∀ m, m = k.live ∨ k.staged = some m → boundsOk m.b1 m.b2 m.b3 m.b4 = true ∧ m.pools.length = 5) → k.day < 65536 →
    1 ≤ k.nextSet → k.nextSet < 65536 →
    readBlock0 (block0Body k g) = some { live := k.live, staged := k.staged, day := k.day, nextSet := k.nextSet, cfg := g } ∧
      (block0Body k g).length = 2048)

/-- R170, R197: the frame of every request of the table, with every field at every value a frame admits, arrives as that request. That
the unit byte tells the three CLEAR_FAULT rows apart, every other payload going to the drives' form, is the model's choice, log entry
10; so is the code of a yes or no, log entry 80. -/
def Obligations.RequestFramesDecodeToTheRequest : Prop :=
  ∀ (i : Instr) (f : Req) (k : ReqKind), i.request? = some (f, k) → i.wellFormed = true →
    decodeFrame f.port (requestFrame f k) = i

/-! ### What every step keeps -/

/-- R51, R52: every command leaves every page free or held by one channel, and neither channel with more than 832. -/
def Obligations.PagesStayBalanced : Prop := ∀ s t : State, s.dev.smc.balanced → step s = .next t → t.dev.smc.balanced

/-- R192: every command leaves every setting in its range. -/
def Obligations.SettingsStayInRange : Prop := ∀ s t : State, s.dev.cfg.inRange → step s = .next t → t.dev.cfg.inRange

/-- What power-on with an erased store leaves: the factory settings and map (R192, R12), every page free (R51), no registered
cartridge, no set, no session and no order, the changer UNKNOWN (R102), both drives unclaimed, and nothing waiting. What every step
keeps holds of it. No port hears a frame yet (log entry 11). What the inputs show, that the store is erased and the links present, is log
entry 3. -/
def Obligations.ResetStateIsTheFactoryLibrary : Prop :=
  let d := State.reset.dev
  State.reset.pending = [] ∧ d.phase = .reading ∧ d.smc.balanced ∧ d.cfg.inRange ∧ d.smc.free = 896 ∧
    d.cfg.openWait = 600 ∧ d.cfg.idleUnload = 300 ∧ d.cfg.settle = 500 ∧ d.cfg.watermark = 32 ∧ d.cfg.readAhead = 16 ∧
    d.cfg.spanReserve = 256 ∧ d.cfg.retireLimit = 20000 ∧ d.cfg.fns = [.none, .none, .none, .none] ∧
    (∀ i, d.cart i = none) ∧ (∀ k, d.entry k = .free) ∧ d.cat.nextSet = 1 ∧ d.cat.day = 0 ∧ d.cat.staged = none ∧
    (∀ n, n < 24 → d.cat.live.poolOf n = 0) ∧ (∀ c, d.sess c = none ∧ (d.drive c).claim = none) ∧ d.mqu.queue = [] ∧
    d.mqu.changer = .unknown ∧ d.waitList = [] ∧ d.nextHandle = 1 ∧ d.todo = [] ∧ (∀ p, d.hears p = false)
end

