-- ==== Sys2Proof/Laws/State.lean ====
section
/-! SUPPORT. One lemma for each field of the device under each of its named updates: the fields an update leaves alone, and the
field it changes. -/

namespace Sys2Proof.Machine

/-! ### setChan -/

@[simp] theorem Dev.setChan_phase (d : Dev) (c : Chan) (x : Channel) : (d.setChan c x).phase = d.phase := rfl
@[simp] theorem Dev.setChan_cat (d : Dev) (c : Chan) (x : Channel) : (d.setChan c x).cat = d.cat := rfl
@[simp] theorem Dev.setChan_cfg (d : Dev) (c : Chan) (x : Channel) : (d.setChan c x).cfg = d.cfg := rfl
@[simp] theorem Dev.setChan_cst (d : Dev) (c : Chan) (x : Channel) : (d.setChan c x).cst = d.cst := rfl
@[simp] theorem Dev.setChan_smc (d : Dev) (c : Chan) (x : Channel) : (d.setChan c x).smc = d.smc := rfl
@[simp] theorem Dev.setChan_waitList (d : Dev) (c : Chan) (x : Channel) : (d.setChan c x).waitList = d.waitList := rfl
@[simp] theorem Dev.setChan_nextHandle (d : Dev) (c : Chan) (x : Channel) : (d.setChan c x).nextHandle = d.nextHandle := rfl
@[simp] theorem Dev.setChan_mqu (d : Dev) (c : Chan) (x : Channel) : (d.setChan c x).mqu = d.mqu := rfl
@[simp] theorem Dev.setChan_lines (d : Dev) (c : Chan) (x : Channel) : (d.setChan c x).lines = d.lines := rfl
@[simp] theorem Dev.setChan_doorOpen (d : Dev) (c : Chan) (x : Channel) : (d.setChan c x).doorOpen = d.doorOpen := rfl
@[simp] theorem Dev.setChan_pa (d : Dev) (c : Chan) (x : Channel) : (d.setChan c x).pa = d.pa := rfl
@[simp] theorem Dev.setChan_pb (d : Dev) (c : Chan) (x : Channel) : (d.setChan c x).pb = d.pb := rfl
@[simp] theorem Dev.setChan_pp (d : Dev) (c : Chan) (x : Channel) : (d.setChan c x).pp = d.pp := rfl
@[simp] theorem Dev.setChan_resetReq (d : Dev) (c : Chan) (x : Channel) : (d.setChan c x).resetReq = d.resetReq := rfl
@[simp] theorem Dev.setChan_todo (d : Dev) (c : Chan) (x : Channel) : (d.setChan c x).todo = d.todo := rfl
@[simp] theorem Dev.setChan_sent (d : Dev) (c : Chan) (x : Channel) : (d.setChan c x).sent = d.sent := rfl
@[simp] theorem Dev.setChan_races (d : Dev) (c : Chan) (x : Channel) : (d.setChan c x).races = d.races := rfl

/-! ### modChan -/

@[simp] theorem Dev.modChan_phase (d : Dev) (c : Chan) (f : Channel → Channel) : (d.modChan c f).phase = d.phase := rfl
@[simp] theorem Dev.modChan_cat (d : Dev) (c : Chan) (f : Channel → Channel) : (d.modChan c f).cat = d.cat := rfl
@[simp] theorem Dev.modChan_cfg (d : Dev) (c : Chan) (f : Channel → Channel) : (d.modChan c f).cfg = d.cfg := rfl
@[simp] theorem Dev.modChan_cst (d : Dev) (c : Chan) (f : Channel → Channel) : (d.modChan c f).cst = d.cst := rfl
@[simp] theorem Dev.modChan_smc (d : Dev) (c : Chan) (f : Channel → Channel) : (d.modChan c f).smc = d.smc := rfl
@[simp] theorem Dev.modChan_waitList (d : Dev) (c : Chan) (f : Channel → Channel) : (d.modChan c f).waitList = d.waitList := rfl
@[simp] theorem Dev.modChan_nextHandle (d : Dev) (c : Chan) (f : Channel → Channel) : (d.modChan c f).nextHandle = d.nextHandle := rfl
@[simp] theorem Dev.modChan_mqu (d : Dev) (c : Chan) (f : Channel → Channel) : (d.modChan c f).mqu = d.mqu := rfl
@[simp] theorem Dev.modChan_lines (d : Dev) (c : Chan) (f : Channel → Channel) : (d.modChan c f).lines = d.lines := rfl
@[simp] theorem Dev.modChan_doorOpen (d : Dev) (c : Chan) (f : Channel → Channel) : (d.modChan c f).doorOpen = d.doorOpen := rfl
@[simp] theorem Dev.modChan_pa (d : Dev) (c : Chan) (f : Channel → Channel) : (d.modChan c f).pa = d.pa := rfl
@[simp] theorem Dev.modChan_pb (d : Dev) (c : Chan) (f : Channel → Channel) : (d.modChan c f).pb = d.pb := rfl
@[simp] theorem Dev.modChan_pp (d : Dev) (c : Chan) (f : Channel → Channel) : (d.modChan c f).pp = d.pp := rfl
@[simp] theorem Dev.modChan_resetReq (d : Dev) (c : Chan) (f : Channel → Channel) : (d.modChan c f).resetReq = d.resetReq := rfl
@[simp] theorem Dev.modChan_todo (d : Dev) (c : Chan) (f : Channel → Channel) : (d.modChan c f).todo = d.todo := rfl
@[simp] theorem Dev.modChan_sent (d : Dev) (c : Chan) (f : Channel → Channel) : (d.modChan c f).sent = d.sent := rfl
@[simp] theorem Dev.modChan_races (d : Dev) (c : Chan) (f : Channel → Channel) : (d.modChan c f).races = d.races := rfl

/-! ### modDrive -/

@[simp] theorem Dev.modDrive_phase (d : Dev) (c : Chan) (f : Drive → Drive) : (d.modDrive c f).phase = d.phase := rfl
@[simp] theorem Dev.modDrive_cat (d : Dev) (c : Chan) (f : Drive → Drive) : (d.modDrive c f).cat = d.cat := rfl
@[simp] theorem Dev.modDrive_cfg (d : Dev) (c : Chan) (f : Drive → Drive) : (d.modDrive c f).cfg = d.cfg := rfl
@[simp] theorem Dev.modDrive_cst (d : Dev) (c : Chan) (f : Drive → Drive) : (d.modDrive c f).cst = d.cst := rfl
@[simp] theorem Dev.modDrive_smc (d : Dev) (c : Chan) (f : Drive → Drive) : (d.modDrive c f).smc = d.smc := rfl
@[simp] theorem Dev.modDrive_waitList (d : Dev) (c : Chan) (f : Drive → Drive) : (d.modDrive c f).waitList = d.waitList := rfl
@[simp] theorem Dev.modDrive_nextHandle (d : Dev) (c : Chan) (f : Drive → Drive) : (d.modDrive c f).nextHandle = d.nextHandle := rfl
@[simp] theorem Dev.modDrive_mqu (d : Dev) (c : Chan) (f : Drive → Drive) : (d.modDrive c f).mqu = d.mqu := rfl
@[simp] theorem Dev.modDrive_lines (d : Dev) (c : Chan) (f : Drive → Drive) : (d.modDrive c f).lines = d.lines := rfl
@[simp] theorem Dev.modDrive_doorOpen (d : Dev) (c : Chan) (f : Drive → Drive) : (d.modDrive c f).doorOpen = d.doorOpen := rfl
@[simp] theorem Dev.modDrive_pa (d : Dev) (c : Chan) (f : Drive → Drive) : (d.modDrive c f).pa = d.pa := rfl
@[simp] theorem Dev.modDrive_pb (d : Dev) (c : Chan) (f : Drive → Drive) : (d.modDrive c f).pb = d.pb := rfl
@[simp] theorem Dev.modDrive_pp (d : Dev) (c : Chan) (f : Drive → Drive) : (d.modDrive c f).pp = d.pp := rfl
@[simp] theorem Dev.modDrive_resetReq (d : Dev) (c : Chan) (f : Drive → Drive) : (d.modDrive c f).resetReq = d.resetReq := rfl
@[simp] theorem Dev.modDrive_todo (d : Dev) (c : Chan) (f : Drive → Drive) : (d.modDrive c f).todo = d.todo := rfl
@[simp] theorem Dev.modDrive_sent (d : Dev) (c : Chan) (f : Drive → Drive) : (d.modDrive c f).sent = d.sent := rfl
@[simp] theorem Dev.modDrive_races (d : Dev) (c : Chan) (f : Drive → Drive) : (d.modDrive c f).races = d.races := rfl

/-! ### setSess -/

@[simp] theorem Dev.setSess_phase (d : Dev) (c : Chan) (x : Option Session) : (d.setSess c x).phase = d.phase := rfl
@[simp] theorem Dev.setSess_cat (d : Dev) (c : Chan) (x : Option Session) : (d.setSess c x).cat = d.cat := rfl
@[simp] theorem Dev.setSess_cfg (d : Dev) (c : Chan) (x : Option Session) : (d.setSess c x).cfg = d.cfg := rfl
@[simp] theorem Dev.setSess_cst (d : Dev) (c : Chan) (x : Option Session) : (d.setSess c x).cst = d.cst := rfl
@[simp] theorem Dev.setSess_smc (d : Dev) (c : Chan) (x : Option Session) : (d.setSess c x).smc = d.smc := rfl
@[simp] theorem Dev.setSess_waitList (d : Dev) (c : Chan) (x : Option Session) : (d.setSess c x).waitList = d.waitList := rfl
@[simp] theorem Dev.setSess_nextHandle (d : Dev) (c : Chan) (x : Option Session) : (d.setSess c x).nextHandle = d.nextHandle := rfl
@[simp] theorem Dev.setSess_mqu (d : Dev) (c : Chan) (x : Option Session) : (d.setSess c x).mqu = d.mqu := rfl
@[simp] theorem Dev.setSess_lines (d : Dev) (c : Chan) (x : Option Session) : (d.setSess c x).lines = d.lines := rfl
@[simp] theorem Dev.setSess_doorOpen (d : Dev) (c : Chan) (x : Option Session) : (d.setSess c x).doorOpen = d.doorOpen := rfl
@[simp] theorem Dev.setSess_pa (d : Dev) (c : Chan) (x : Option Session) : (d.setSess c x).pa = d.pa := rfl
@[simp] theorem Dev.setSess_pb (d : Dev) (c : Chan) (x : Option Session) : (d.setSess c x).pb = d.pb := rfl
@[simp] theorem Dev.setSess_pp (d : Dev) (c : Chan) (x : Option Session) : (d.setSess c x).pp = d.pp := rfl
@[simp] theorem Dev.setSess_resetReq (d : Dev) (c : Chan) (x : Option Session) : (d.setSess c x).resetReq = d.resetReq := rfl
@[simp] theorem Dev.setSess_todo (d : Dev) (c : Chan) (x : Option Session) : (d.setSess c x).todo = d.todo := rfl
@[simp] theorem Dev.setSess_sent (d : Dev) (c : Chan) (x : Option Session) : (d.setSess c x).sent = d.sent := rfl
@[simp] theorem Dev.setSess_races (d : Dev) (c : Chan) (x : Option Session) : (d.setSess c x).races = d.races := rfl

/-! ### modSess -/

@[simp] theorem Dev.modSess_phase (d : Dev) (c : Chan) (f : Session → Session) : (d.modSess c f).phase = d.phase := rfl
@[simp] theorem Dev.modSess_cat (d : Dev) (c : Chan) (f : Session → Session) : (d.modSess c f).cat = d.cat := rfl
@[simp] theorem Dev.modSess_cfg (d : Dev) (c : Chan) (f : Session → Session) : (d.modSess c f).cfg = d.cfg := rfl
@[simp] theorem Dev.modSess_cst (d : Dev) (c : Chan) (f : Session → Session) : (d.modSess c f).cst = d.cst := rfl
@[simp] theorem Dev.modSess_smc (d : Dev) (c : Chan) (f : Session → Session) : (d.modSess c f).smc = d.smc := rfl
@[simp] theorem Dev.modSess_waitList (d : Dev) (c : Chan) (f : Session → Session) : (d.modSess c f).waitList = d.waitList := rfl
@[simp] theorem Dev.modSess_nextHandle (d : Dev) (c : Chan) (f : Session → Session) : (d.modSess c f).nextHandle = d.nextHandle := rfl
@[simp] theorem Dev.modSess_mqu (d : Dev) (c : Chan) (f : Session → Session) : (d.modSess c f).mqu = d.mqu := rfl
@[simp] theorem Dev.modSess_lines (d : Dev) (c : Chan) (f : Session → Session) : (d.modSess c f).lines = d.lines := rfl
@[simp] theorem Dev.modSess_doorOpen (d : Dev) (c : Chan) (f : Session → Session) : (d.modSess c f).doorOpen = d.doorOpen := rfl
@[simp] theorem Dev.modSess_pa (d : Dev) (c : Chan) (f : Session → Session) : (d.modSess c f).pa = d.pa := rfl
@[simp] theorem Dev.modSess_pb (d : Dev) (c : Chan) (f : Session → Session) : (d.modSess c f).pb = d.pb := rfl
@[simp] theorem Dev.modSess_pp (d : Dev) (c : Chan) (f : Session → Session) : (d.modSess c f).pp = d.pp := rfl
@[simp] theorem Dev.modSess_resetReq (d : Dev) (c : Chan) (f : Session → Session) : (d.modSess c f).resetReq = d.resetReq := rfl
@[simp] theorem Dev.modSess_todo (d : Dev) (c : Chan) (f : Session → Session) : (d.modSess c f).todo = d.todo := rfl
@[simp] theorem Dev.modSess_sent (d : Dev) (c : Chan) (f : Session → Session) : (d.modSess c f).sent = d.sent := rfl
@[simp] theorem Dev.modSess_races (d : Dev) (c : Chan) (f : Session → Session) : (d.modSess c f).races = d.races := rfl

/-! ### setPort -/

@[simp] theorem Dev.setPort_phase (d : Dev) (p : Port) (u : PortUnit) : (d.setPort p u).phase = d.phase := by cases p <;> rfl
@[simp] theorem Dev.setPort_cat (d : Dev) (p : Port) (u : PortUnit) : (d.setPort p u).cat = d.cat := by cases p <;> rfl
@[simp] theorem Dev.setPort_cfg (d : Dev) (p : Port) (u : PortUnit) : (d.setPort p u).cfg = d.cfg := by cases p <;> rfl
@[simp] theorem Dev.setPort_cst (d : Dev) (p : Port) (u : PortUnit) : (d.setPort p u).cst = d.cst := by cases p <;> rfl
@[simp] theorem Dev.setPort_smc (d : Dev) (p : Port) (u : PortUnit) : (d.setPort p u).smc = d.smc := by cases p <;> rfl
@[simp] theorem Dev.setPort_ch (d : Dev) (p : Port) (u : PortUnit) : (d.setPort p u).ch = d.ch := by cases p <;> rfl
@[simp] theorem Dev.setPort_waitList (d : Dev) (p : Port) (u : PortUnit) : (d.setPort p u).waitList = d.waitList := by cases p <;> rfl
@[simp] theorem Dev.setPort_nextHandle (d : Dev) (p : Port) (u : PortUnit) : (d.setPort p u).nextHandle = d.nextHandle := by cases p <;> rfl
@[simp] theorem Dev.setPort_mqu (d : Dev) (p : Port) (u : PortUnit) : (d.setPort p u).mqu = d.mqu := by cases p <;> rfl
@[simp] theorem Dev.setPort_lines (d : Dev) (p : Port) (u : PortUnit) : (d.setPort p u).lines = d.lines := by cases p <;> rfl
@[simp] theorem Dev.setPort_doorOpen (d : Dev) (p : Port) (u : PortUnit) : (d.setPort p u).doorOpen = d.doorOpen := by cases p <;> rfl
@[simp] theorem Dev.setPort_resetReq (d : Dev) (p : Port) (u : PortUnit) : (d.setPort p u).resetReq = d.resetReq := by cases p <;> rfl
@[simp] theorem Dev.setPort_todo (d : Dev) (p : Port) (u : PortUnit) : (d.setPort p u).todo = d.todo := by cases p <;> rfl
@[simp] theorem Dev.setPort_sent (d : Dev) (p : Port) (u : PortUnit) : (d.setPort p u).sent = d.sent := by cases p <;> rfl
@[simp] theorem Dev.setPort_races (d : Dev) (p : Port) (u : PortUnit) : (d.setPort p u).races = d.races := by cases p <;> rfl

/-! ### modPort -/

@[simp] theorem Dev.modPort_phase (d : Dev) (p : Port) (f : PortUnit → PortUnit) : (d.modPort p f).phase = d.phase := by cases p <;> rfl
@[simp] theorem Dev.modPort_cat (d : Dev) (p : Port) (f : PortUnit → PortUnit) : (d.modPort p f).cat = d.cat := by cases p <;> rfl
@[simp] theorem Dev.modPort_cfg (d : Dev) (p : Port) (f : PortUnit → PortUnit) : (d.modPort p f).cfg = d.cfg := by cases p <;> rfl
@[simp] theorem Dev.modPort_cst (d : Dev) (p : Port) (f : PortUnit → PortUnit) : (d.modPort p f).cst = d.cst := by cases p <;> rfl
@[simp] theorem Dev.modPort_smc (d : Dev) (p : Port) (f : PortUnit → PortUnit) : (d.modPort p f).smc = d.smc := by cases p <;> rfl
@[simp] theorem Dev.modPort_ch (d : Dev) (p : Port) (f : PortUnit → PortUnit) : (d.modPort p f).ch = d.ch := by cases p <;> rfl
@[simp] theorem Dev.modPort_waitList (d : Dev) (p : Port) (f : PortUnit → PortUnit) : (d.modPort p f).waitList = d.waitList := by cases p <;> rfl
@[simp] theorem Dev.modPort_nextHandle (d : Dev) (p : Port) (f : PortUnit → PortUnit) : (d.modPort p f).nextHandle = d.nextHandle := by cases p <;> rfl
@[simp] theorem Dev.modPort_mqu (d : Dev) (p : Port) (f : PortUnit → PortUnit) : (d.modPort p f).mqu = d.mqu := by cases p <;> rfl
@[simp] theorem Dev.modPort_lines (d : Dev) (p : Port) (f : PortUnit → PortUnit) : (d.modPort p f).lines = d.lines := by cases p <;> rfl
@[simp] theorem Dev.modPort_doorOpen (d : Dev) (p : Port) (f : PortUnit → PortUnit) : (d.modPort p f).doorOpen = d.doorOpen := by cases p <;> rfl
@[simp] theorem Dev.modPort_resetReq (d : Dev) (p : Port) (f : PortUnit → PortUnit) : (d.modPort p f).resetReq = d.resetReq := by cases p <;> rfl
@[simp] theorem Dev.modPort_todo (d : Dev) (p : Port) (f : PortUnit → PortUnit) : (d.modPort p f).todo = d.todo := by cases p <;> rfl
@[simp] theorem Dev.modPort_sent (d : Dev) (p : Port) (f : PortUnit → PortUnit) : (d.modPort p f).sent = d.sent := by cases p <;> rfl
@[simp] theorem Dev.modPort_races (d : Dev) (p : Port) (f : PortUnit → PortUnit) : (d.modPort p f).races = d.races := by cases p <;> rfl

/-! ### modMqu -/

@[simp] theorem Dev.modMqu_phase (d : Dev) (f : Mover → Mover) : (d.modMqu f).phase = d.phase := rfl
@[simp] theorem Dev.modMqu_cat (d : Dev) (f : Mover → Mover) : (d.modMqu f).cat = d.cat := rfl
@[simp] theorem Dev.modMqu_cfg (d : Dev) (f : Mover → Mover) : (d.modMqu f).cfg = d.cfg := rfl
@[simp] theorem Dev.modMqu_cst (d : Dev) (f : Mover → Mover) : (d.modMqu f).cst = d.cst := rfl
@[simp] theorem Dev.modMqu_smc (d : Dev) (f : Mover → Mover) : (d.modMqu f).smc = d.smc := rfl
@[simp] theorem Dev.modMqu_ch (d : Dev) (f : Mover → Mover) : (d.modMqu f).ch = d.ch := rfl
@[simp] theorem Dev.modMqu_waitList (d : Dev) (f : Mover → Mover) : (d.modMqu f).waitList = d.waitList := rfl
@[simp] theorem Dev.modMqu_nextHandle (d : Dev) (f : Mover → Mover) : (d.modMqu f).nextHandle = d.nextHandle := rfl
@[simp] theorem Dev.modMqu_lines (d : Dev) (f : Mover → Mover) : (d.modMqu f).lines = d.lines := rfl
@[simp] theorem Dev.modMqu_doorOpen (d : Dev) (f : Mover → Mover) : (d.modMqu f).doorOpen = d.doorOpen := rfl
@[simp] theorem Dev.modMqu_pa (d : Dev) (f : Mover → Mover) : (d.modMqu f).pa = d.pa := rfl
@[simp] theorem Dev.modMqu_pb (d : Dev) (f : Mover → Mover) : (d.modMqu f).pb = d.pb := rfl
@[simp] theorem Dev.modMqu_pp (d : Dev) (f : Mover → Mover) : (d.modMqu f).pp = d.pp := rfl
@[simp] theorem Dev.modMqu_resetReq (d : Dev) (f : Mover → Mover) : (d.modMqu f).resetReq = d.resetReq := rfl
@[simp] theorem Dev.modMqu_todo (d : Dev) (f : Mover → Mover) : (d.modMqu f).todo = d.todo := rfl
@[simp] theorem Dev.modMqu_sent (d : Dev) (f : Mover → Mover) : (d.modMqu f).sent = d.sent := rfl
@[simp] theorem Dev.modMqu_races (d : Dev) (f : Mover → Mover) : (d.modMqu f).races = d.races := rfl

/-! ### modCst -/

@[simp] theorem Dev.modCst_phase (d : Dev) (f : Store → Store) : (d.modCst f).phase = d.phase := rfl
@[simp] theorem Dev.modCst_cat (d : Dev) (f : Store → Store) : (d.modCst f).cat = d.cat := rfl
@[simp] theorem Dev.modCst_cfg (d : Dev) (f : Store → Store) : (d.modCst f).cfg = d.cfg := rfl
@[simp] theorem Dev.modCst_smc (d : Dev) (f : Store → Store) : (d.modCst f).smc = d.smc := rfl
@[simp] theorem Dev.modCst_ch (d : Dev) (f : Store → Store) : (d.modCst f).ch = d.ch := rfl
@[simp] theorem Dev.modCst_waitList (d : Dev) (f : Store → Store) : (d.modCst f).waitList = d.waitList := rfl
@[simp] theorem Dev.modCst_nextHandle (d : Dev) (f : Store → Store) : (d.modCst f).nextHandle = d.nextHandle := rfl
@[simp] theorem Dev.modCst_mqu (d : Dev) (f : Store → Store) : (d.modCst f).mqu = d.mqu := rfl
@[simp] theorem Dev.modCst_lines (d : Dev) (f : Store → Store) : (d.modCst f).lines = d.lines := rfl
@[simp] theorem Dev.modCst_doorOpen (d : Dev) (f : Store → Store) : (d.modCst f).doorOpen = d.doorOpen := rfl
@[simp] theorem Dev.modCst_pa (d : Dev) (f : Store → Store) : (d.modCst f).pa = d.pa := rfl
@[simp] theorem Dev.modCst_pb (d : Dev) (f : Store → Store) : (d.modCst f).pb = d.pb := rfl
@[simp] theorem Dev.modCst_pp (d : Dev) (f : Store → Store) : (d.modCst f).pp = d.pp := rfl
@[simp] theorem Dev.modCst_resetReq (d : Dev) (f : Store → Store) : (d.modCst f).resetReq = d.resetReq := rfl
@[simp] theorem Dev.modCst_todo (d : Dev) (f : Store → Store) : (d.modCst f).todo = d.todo := rfl
@[simp] theorem Dev.modCst_sent (d : Dev) (f : Store → Store) : (d.modCst f).sent = d.sent := rfl
@[simp] theorem Dev.modCst_races (d : Dev) (f : Store → Store) : (d.modCst f).races = d.races := rfl

/-! ### modCat -/

@[simp] theorem Dev.modCat_phase (d : Dev) (f : Catalogue → Catalogue) : (d.modCat f).phase = d.phase := rfl
@[simp] theorem Dev.modCat_cfg (d : Dev) (f : Catalogue → Catalogue) : (d.modCat f).cfg = d.cfg := rfl
@[simp] theorem Dev.modCat_cst (d : Dev) (f : Catalogue → Catalogue) : (d.modCat f).cst = d.cst := rfl
@[simp] theorem Dev.modCat_smc (d : Dev) (f : Catalogue → Catalogue) : (d.modCat f).smc = d.smc := rfl
@[simp] theorem Dev.modCat_ch (d : Dev) (f : Catalogue → Catalogue) : (d.modCat f).ch = d.ch := rfl
@[simp] theorem Dev.modCat_waitList (d : Dev) (f : Catalogue → Catalogue) : (d.modCat f).waitList = d.waitList := rfl
@[simp] theorem Dev.modCat_nextHandle (d : Dev) (f : Catalogue → Catalogue) : (d.modCat f).nextHandle = d.nextHandle := rfl
@[simp] theorem Dev.modCat_mqu (d : Dev) (f : Catalogue → Catalogue) : (d.modCat f).mqu = d.mqu := rfl
@[simp] theorem Dev.modCat_lines (d : Dev) (f : Catalogue → Catalogue) : (d.modCat f).lines = d.lines := rfl
@[simp] theorem Dev.modCat_doorOpen (d : Dev) (f : Catalogue → Catalogue) : (d.modCat f).doorOpen = d.doorOpen := rfl
@[simp] theorem Dev.modCat_pa (d : Dev) (f : Catalogue → Catalogue) : (d.modCat f).pa = d.pa := rfl
@[simp] theorem Dev.modCat_pb (d : Dev) (f : Catalogue → Catalogue) : (d.modCat f).pb = d.pb := rfl
@[simp] theorem Dev.modCat_pp (d : Dev) (f : Catalogue → Catalogue) : (d.modCat f).pp = d.pp := rfl
@[simp] theorem Dev.modCat_resetReq (d : Dev) (f : Catalogue → Catalogue) : (d.modCat f).resetReq = d.resetReq := rfl
@[simp] theorem Dev.modCat_todo (d : Dev) (f : Catalogue → Catalogue) : (d.modCat f).todo = d.todo := rfl
@[simp] theorem Dev.modCat_sent (d : Dev) (f : Catalogue → Catalogue) : (d.modCat f).sent = d.sent := rfl
@[simp] theorem Dev.modCat_races (d : Dev) (f : Catalogue → Catalogue) : (d.modCat f).races = d.races := rfl

/-! ### emit -/

@[simp] theorem Dev.emit_phase (d : Dev) (m : LinkMsg) : (d.emit m).phase = d.phase := rfl
@[simp] theorem Dev.emit_cat (d : Dev) (m : LinkMsg) : (d.emit m).cat = d.cat := rfl
@[simp] theorem Dev.emit_cfg (d : Dev) (m : LinkMsg) : (d.emit m).cfg = d.cfg := rfl
@[simp] theorem Dev.emit_cst (d : Dev) (m : LinkMsg) : (d.emit m).cst = d.cst := rfl
@[simp] theorem Dev.emit_smc (d : Dev) (m : LinkMsg) : (d.emit m).smc = d.smc := rfl
@[simp] theorem Dev.emit_ch (d : Dev) (m : LinkMsg) : (d.emit m).ch = d.ch := rfl
@[simp] theorem Dev.emit_waitList (d : Dev) (m : LinkMsg) : (d.emit m).waitList = d.waitList := rfl
@[simp] theorem Dev.emit_nextHandle (d : Dev) (m : LinkMsg) : (d.emit m).nextHandle = d.nextHandle := rfl
@[simp] theorem Dev.emit_mqu (d : Dev) (m : LinkMsg) : (d.emit m).mqu = d.mqu := rfl
@[simp] theorem Dev.emit_lines (d : Dev) (m : LinkMsg) : (d.emit m).lines = d.lines := rfl
@[simp] theorem Dev.emit_doorOpen (d : Dev) (m : LinkMsg) : (d.emit m).doorOpen = d.doorOpen := rfl
@[simp] theorem Dev.emit_pa (d : Dev) (m : LinkMsg) : (d.emit m).pa = d.pa := rfl
@[simp] theorem Dev.emit_pb (d : Dev) (m : LinkMsg) : (d.emit m).pb = d.pb := rfl
@[simp] theorem Dev.emit_pp (d : Dev) (m : LinkMsg) : (d.emit m).pp = d.pp := rfl
@[simp] theorem Dev.emit_resetReq (d : Dev) (m : LinkMsg) : (d.emit m).resetReq = d.resetReq := rfl
@[simp] theorem Dev.emit_todo (d : Dev) (m : LinkMsg) : (d.emit m).todo = d.todo := rfl
@[simp] theorem Dev.emit_races (d : Dev) (m : LinkMsg) : (d.emit m).races = d.races := rfl

/-! ### push -/

@[simp] theorem Dev.push_phase (d : Dev) (t : Todo) : (d.push t).phase = d.phase := by unfold Dev.push; split <;> rfl
@[simp] theorem Dev.push_cat (d : Dev) (t : Todo) : (d.push t).cat = d.cat := by unfold Dev.push; split <;> rfl
@[simp] theorem Dev.push_cfg (d : Dev) (t : Todo) : (d.push t).cfg = d.cfg := by unfold Dev.push; split <;> rfl
@[simp] theorem Dev.push_cst (d : Dev) (t : Todo) : (d.push t).cst = d.cst := by unfold Dev.push; split <;> rfl
@[simp] theorem Dev.push_smc (d : Dev) (t : Todo) : (d.push t).smc = d.smc := by unfold Dev.push; split <;> rfl
@[simp] theorem Dev.push_ch (d : Dev) (t : Todo) : (d.push t).ch = d.ch := by unfold Dev.push; split <;> rfl
@[simp] theorem Dev.push_waitList (d : Dev) (t : Todo) : (d.push t).waitList = d.waitList := by unfold Dev.push; split <;> rfl
@[simp] theorem Dev.push_nextHandle (d : Dev) (t : Todo) : (d.push t).nextHandle = d.nextHandle := by unfold Dev.push; split <;> rfl
@[simp] theorem Dev.push_mqu (d : Dev) (t : Todo) : (d.push t).mqu = d.mqu := by unfold Dev.push; split <;> rfl
@[simp] theorem Dev.push_lines (d : Dev) (t : Todo) : (d.push t).lines = d.lines := by unfold Dev.push; split <;> rfl
@[simp] theorem Dev.push_doorOpen (d : Dev) (t : Todo) : (d.push t).doorOpen = d.doorOpen := by unfold Dev.push; split <;> rfl
@[simp] theorem Dev.push_pa (d : Dev) (t : Todo) : (d.push t).pa = d.pa := by unfold Dev.push; split <;> rfl
@[simp] theorem Dev.push_pb (d : Dev) (t : Todo) : (d.push t).pb = d.pb := by unfold Dev.push; split <;> rfl
@[simp] theorem Dev.push_pp (d : Dev) (t : Todo) : (d.push t).pp = d.pp := by unfold Dev.push; split <;> rfl
@[simp] theorem Dev.push_resetReq (d : Dev) (t : Todo) : (d.push t).resetReq = d.resetReq := by unfold Dev.push; split <;> rfl
@[simp] theorem Dev.push_sent (d : Dev) (t : Todo) : (d.push t).sent = d.sent := by unfold Dev.push; split <;> rfl
@[simp] theorem Dev.push_races (d : Dev) (t : Todo) : (d.push t).races = d.races := by unfold Dev.push; split <;> rfl

/-! ### pushFront -/

@[simp] theorem Dev.pushFront_phase (d : Dev) (l : List Todo) : (d.pushFront l).phase = d.phase := rfl
@[simp] theorem Dev.pushFront_cat (d : Dev) (l : List Todo) : (d.pushFront l).cat = d.cat := rfl
@[simp] theorem Dev.pushFront_cfg (d : Dev) (l : List Todo) : (d.pushFront l).cfg = d.cfg := rfl
@[simp] theorem Dev.pushFront_cst (d : Dev) (l : List Todo) : (d.pushFront l).cst = d.cst := rfl
@[simp] theorem Dev.pushFront_smc (d : Dev) (l : List Todo) : (d.pushFront l).smc = d.smc := rfl
@[simp] theorem Dev.pushFront_ch (d : Dev) (l : List Todo) : (d.pushFront l).ch = d.ch := rfl
@[simp] theorem Dev.pushFront_waitList (d : Dev) (l : List Todo) : (d.pushFront l).waitList = d.waitList := rfl
@[simp] theorem Dev.pushFront_nextHandle (d : Dev) (l : List Todo) : (d.pushFront l).nextHandle = d.nextHandle := rfl
@[simp] theorem Dev.pushFront_mqu (d : Dev) (l : List Todo) : (d.pushFront l).mqu = d.mqu := rfl
@[simp] theorem Dev.pushFront_lines (d : Dev) (l : List Todo) : (d.pushFront l).lines = d.lines := rfl
@[simp] theorem Dev.pushFront_doorOpen (d : Dev) (l : List Todo) : (d.pushFront l).doorOpen = d.doorOpen := rfl
@[simp] theorem Dev.pushFront_pa (d : Dev) (l : List Todo) : (d.pushFront l).pa = d.pa := rfl
@[simp] theorem Dev.pushFront_pb (d : Dev) (l : List Todo) : (d.pushFront l).pb = d.pb := rfl
@[simp] theorem Dev.pushFront_pp (d : Dev) (l : List Todo) : (d.pushFront l).pp = d.pp := rfl
@[simp] theorem Dev.pushFront_resetReq (d : Dev) (l : List Todo) : (d.pushFront l).resetReq = d.resetReq := rfl
@[simp] theorem Dev.pushFront_sent (d : Dev) (l : List Todo) : (d.pushFront l).sent = d.sent := rfl
@[simp] theorem Dev.pushFront_races (d : Dev) (l : List Todo) : (d.pushFront l).races = d.races := rfl

/-! ### begin -/

@[simp] theorem Dev.begin_phase (d : Dev) : d.begin.phase = d.phase := rfl
@[simp] theorem Dev.begin_cat (d : Dev) : d.begin.cat = d.cat := rfl
@[simp] theorem Dev.begin_cfg (d : Dev) : d.begin.cfg = d.cfg := rfl
@[simp] theorem Dev.begin_cst (d : Dev) : d.begin.cst = d.cst := rfl
@[simp] theorem Dev.begin_smc (d : Dev) : d.begin.smc = d.smc := rfl
@[simp] theorem Dev.begin_ch (d : Dev) : d.begin.ch = d.ch := rfl
@[simp] theorem Dev.begin_waitList (d : Dev) : d.begin.waitList = d.waitList := rfl
@[simp] theorem Dev.begin_nextHandle (d : Dev) : d.begin.nextHandle = d.nextHandle := rfl
@[simp] theorem Dev.begin_mqu (d : Dev) : d.begin.mqu = d.mqu := rfl
@[simp] theorem Dev.begin_lines (d : Dev) : d.begin.lines = d.lines := rfl
@[simp] theorem Dev.begin_doorOpen (d : Dev) : d.begin.doorOpen = d.doorOpen := rfl
@[simp] theorem Dev.begin_pa (d : Dev) : d.begin.pa = d.pa := rfl
@[simp] theorem Dev.begin_pb (d : Dev) : d.begin.pb = d.pb := rfl
@[simp] theorem Dev.begin_pp (d : Dev) : d.begin.pp = d.pp := rfl
@[simp] theorem Dev.begin_resetReq (d : Dev) : d.begin.resetReq = d.resetReq := rfl
@[simp] theorem Dev.begin_todo (d : Dev) : d.begin.todo = d.todo := rfl
@[simp] theorem Dev.begin_races (d : Dev) : d.begin.races = d.races := rfl

/-! ### The fields that change -/

@[simp] theorem Dev.modMqu_mqu (d : Dev) (f : Mover → Mover) : (d.modMqu f).mqu = f d.mqu := rfl
@[simp] theorem Dev.modCst_cst (d : Dev) (f : Store → Store) : (d.modCst f).cst = f d.cst := rfl
@[simp] theorem Dev.modCat_cat (d : Dev) (f : Catalogue → Catalogue) : (d.modCat f).cat = f d.cat := rfl
@[simp] theorem Dev.emit_sent (d : Dev) (m : LinkMsg) : (d.emit m).sent = d.sent ++ [m] := rfl
@[simp] theorem Dev.begin_sent (d : Dev) : d.begin.sent = [] := rfl
@[simp] theorem Dev.pushFront_todo (d : Dev) (l : List Todo) : (d.pushFront l).todo = l ++ d.todo.filter (· ∉ l) := rfl

/-! ### Pairs, channels and ports -/

@[simp] theorem Pair.get_set {α : Type} (p : Pair α) (c : Chan) (x : α) : (p.set c x).get c = x := by cases c <;> rfl
theorem Pair.get_set_of_ne {α : Type} (p : Pair α) (c c' : Chan) (x : α) (h : c' ≠ c) : (p.set c x).get c' = p.get c' := by
  cases c <;> cases c' <;> first | rfl | exact absurd rfl h
@[simp] theorem Pair.set_set {α : Type} (p : Pair α) (c : Chan) (x y : α) : (p.set c x).set c y = p.set c y := by cases c <;> rfl
@[simp] theorem Pair.set_get {α : Type} (p : Pair α) (c : Chan) : p.set c (p.get c) = p := by cases c <;> rfl

@[simp] theorem Dev.chan_setChan (d : Dev) (c : Chan) (x : Channel) : (d.setChan c x).chan c = x := by cases c <;> rfl
theorem Dev.chan_setChan_of_ne (d : Dev) (c c' : Chan) (x : Channel) (h : c' ≠ c) : (d.setChan c x).chan c' = d.chan c' :=
  Pair.get_set_of_ne d.ch c c' x h
@[simp] theorem Dev.chan_modChan (d : Dev) (c : Chan) (f : Channel → Channel) : (d.modChan c f).chan c = f (d.chan c) := by
  cases c <;> rfl
@[simp] theorem Dev.drive_modDrive (d : Dev) (c : Chan) (f : Drive → Drive) : (d.modDrive c f).drive c = f (d.drive c) := by
  cases c <;> rfl
@[simp] theorem Dev.sess_modDrive (d : Dev) (c c' : Chan) (f : Drive → Drive) : (d.modDrive c f).sess c' = d.sess c' := by
  cases c <;> cases c' <;> rfl
@[simp] theorem Dev.sess_setSess (d : Dev) (c : Chan) (x : Option Session) : (d.setSess c x).sess c = x := by cases c <;> rfl
@[simp] theorem Dev.sess_modSess (d : Dev) (c : Chan) (f : Session → Session) : (d.modSess c f).sess c = (d.sess c).map f := by
  cases c <;> rfl
@[simp] theorem Dev.drive_modSess (d : Dev) (c c' : Chan) (f : Session → Session) : (d.modSess c f).drive c' = d.drive c' := by
  cases c <;> cases c' <;> rfl

@[simp] theorem Dev.port_setPort (d : Dev) (p : Port) (u : PortUnit) : (d.setPort p u).port p = u := by cases p <;> rfl
theorem Dev.port_setPort_of_ne (d : Dev) (p p' : Port) (u : PortUnit) (h : p' ≠ p) : (d.setPort p u).port p' = d.port p' := by
  cases p <;> cases p' <;> first | rfl | exact absurd rfl h
@[simp] theorem Dev.setPort_setPort (d : Dev) (p : Port) (u v : PortUnit) : (d.setPort p u).setPort p v = d.setPort p v := by
  cases p <;> rfl
@[simp] theorem Dev.port_modPort (d : Dev) (p : Port) (f : PortUnit → PortUnit) : (d.modPort p f).port p = f (d.port p) := by
  cases p <;> rfl
@[simp] theorem Dev.port_setChan (d : Dev) (c : Chan) (x : Channel) (q : Port) : (d.setChan c x).port q = d.port q := by cases q <;> rfl
@[simp] theorem Dev.port_modChan (d : Dev) (c : Chan) (f : Channel → Channel) (q : Port) : (d.modChan c f).port q = d.port q := by cases q <;> rfl
@[simp] theorem Dev.port_modDrive (d : Dev) (c : Chan) (f : Drive → Drive) (q : Port) : (d.modDrive c f).port q = d.port q := by cases q <;> rfl
@[simp] theorem Dev.port_setSess (d : Dev) (c : Chan) (x : Option Session) (q : Port) : (d.setSess c x).port q = d.port q := by cases q <;> rfl
@[simp] theorem Dev.port_modSess (d : Dev) (c : Chan) (f : Session → Session) (q : Port) : (d.modSess c f).port q = d.port q := by cases q <;> rfl
@[simp] theorem Dev.chan_setPort (d : Dev) (p : Port) (u : PortUnit) (k : Chan) : (d.setPort p u).chan k = d.chan k := by cases p <;> rfl
@[simp] theorem Dev.drive_setPort (d : Dev) (p : Port) (u : PortUnit) (k : Chan) : (d.setPort p u).drive k = d.drive k := by cases p <;> rfl
@[simp] theorem Dev.sess_setPort (d : Dev) (p : Port) (u : PortUnit) (k : Chan) : (d.setPort p u).sess k = d.sess k := by cases p <;> rfl
@[simp] theorem Dev.chan_modPort (d : Dev) (p : Port) (f : PortUnit → PortUnit) (k : Chan) : (d.modPort p f).chan k = d.chan k := by cases p <;> rfl
@[simp] theorem Dev.drive_modPort (d : Dev) (p : Port) (f : PortUnit → PortUnit) (k : Chan) : (d.modPort p f).drive k = d.drive k := by cases p <;> rfl
@[simp] theorem Dev.sess_modPort (d : Dev) (p : Port) (f : PortUnit → PortUnit) (k : Chan) : (d.modPort p f).sess k = d.sess k := by cases p <;> rfl
@[simp] theorem Dev.chan_modMqu (d : Dev) (f : Mover → Mover) (k : Chan) : (d.modMqu f).chan k = d.chan k := rfl
@[simp] theorem Dev.drive_modMqu (d : Dev) (f : Mover → Mover) (k : Chan) : (d.modMqu f).drive k = d.drive k := rfl
@[simp] theorem Dev.sess_modMqu (d : Dev) (f : Mover → Mover) (k : Chan) : (d.modMqu f).sess k = d.sess k := rfl
@[simp] theorem Dev.port_modMqu (d : Dev) (f : Mover → Mover) (q : Port) : (d.modMqu f).port q = d.port q := by cases q <;> rfl
@[simp] theorem Dev.chan_modCst (d : Dev) (f : Store → Store) (k : Chan) : (d.modCst f).chan k = d.chan k := rfl
@[simp] theorem Dev.drive_modCst (d : Dev) (f : Store → Store) (k : Chan) : (d.modCst f).drive k = d.drive k := rfl
@[simp] theorem Dev.sess_modCst (d : Dev) (f : Store → Store) (k : Chan) : (d.modCst f).sess k = d.sess k := rfl
@[simp] theorem Dev.port_modCst (d : Dev) (f : Store → Store) (q : Port) : (d.modCst f).port q = d.port q := by cases q <;> rfl
@[simp] theorem Dev.chan_modCat (d : Dev) (f : Catalogue → Catalogue) (k : Chan) : (d.modCat f).chan k = d.chan k := rfl
@[simp] theorem Dev.drive_modCat (d : Dev) (f : Catalogue → Catalogue) (k : Chan) : (d.modCat f).drive k = d.drive k := rfl
@[simp] theorem Dev.sess_modCat (d : Dev) (f : Catalogue → Catalogue) (k : Chan) : (d.modCat f).sess k = d.sess k := rfl
@[simp] theorem Dev.port_modCat (d : Dev) (f : Catalogue → Catalogue) (q : Port) : (d.modCat f).port q = d.port q := by cases q <;> rfl
@[simp] theorem Dev.chan_emit (d : Dev) (m : LinkMsg) (k : Chan) : (d.emit m).chan k = d.chan k := rfl
@[simp] theorem Dev.drive_emit (d : Dev) (m : LinkMsg) (k : Chan) : (d.emit m).drive k = d.drive k := rfl
@[simp] theorem Dev.sess_emit (d : Dev) (m : LinkMsg) (k : Chan) : (d.emit m).sess k = d.sess k := rfl
@[simp] theorem Dev.port_emit (d : Dev) (m : LinkMsg) (q : Port) : (d.emit m).port q = d.port q := by cases q <;> rfl
@[simp] theorem Dev.chan_push (d : Dev) (t : Todo) (k : Chan) : (d.push t).chan k = d.chan k := by unfold Dev.push; split <;> rfl
@[simp] theorem Dev.drive_push (d : Dev) (t : Todo) (k : Chan) : (d.push t).drive k = d.drive k := by unfold Dev.push; split <;> rfl
@[simp] theorem Dev.sess_push (d : Dev) (t : Todo) (k : Chan) : (d.push t).sess k = d.sess k := by unfold Dev.push; split <;> rfl
@[simp] theorem Dev.port_push (d : Dev) (t : Todo) (q : Port) : (d.push t).port q = d.port q := by unfold Dev.push; split <;> cases q <;> rfl
@[simp] theorem Dev.chan_pushFront (d : Dev) (l : List Todo) (k : Chan) : (d.pushFront l).chan k = d.chan k := rfl
@[simp] theorem Dev.drive_pushFront (d : Dev) (l : List Todo) (k : Chan) : (d.pushFront l).drive k = d.drive k := rfl
@[simp] theorem Dev.sess_pushFront (d : Dev) (l : List Todo) (k : Chan) : (d.pushFront l).sess k = d.sess k := rfl
@[simp] theorem Dev.port_pushFront (d : Dev) (l : List Todo) (q : Port) : (d.pushFront l).port q = d.port q := by cases q <;> rfl
@[simp] theorem Dev.chan_begin (d : Dev) (k : Chan) : d.begin.chan k = d.chan k := rfl
@[simp] theorem Dev.drive_begin (d : Dev) (k : Chan) : d.begin.drive k = d.drive k := rfl
@[simp] theorem Dev.sess_begin (d : Dev) (k : Chan) : d.begin.sess k = d.sess k := rfl
@[simp] theorem Dev.port_begin (d : Dev) (q : Port) : d.begin.port q = d.port q := by cases q <;> rfl

end Sys2Proof.Machine
end

