-- ==== Sys2Proof/Laws/Ops.lean ====
section
/-! SUPPORT. What the shared operations do, said once for each: the fields they leave alone, and what they change. -/

namespace Sys2Proof.Machine

/-! ### Follow-ups -/

theorem Dev.push_todo (d : Dev) (t : Todo) : (d.push t).todo = if t ∈ d.todo then d.todo else d.todo ++ [t] := by
  unfold Dev.push; split <;> rfl

theorem Dev.mem_push (d : Dev) (t : Todo) : t ∈ (d.push t).todo := by
  rw [Dev.push_todo]; split <;> simp_all

@[simp] theorem Dev.pushAll_nil (d : Dev) : d.pushAll [] = d := rfl
@[simp] theorem Dev.pushAll_cons (d : Dev) (t : Todo) (ts : List Todo) : d.pushAll (t :: ts) = (d.push t).pushAll ts := rfl

/-- With nothing to follow, a command's effect stands as it is. -/
theorem Dev.settle_idle (n : Nat) (d : Dev) (h : d.todo = []) : d.settle n = d := by
  cases n <;> simp [Dev.settle, h]

theorem Dev.finish_idle (d : Dev) (h : d.todo = []) : d.finish = d := Dev.settle_idle _ d h

/-! ### pushAll -/

@[simp] theorem Dev.pushAll_phase (d : Dev) (ts : List Todo) : (d.pushAll ts).phase = d.phase := by
  induction ts generalizing d with
  | nil => rfl
  | cons t ts ih => simp [ih]
@[simp] theorem Dev.pushAll_cat (d : Dev) (ts : List Todo) : (d.pushAll ts).cat = d.cat := by
  induction ts generalizing d with
  | nil => rfl
  | cons t ts ih => simp [ih]
@[simp] theorem Dev.pushAll_cfg (d : Dev) (ts : List Todo) : (d.pushAll ts).cfg = d.cfg := by
  induction ts generalizing d with
  | nil => rfl
  | cons t ts ih => simp [ih]
@[simp] theorem Dev.pushAll_cst (d : Dev) (ts : List Todo) : (d.pushAll ts).cst = d.cst := by
  induction ts generalizing d with
  | nil => rfl
  | cons t ts ih => simp [ih]
@[simp] theorem Dev.pushAll_smc (d : Dev) (ts : List Todo) : (d.pushAll ts).smc = d.smc := by
  induction ts generalizing d with
  | nil => rfl
  | cons t ts ih => simp [ih]
@[simp] theorem Dev.pushAll_ch (d : Dev) (ts : List Todo) : (d.pushAll ts).ch = d.ch := by
  induction ts generalizing d with
  | nil => rfl
  | cons t ts ih => simp [ih]
@[simp] theorem Dev.pushAll_waitList (d : Dev) (ts : List Todo) : (d.pushAll ts).waitList = d.waitList := by
  induction ts generalizing d with
  | nil => rfl
  | cons t ts ih => simp [ih]
@[simp] theorem Dev.pushAll_nextHandle (d : Dev) (ts : List Todo) : (d.pushAll ts).nextHandle = d.nextHandle := by
  induction ts generalizing d with
  | nil => rfl
  | cons t ts ih => simp [ih]
@[simp] theorem Dev.pushAll_mqu (d : Dev) (ts : List Todo) : (d.pushAll ts).mqu = d.mqu := by
  induction ts generalizing d with
  | nil => rfl
  | cons t ts ih => simp [ih]
@[simp] theorem Dev.pushAll_lines (d : Dev) (ts : List Todo) : (d.pushAll ts).lines = d.lines := by
  induction ts generalizing d with
  | nil => rfl
  | cons t ts ih => simp [ih]
@[simp] theorem Dev.pushAll_doorOpen (d : Dev) (ts : List Todo) : (d.pushAll ts).doorOpen = d.doorOpen := by
  induction ts generalizing d with
  | nil => rfl
  | cons t ts ih => simp [ih]
@[simp] theorem Dev.pushAll_pa (d : Dev) (ts : List Todo) : (d.pushAll ts).pa = d.pa := by
  induction ts generalizing d with
  | nil => rfl
  | cons t ts ih => simp [ih]
@[simp] theorem Dev.pushAll_pb (d : Dev) (ts : List Todo) : (d.pushAll ts).pb = d.pb := by
  induction ts generalizing d with
  | nil => rfl
  | cons t ts ih => simp [ih]
@[simp] theorem Dev.pushAll_pp (d : Dev) (ts : List Todo) : (d.pushAll ts).pp = d.pp := by
  induction ts generalizing d with
  | nil => rfl
  | cons t ts ih => simp [ih]
@[simp] theorem Dev.pushAll_resetReq (d : Dev) (ts : List Todo) : (d.pushAll ts).resetReq = d.resetReq := by
  induction ts generalizing d with
  | nil => rfl
  | cons t ts ih => simp [ih]
@[simp] theorem Dev.pushAll_sent (d : Dev) (ts : List Todo) : (d.pushAll ts).sent = d.sent := by
  induction ts generalizing d with
  | nil => rfl
  | cons t ts ih => simp [ih]
@[simp] theorem Dev.pushAll_races (d : Dev) (ts : List Todo) : (d.pushAll ts).races = d.races := by
  induction ts generalizing d with
  | nil => rfl
  | cons t ts ih => simp [ih]

/-! ### look -/

@[simp] theorem Dev.look_phase (d : Dev) : (d.look).phase = d.phase := by simp [Dev.look]
@[simp] theorem Dev.look_cat (d : Dev) : (d.look).cat = d.cat := by simp [Dev.look]
@[simp] theorem Dev.look_cfg (d : Dev) : (d.look).cfg = d.cfg := by simp [Dev.look]
@[simp] theorem Dev.look_cst (d : Dev) : (d.look).cst = d.cst := by simp [Dev.look]
@[simp] theorem Dev.look_smc (d : Dev) : (d.look).smc = d.smc := by simp [Dev.look]
@[simp] theorem Dev.look_ch (d : Dev) : (d.look).ch = d.ch := by simp [Dev.look]
@[simp] theorem Dev.look_waitList (d : Dev) : (d.look).waitList = d.waitList := by simp [Dev.look]
@[simp] theorem Dev.look_nextHandle (d : Dev) : (d.look).nextHandle = d.nextHandle := by simp [Dev.look]
@[simp] theorem Dev.look_mqu (d : Dev) : (d.look).mqu = d.mqu := by simp [Dev.look]
@[simp] theorem Dev.look_lines (d : Dev) : (d.look).lines = d.lines := by simp [Dev.look]
@[simp] theorem Dev.look_doorOpen (d : Dev) : (d.look).doorOpen = d.doorOpen := by simp [Dev.look]
@[simp] theorem Dev.look_pa (d : Dev) : (d.look).pa = d.pa := by simp [Dev.look]
@[simp] theorem Dev.look_pb (d : Dev) : (d.look).pb = d.pb := by simp [Dev.look]
@[simp] theorem Dev.look_pp (d : Dev) : (d.look).pp = d.pp := by simp [Dev.look]
@[simp] theorem Dev.look_resetReq (d : Dev) : (d.look).resetReq = d.resetReq := by simp [Dev.look]
@[simp] theorem Dev.look_sent (d : Dev) : (d.look).sent = d.sent := by simp [Dev.look]
@[simp] theorem Dev.look_races (d : Dev) : (d.look).races = d.races := by simp [Dev.look]

/-! ### placeChanged -/

@[simp] theorem Dev.placeChanged_phase (d : Dev) : (d.placeChanged).phase = d.phase := by simp [Dev.placeChanged]
@[simp] theorem Dev.placeChanged_cat (d : Dev) : (d.placeChanged).cat = d.cat := by simp [Dev.placeChanged]
@[simp] theorem Dev.placeChanged_cfg (d : Dev) : (d.placeChanged).cfg = d.cfg := by simp [Dev.placeChanged]
@[simp] theorem Dev.placeChanged_cst (d : Dev) : (d.placeChanged).cst = d.cst := by simp [Dev.placeChanged]
@[simp] theorem Dev.placeChanged_smc (d : Dev) : (d.placeChanged).smc = d.smc := by simp [Dev.placeChanged]
@[simp] theorem Dev.placeChanged_ch (d : Dev) : (d.placeChanged).ch = d.ch := by simp [Dev.placeChanged]
@[simp] theorem Dev.placeChanged_waitList (d : Dev) : (d.placeChanged).waitList = d.waitList := by simp [Dev.placeChanged]
@[simp] theorem Dev.placeChanged_nextHandle (d : Dev) : (d.placeChanged).nextHandle = d.nextHandle := by simp [Dev.placeChanged]
@[simp] theorem Dev.placeChanged_mqu (d : Dev) : (d.placeChanged).mqu = d.mqu := by simp [Dev.placeChanged]
@[simp] theorem Dev.placeChanged_lines (d : Dev) : (d.placeChanged).lines = d.lines := by simp [Dev.placeChanged]
@[simp] theorem Dev.placeChanged_doorOpen (d : Dev) : (d.placeChanged).doorOpen = d.doorOpen := by simp [Dev.placeChanged]
@[simp] theorem Dev.placeChanged_pa (d : Dev) : (d.placeChanged).pa = d.pa := by simp [Dev.placeChanged]
@[simp] theorem Dev.placeChanged_pb (d : Dev) : (d.placeChanged).pb = d.pb := by simp [Dev.placeChanged]
@[simp] theorem Dev.placeChanged_pp (d : Dev) : (d.placeChanged).pp = d.pp := by simp [Dev.placeChanged]
@[simp] theorem Dev.placeChanged_resetReq (d : Dev) : (d.placeChanged).resetReq = d.resetReq := by simp [Dev.placeChanged]
@[simp] theorem Dev.placeChanged_sent (d : Dev) : (d.placeChanged).sent = d.sent := by simp [Dev.placeChanged]
@[simp] theorem Dev.placeChanged_races (d : Dev) : (d.placeChanged).races = d.races := by simp [Dev.placeChanged]

/-! ### reselect -/

@[simp] theorem Dev.reselect_phase (d : Dev) : (d.reselect).phase = d.phase := by simp [Dev.reselect]
@[simp] theorem Dev.reselect_cat (d : Dev) : (d.reselect).cat = d.cat := by simp [Dev.reselect]
@[simp] theorem Dev.reselect_cfg (d : Dev) : (d.reselect).cfg = d.cfg := by simp [Dev.reselect]
@[simp] theorem Dev.reselect_cst (d : Dev) : (d.reselect).cst = d.cst := by simp [Dev.reselect]
@[simp] theorem Dev.reselect_smc (d : Dev) : (d.reselect).smc = d.smc := by simp [Dev.reselect]
@[simp] theorem Dev.reselect_ch (d : Dev) : (d.reselect).ch = d.ch := by simp [Dev.reselect]
@[simp] theorem Dev.reselect_waitList (d : Dev) : (d.reselect).waitList = d.waitList := by simp [Dev.reselect]
@[simp] theorem Dev.reselect_nextHandle (d : Dev) : (d.reselect).nextHandle = d.nextHandle := by simp [Dev.reselect]
@[simp] theorem Dev.reselect_mqu (d : Dev) : (d.reselect).mqu = d.mqu := by simp [Dev.reselect]
@[simp] theorem Dev.reselect_lines (d : Dev) : (d.reselect).lines = d.lines := by simp [Dev.reselect]
@[simp] theorem Dev.reselect_doorOpen (d : Dev) : (d.reselect).doorOpen = d.doorOpen := by simp [Dev.reselect]
@[simp] theorem Dev.reselect_pa (d : Dev) : (d.reselect).pa = d.pa := by simp [Dev.reselect]
@[simp] theorem Dev.reselect_pb (d : Dev) : (d.reselect).pb = d.pb := by simp [Dev.reselect]
@[simp] theorem Dev.reselect_pp (d : Dev) : (d.reselect).pp = d.pp := by simp [Dev.reselect]
@[simp] theorem Dev.reselect_resetReq (d : Dev) : (d.reselect).resetReq = d.resetReq := by simp [Dev.reselect]
@[simp] theorem Dev.reselect_sent (d : Dev) : (d.reselect).sent = d.sent := by simp [Dev.reselect]
@[simp] theorem Dev.reselect_races (d : Dev) : (d.reselect).races = d.races := by simp [Dev.reselect]

/-! ### dirty -/

@[simp] theorem Dev.dirty_phase (d : Dev) (b : Nat) : (d.dirty b).phase = d.phase := by simp [Dev.dirty]
@[simp] theorem Dev.dirty_cat (d : Dev) (b : Nat) : (d.dirty b).cat = d.cat := by simp [Dev.dirty]
@[simp] theorem Dev.dirty_cfg (d : Dev) (b : Nat) : (d.dirty b).cfg = d.cfg := by simp [Dev.dirty]
@[simp] theorem Dev.dirty_smc (d : Dev) (b : Nat) : (d.dirty b).smc = d.smc := by simp [Dev.dirty]
@[simp] theorem Dev.dirty_ch (d : Dev) (b : Nat) : (d.dirty b).ch = d.ch := by simp [Dev.dirty]
@[simp] theorem Dev.dirty_waitList (d : Dev) (b : Nat) : (d.dirty b).waitList = d.waitList := by simp [Dev.dirty]
@[simp] theorem Dev.dirty_nextHandle (d : Dev) (b : Nat) : (d.dirty b).nextHandle = d.nextHandle := by simp [Dev.dirty]
@[simp] theorem Dev.dirty_mqu (d : Dev) (b : Nat) : (d.dirty b).mqu = d.mqu := by simp [Dev.dirty]
@[simp] theorem Dev.dirty_lines (d : Dev) (b : Nat) : (d.dirty b).lines = d.lines := by simp [Dev.dirty]
@[simp] theorem Dev.dirty_doorOpen (d : Dev) (b : Nat) : (d.dirty b).doorOpen = d.doorOpen := by simp [Dev.dirty]
@[simp] theorem Dev.dirty_pa (d : Dev) (b : Nat) : (d.dirty b).pa = d.pa := by simp [Dev.dirty]
@[simp] theorem Dev.dirty_pb (d : Dev) (b : Nat) : (d.dirty b).pb = d.pb := by simp [Dev.dirty]
@[simp] theorem Dev.dirty_pp (d : Dev) (b : Nat) : (d.dirty b).pp = d.pp := by simp [Dev.dirty]
@[simp] theorem Dev.dirty_resetReq (d : Dev) (b : Nat) : (d.dirty b).resetReq = d.resetReq := by simp [Dev.dirty]
@[simp] theorem Dev.dirty_sent (d : Dev) (b : Nat) : (d.dirty b).sent = d.sent := by simp [Dev.dirty]
@[simp] theorem Dev.dirty_races (d : Dev) (b : Nat) : (d.dirty b).races = d.races := by simp [Dev.dirty]

/-! ### setPlace -/

@[simp] theorem Dev.setPlace_phase (d : Dev) (p : Place) (x : PlaceRec) : (d.setPlace p x).phase = d.phase := by rfl
@[simp] theorem Dev.setPlace_cfg (d : Dev) (p : Place) (x : PlaceRec) : (d.setPlace p x).cfg = d.cfg := by rfl
@[simp] theorem Dev.setPlace_cst (d : Dev) (p : Place) (x : PlaceRec) : (d.setPlace p x).cst = d.cst := by rfl
@[simp] theorem Dev.setPlace_smc (d : Dev) (p : Place) (x : PlaceRec) : (d.setPlace p x).smc = d.smc := by rfl
@[simp] theorem Dev.setPlace_ch (d : Dev) (p : Place) (x : PlaceRec) : (d.setPlace p x).ch = d.ch := by rfl
@[simp] theorem Dev.setPlace_waitList (d : Dev) (p : Place) (x : PlaceRec) : (d.setPlace p x).waitList = d.waitList := by rfl
@[simp] theorem Dev.setPlace_nextHandle (d : Dev) (p : Place) (x : PlaceRec) : (d.setPlace p x).nextHandle = d.nextHandle := by rfl
@[simp] theorem Dev.setPlace_mqu (d : Dev) (p : Place) (x : PlaceRec) : (d.setPlace p x).mqu = d.mqu := by rfl
@[simp] theorem Dev.setPlace_lines (d : Dev) (p : Place) (x : PlaceRec) : (d.setPlace p x).lines = d.lines := by rfl
@[simp] theorem Dev.setPlace_doorOpen (d : Dev) (p : Place) (x : PlaceRec) : (d.setPlace p x).doorOpen = d.doorOpen := by rfl
@[simp] theorem Dev.setPlace_pa (d : Dev) (p : Place) (x : PlaceRec) : (d.setPlace p x).pa = d.pa := by rfl
@[simp] theorem Dev.setPlace_pb (d : Dev) (p : Place) (x : PlaceRec) : (d.setPlace p x).pb = d.pb := by rfl
@[simp] theorem Dev.setPlace_pp (d : Dev) (p : Place) (x : PlaceRec) : (d.setPlace p x).pp = d.pp := by rfl
@[simp] theorem Dev.setPlace_resetReq (d : Dev) (p : Place) (x : PlaceRec) : (d.setPlace p x).resetReq = d.resetReq := by rfl
@[simp] theorem Dev.setPlace_todo (d : Dev) (p : Place) (x : PlaceRec) : (d.setPlace p x).todo = d.todo := by rfl
@[simp] theorem Dev.setPlace_sent (d : Dev) (p : Place) (x : PlaceRec) : (d.setPlace p x).sent = d.sent := by rfl
@[simp] theorem Dev.setPlace_races (d : Dev) (p : Place) (x : PlaceRec) : (d.setPlace p x).races = d.races := by rfl

/-! ### setConfirmed -/

@[simp] theorem Dev.setConfirmed_phase (d : Dev) (p : Place) (v : Bool) : (d.setConfirmed p v).phase = d.phase := by simp [Dev.setConfirmed]
@[simp] theorem Dev.setConfirmed_cfg (d : Dev) (p : Place) (v : Bool) : (d.setConfirmed p v).cfg = d.cfg := by simp [Dev.setConfirmed]
@[simp] theorem Dev.setConfirmed_cst (d : Dev) (p : Place) (v : Bool) : (d.setConfirmed p v).cst = d.cst := by simp [Dev.setConfirmed]
@[simp] theorem Dev.setConfirmed_smc (d : Dev) (p : Place) (v : Bool) : (d.setConfirmed p v).smc = d.smc := by simp [Dev.setConfirmed]
@[simp] theorem Dev.setConfirmed_ch (d : Dev) (p : Place) (v : Bool) : (d.setConfirmed p v).ch = d.ch := by simp [Dev.setConfirmed]
@[simp] theorem Dev.setConfirmed_waitList (d : Dev) (p : Place) (v : Bool) : (d.setConfirmed p v).waitList = d.waitList := by simp [Dev.setConfirmed]
@[simp] theorem Dev.setConfirmed_nextHandle (d : Dev) (p : Place) (v : Bool) : (d.setConfirmed p v).nextHandle = d.nextHandle := by simp [Dev.setConfirmed]
@[simp] theorem Dev.setConfirmed_mqu (d : Dev) (p : Place) (v : Bool) : (d.setConfirmed p v).mqu = d.mqu := by simp [Dev.setConfirmed]
@[simp] theorem Dev.setConfirmed_lines (d : Dev) (p : Place) (v : Bool) : (d.setConfirmed p v).lines = d.lines := by simp [Dev.setConfirmed]
@[simp] theorem Dev.setConfirmed_doorOpen (d : Dev) (p : Place) (v : Bool) : (d.setConfirmed p v).doorOpen = d.doorOpen := by simp [Dev.setConfirmed]
@[simp] theorem Dev.setConfirmed_pa (d : Dev) (p : Place) (v : Bool) : (d.setConfirmed p v).pa = d.pa := by simp [Dev.setConfirmed]
@[simp] theorem Dev.setConfirmed_pb (d : Dev) (p : Place) (v : Bool) : (d.setConfirmed p v).pb = d.pb := by simp [Dev.setConfirmed]
@[simp] theorem Dev.setConfirmed_pp (d : Dev) (p : Place) (v : Bool) : (d.setConfirmed p v).pp = d.pp := by simp [Dev.setConfirmed]
@[simp] theorem Dev.setConfirmed_resetReq (d : Dev) (p : Place) (v : Bool) : (d.setConfirmed p v).resetReq = d.resetReq := by simp [Dev.setConfirmed]
@[simp] theorem Dev.setConfirmed_sent (d : Dev) (p : Place) (v : Bool) : (d.setConfirmed p v).sent = d.sent := by simp [Dev.setConfirmed]
@[simp] theorem Dev.setConfirmed_races (d : Dev) (p : Place) (v : Bool) : (d.setConfirmed p v).races = d.races := by simp [Dev.setConfirmed]

/-! ### setOcc -/

@[simp] theorem Dev.setOcc_phase (d : Dev) (p : Place) (o : Occupant) : (d.setOcc p o).phase = d.phase := by unfold Dev.setOcc; split <;> simp
@[simp] theorem Dev.setOcc_cfg (d : Dev) (p : Place) (o : Occupant) : (d.setOcc p o).cfg = d.cfg := by unfold Dev.setOcc; split <;> simp
@[simp] theorem Dev.setOcc_cst (d : Dev) (p : Place) (o : Occupant) : (d.setOcc p o).cst = d.cst := by unfold Dev.setOcc; split <;> simp
@[simp] theorem Dev.setOcc_smc (d : Dev) (p : Place) (o : Occupant) : (d.setOcc p o).smc = d.smc := by unfold Dev.setOcc; split <;> simp
@[simp] theorem Dev.setOcc_ch (d : Dev) (p : Place) (o : Occupant) : (d.setOcc p o).ch = d.ch := by unfold Dev.setOcc; split <;> simp
@[simp] theorem Dev.setOcc_waitList (d : Dev) (p : Place) (o : Occupant) : (d.setOcc p o).waitList = d.waitList := by unfold Dev.setOcc; split <;> simp
@[simp] theorem Dev.setOcc_nextHandle (d : Dev) (p : Place) (o : Occupant) : (d.setOcc p o).nextHandle = d.nextHandle := by unfold Dev.setOcc; split <;> simp
@[simp] theorem Dev.setOcc_lines (d : Dev) (p : Place) (o : Occupant) : (d.setOcc p o).lines = d.lines := by unfold Dev.setOcc; split <;> simp
@[simp] theorem Dev.setOcc_doorOpen (d : Dev) (p : Place) (o : Occupant) : (d.setOcc p o).doorOpen = d.doorOpen := by unfold Dev.setOcc; split <;> simp
@[simp] theorem Dev.setOcc_pa (d : Dev) (p : Place) (o : Occupant) : (d.setOcc p o).pa = d.pa := by unfold Dev.setOcc; split <;> simp
@[simp] theorem Dev.setOcc_pb (d : Dev) (p : Place) (o : Occupant) : (d.setOcc p o).pb = d.pb := by unfold Dev.setOcc; split <;> simp
@[simp] theorem Dev.setOcc_pp (d : Dev) (p : Place) (o : Occupant) : (d.setOcc p o).pp = d.pp := by unfold Dev.setOcc; split <;> simp
@[simp] theorem Dev.setOcc_resetReq (d : Dev) (p : Place) (o : Occupant) : (d.setOcc p o).resetReq = d.resetReq := by unfold Dev.setOcc; split <;> simp
@[simp] theorem Dev.setOcc_sent (d : Dev) (p : Place) (o : Occupant) : (d.setOcc p o).sent = d.sent := by unfold Dev.setOcc; split <;> simp
@[simp] theorem Dev.setOcc_races (d : Dev) (p : Place) (o : Occupant) : (d.setOcc p o).races = d.races := by unfold Dev.setOcc; split <;> simp

/-! ### putCart -/

@[simp] theorem Dev.putCart_phase (d : Dev) (i : CartIx) (x : Option Cart) : (d.putCart i x).phase = d.phase := by simp [Dev.putCart]
@[simp] theorem Dev.putCart_cfg (d : Dev) (i : CartIx) (x : Option Cart) : (d.putCart i x).cfg = d.cfg := by simp [Dev.putCart]
@[simp] theorem Dev.putCart_smc (d : Dev) (i : CartIx) (x : Option Cart) : (d.putCart i x).smc = d.smc := by simp [Dev.putCart]
@[simp] theorem Dev.putCart_ch (d : Dev) (i : CartIx) (x : Option Cart) : (d.putCart i x).ch = d.ch := by simp [Dev.putCart]
@[simp] theorem Dev.putCart_waitList (d : Dev) (i : CartIx) (x : Option Cart) : (d.putCart i x).waitList = d.waitList := by simp [Dev.putCart]
@[simp] theorem Dev.putCart_nextHandle (d : Dev) (i : CartIx) (x : Option Cart) : (d.putCart i x).nextHandle = d.nextHandle := by simp [Dev.putCart]
@[simp] theorem Dev.putCart_mqu (d : Dev) (i : CartIx) (x : Option Cart) : (d.putCart i x).mqu = d.mqu := by simp [Dev.putCart]
@[simp] theorem Dev.putCart_lines (d : Dev) (i : CartIx) (x : Option Cart) : (d.putCart i x).lines = d.lines := by simp [Dev.putCart]
@[simp] theorem Dev.putCart_doorOpen (d : Dev) (i : CartIx) (x : Option Cart) : (d.putCart i x).doorOpen = d.doorOpen := by simp [Dev.putCart]
@[simp] theorem Dev.putCart_pa (d : Dev) (i : CartIx) (x : Option Cart) : (d.putCart i x).pa = d.pa := by simp [Dev.putCart]
@[simp] theorem Dev.putCart_pb (d : Dev) (i : CartIx) (x : Option Cart) : (d.putCart i x).pb = d.pb := by simp [Dev.putCart]
@[simp] theorem Dev.putCart_pp (d : Dev) (i : CartIx) (x : Option Cart) : (d.putCart i x).pp = d.pp := by simp [Dev.putCart]
@[simp] theorem Dev.putCart_resetReq (d : Dev) (i : CartIx) (x : Option Cart) : (d.putCart i x).resetReq = d.resetReq := by simp [Dev.putCart]
@[simp] theorem Dev.putCart_sent (d : Dev) (i : CartIx) (x : Option Cart) : (d.putCart i x).sent = d.sent := by simp [Dev.putCart]
@[simp] theorem Dev.putCart_races (d : Dev) (i : CartIx) (x : Option Cart) : (d.putCart i x).races = d.races := by simp [Dev.putCart]

/-! ### modCart -/

@[simp] theorem Dev.modCart_phase (d : Dev) (i : CartIx) (f : Cart → Cart) : (d.modCart i f).phase = d.phase := by unfold Dev.modCart; split <;> simp
@[simp] theorem Dev.modCart_cfg (d : Dev) (i : CartIx) (f : Cart → Cart) : (d.modCart i f).cfg = d.cfg := by unfold Dev.modCart; split <;> simp
@[simp] theorem Dev.modCart_smc (d : Dev) (i : CartIx) (f : Cart → Cart) : (d.modCart i f).smc = d.smc := by unfold Dev.modCart; split <;> simp
@[simp] theorem Dev.modCart_ch (d : Dev) (i : CartIx) (f : Cart → Cart) : (d.modCart i f).ch = d.ch := by unfold Dev.modCart; split <;> simp
@[simp] theorem Dev.modCart_waitList (d : Dev) (i : CartIx) (f : Cart → Cart) : (d.modCart i f).waitList = d.waitList := by unfold Dev.modCart; split <;> simp
@[simp] theorem Dev.modCart_nextHandle (d : Dev) (i : CartIx) (f : Cart → Cart) : (d.modCart i f).nextHandle = d.nextHandle := by unfold Dev.modCart; split <;> simp
@[simp] theorem Dev.modCart_mqu (d : Dev) (i : CartIx) (f : Cart → Cart) : (d.modCart i f).mqu = d.mqu := by unfold Dev.modCart; split <;> simp
@[simp] theorem Dev.modCart_lines (d : Dev) (i : CartIx) (f : Cart → Cart) : (d.modCart i f).lines = d.lines := by unfold Dev.modCart; split <;> simp
@[simp] theorem Dev.modCart_doorOpen (d : Dev) (i : CartIx) (f : Cart → Cart) : (d.modCart i f).doorOpen = d.doorOpen := by unfold Dev.modCart; split <;> simp
@[simp] theorem Dev.modCart_pa (d : Dev) (i : CartIx) (f : Cart → Cart) : (d.modCart i f).pa = d.pa := by unfold Dev.modCart; split <;> simp
@[simp] theorem Dev.modCart_pb (d : Dev) (i : CartIx) (f : Cart → Cart) : (d.modCart i f).pb = d.pb := by unfold Dev.modCart; split <;> simp
@[simp] theorem Dev.modCart_pp (d : Dev) (i : CartIx) (f : Cart → Cart) : (d.modCart i f).pp = d.pp := by unfold Dev.modCart; split <;> simp
@[simp] theorem Dev.modCart_resetReq (d : Dev) (i : CartIx) (f : Cart → Cart) : (d.modCart i f).resetReq = d.resetReq := by unfold Dev.modCart; split <;> simp
@[simp] theorem Dev.modCart_sent (d : Dev) (i : CartIx) (f : Cart → Cart) : (d.modCart i f).sent = d.sent := by unfold Dev.modCart; split <;> simp
@[simp] theorem Dev.modCart_races (d : Dev) (i : CartIx) (f : Cart → Cart) : (d.modCart i f).races = d.races := by unfold Dev.modCart; split <;> simp

/-! ### setClaim -/

@[simp] theorem Dev.setClaim_phase (d : Dev) (i : CartIx) (h : Option Nat) : (d.setClaim i h).phase = d.phase := by unfold Dev.setClaim; split <;> simp
@[simp] theorem Dev.setClaim_cfg (d : Dev) (i : CartIx) (h : Option Nat) : (d.setClaim i h).cfg = d.cfg := by unfold Dev.setClaim; split <;> simp
@[simp] theorem Dev.setClaim_cst (d : Dev) (i : CartIx) (h : Option Nat) : (d.setClaim i h).cst = d.cst := by unfold Dev.setClaim; split <;> simp
@[simp] theorem Dev.setClaim_smc (d : Dev) (i : CartIx) (h : Option Nat) : (d.setClaim i h).smc = d.smc := by unfold Dev.setClaim; split <;> simp
@[simp] theorem Dev.setClaim_ch (d : Dev) (i : CartIx) (h : Option Nat) : (d.setClaim i h).ch = d.ch := by unfold Dev.setClaim; split <;> simp
@[simp] theorem Dev.setClaim_waitList (d : Dev) (i : CartIx) (h : Option Nat) : (d.setClaim i h).waitList = d.waitList := by unfold Dev.setClaim; split <;> simp
@[simp] theorem Dev.setClaim_nextHandle (d : Dev) (i : CartIx) (h : Option Nat) : (d.setClaim i h).nextHandle = d.nextHandle := by unfold Dev.setClaim; split <;> simp
@[simp] theorem Dev.setClaim_mqu (d : Dev) (i : CartIx) (h : Option Nat) : (d.setClaim i h).mqu = d.mqu := by unfold Dev.setClaim; split <;> simp
@[simp] theorem Dev.setClaim_lines (d : Dev) (i : CartIx) (h : Option Nat) : (d.setClaim i h).lines = d.lines := by unfold Dev.setClaim; split <;> simp
@[simp] theorem Dev.setClaim_doorOpen (d : Dev) (i : CartIx) (h : Option Nat) : (d.setClaim i h).doorOpen = d.doorOpen := by unfold Dev.setClaim; split <;> simp
@[simp] theorem Dev.setClaim_pa (d : Dev) (i : CartIx) (h : Option Nat) : (d.setClaim i h).pa = d.pa := by unfold Dev.setClaim; split <;> simp
@[simp] theorem Dev.setClaim_pb (d : Dev) (i : CartIx) (h : Option Nat) : (d.setClaim i h).pb = d.pb := by unfold Dev.setClaim; split <;> simp
@[simp] theorem Dev.setClaim_pp (d : Dev) (i : CartIx) (h : Option Nat) : (d.setClaim i h).pp = d.pp := by unfold Dev.setClaim; split <;> simp
@[simp] theorem Dev.setClaim_resetReq (d : Dev) (i : CartIx) (h : Option Nat) : (d.setClaim i h).resetReq = d.resetReq := by unfold Dev.setClaim; split <;> simp
@[simp] theorem Dev.setClaim_sent (d : Dev) (i : CartIx) (h : Option Nat) : (d.setClaim i h).sent = d.sent := by unfold Dev.setClaim; split <;> simp
@[simp] theorem Dev.setClaim_races (d : Dev) (i : CartIx) (h : Option Nat) : (d.setClaim i h).races = d.races := by unfold Dev.setClaim; split <;> simp

/-! ### putSet -/

@[simp] theorem Dev.putSet_phase (d : Dev) (e : SetIx) (x : SetEntry) : (d.putSet e x).phase = d.phase := by simp [Dev.putSet]
@[simp] theorem Dev.putSet_cfg (d : Dev) (e : SetIx) (x : SetEntry) : (d.putSet e x).cfg = d.cfg := by simp [Dev.putSet]
@[simp] theorem Dev.putSet_smc (d : Dev) (e : SetIx) (x : SetEntry) : (d.putSet e x).smc = d.smc := by simp [Dev.putSet]
@[simp] theorem Dev.putSet_ch (d : Dev) (e : SetIx) (x : SetEntry) : (d.putSet e x).ch = d.ch := by simp [Dev.putSet]
@[simp] theorem Dev.putSet_waitList (d : Dev) (e : SetIx) (x : SetEntry) : (d.putSet e x).waitList = d.waitList := by simp [Dev.putSet]
@[simp] theorem Dev.putSet_nextHandle (d : Dev) (e : SetIx) (x : SetEntry) : (d.putSet e x).nextHandle = d.nextHandle := by simp [Dev.putSet]
@[simp] theorem Dev.putSet_mqu (d : Dev) (e : SetIx) (x : SetEntry) : (d.putSet e x).mqu = d.mqu := by simp [Dev.putSet]
@[simp] theorem Dev.putSet_lines (d : Dev) (e : SetIx) (x : SetEntry) : (d.putSet e x).lines = d.lines := by simp [Dev.putSet]
@[simp] theorem Dev.putSet_doorOpen (d : Dev) (e : SetIx) (x : SetEntry) : (d.putSet e x).doorOpen = d.doorOpen := by simp [Dev.putSet]
@[simp] theorem Dev.putSet_pa (d : Dev) (e : SetIx) (x : SetEntry) : (d.putSet e x).pa = d.pa := by simp [Dev.putSet]
@[simp] theorem Dev.putSet_pb (d : Dev) (e : SetIx) (x : SetEntry) : (d.putSet e x).pb = d.pb := by simp [Dev.putSet]
@[simp] theorem Dev.putSet_pp (d : Dev) (e : SetIx) (x : SetEntry) : (d.putSet e x).pp = d.pp := by simp [Dev.putSet]
@[simp] theorem Dev.putSet_resetReq (d : Dev) (e : SetIx) (x : SetEntry) : (d.putSet e x).resetReq = d.resetReq := by simp [Dev.putSet]
@[simp] theorem Dev.putSet_sent (d : Dev) (e : SetIx) (x : SetEntry) : (d.putSet e x).sent = d.sent := by simp [Dev.putSet]
@[simp] theorem Dev.putSet_races (d : Dev) (e : SetIx) (x : SetEntry) : (d.putSet e x).races = d.races := by simp [Dev.putSet]

/-! ### modSet -/

@[simp] theorem Dev.modSet_phase (d : Dev) (e : SetIx) (f : BackupSet → BackupSet) : (d.modSet e f).phase = d.phase := by unfold Dev.modSet; split <;> simp
@[simp] theorem Dev.modSet_cfg (d : Dev) (e : SetIx) (f : BackupSet → BackupSet) : (d.modSet e f).cfg = d.cfg := by unfold Dev.modSet; split <;> simp
@[simp] theorem Dev.modSet_smc (d : Dev) (e : SetIx) (f : BackupSet → BackupSet) : (d.modSet e f).smc = d.smc := by unfold Dev.modSet; split <;> simp
@[simp] theorem Dev.modSet_ch (d : Dev) (e : SetIx) (f : BackupSet → BackupSet) : (d.modSet e f).ch = d.ch := by unfold Dev.modSet; split <;> simp
@[simp] theorem Dev.modSet_waitList (d : Dev) (e : SetIx) (f : BackupSet → BackupSet) : (d.modSet e f).waitList = d.waitList := by unfold Dev.modSet; split <;> simp
@[simp] theorem Dev.modSet_nextHandle (d : Dev) (e : SetIx) (f : BackupSet → BackupSet) : (d.modSet e f).nextHandle = d.nextHandle := by unfold Dev.modSet; split <;> simp
@[simp] theorem Dev.modSet_mqu (d : Dev) (e : SetIx) (f : BackupSet → BackupSet) : (d.modSet e f).mqu = d.mqu := by unfold Dev.modSet; split <;> simp
@[simp] theorem Dev.modSet_lines (d : Dev) (e : SetIx) (f : BackupSet → BackupSet) : (d.modSet e f).lines = d.lines := by unfold Dev.modSet; split <;> simp
@[simp] theorem Dev.modSet_doorOpen (d : Dev) (e : SetIx) (f : BackupSet → BackupSet) : (d.modSet e f).doorOpen = d.doorOpen := by unfold Dev.modSet; split <;> simp
@[simp] theorem Dev.modSet_pa (d : Dev) (e : SetIx) (f : BackupSet → BackupSet) : (d.modSet e f).pa = d.pa := by unfold Dev.modSet; split <;> simp
@[simp] theorem Dev.modSet_pb (d : Dev) (e : SetIx) (f : BackupSet → BackupSet) : (d.modSet e f).pb = d.pb := by unfold Dev.modSet; split <;> simp
@[simp] theorem Dev.modSet_pp (d : Dev) (e : SetIx) (f : BackupSet → BackupSet) : (d.modSet e f).pp = d.pp := by unfold Dev.modSet; split <;> simp
@[simp] theorem Dev.modSet_resetReq (d : Dev) (e : SetIx) (f : BackupSet → BackupSet) : (d.modSet e f).resetReq = d.resetReq := by unfold Dev.modSet; split <;> simp
@[simp] theorem Dev.modSet_sent (d : Dev) (e : SetIx) (f : BackupSet → BackupSet) : (d.modSet e f).sent = d.sent := by unfold Dev.modSet; split <;> simp
@[simp] theorem Dev.modSet_races (d : Dev) (e : SetIx) (f : BackupSet → BackupSet) : (d.modSet e f).races = d.races := by unfold Dev.modSet; split <;> simp

/-! ### setInUse -/

@[simp] theorem Dev.setInUse_phase (d : Dev) (e : SetIx) (h : Option Nat) : (d.setInUse e h).phase = d.phase := by unfold Dev.setInUse; split <;> simp
@[simp] theorem Dev.setInUse_cfg (d : Dev) (e : SetIx) (h : Option Nat) : (d.setInUse e h).cfg = d.cfg := by unfold Dev.setInUse; split <;> simp
@[simp] theorem Dev.setInUse_cst (d : Dev) (e : SetIx) (h : Option Nat) : (d.setInUse e h).cst = d.cst := by unfold Dev.setInUse; split <;> simp
@[simp] theorem Dev.setInUse_smc (d : Dev) (e : SetIx) (h : Option Nat) : (d.setInUse e h).smc = d.smc := by unfold Dev.setInUse; split <;> simp
@[simp] theorem Dev.setInUse_ch (d : Dev) (e : SetIx) (h : Option Nat) : (d.setInUse e h).ch = d.ch := by unfold Dev.setInUse; split <;> simp
@[simp] theorem Dev.setInUse_waitList (d : Dev) (e : SetIx) (h : Option Nat) : (d.setInUse e h).waitList = d.waitList := by unfold Dev.setInUse; split <;> simp
@[simp] theorem Dev.setInUse_nextHandle (d : Dev) (e : SetIx) (h : Option Nat) : (d.setInUse e h).nextHandle = d.nextHandle := by unfold Dev.setInUse; split <;> simp
@[simp] theorem Dev.setInUse_mqu (d : Dev) (e : SetIx) (h : Option Nat) : (d.setInUse e h).mqu = d.mqu := by unfold Dev.setInUse; split <;> simp
@[simp] theorem Dev.setInUse_lines (d : Dev) (e : SetIx) (h : Option Nat) : (d.setInUse e h).lines = d.lines := by unfold Dev.setInUse; split <;> simp
@[simp] theorem Dev.setInUse_doorOpen (d : Dev) (e : SetIx) (h : Option Nat) : (d.setInUse e h).doorOpen = d.doorOpen := by unfold Dev.setInUse; split <;> simp
@[simp] theorem Dev.setInUse_pa (d : Dev) (e : SetIx) (h : Option Nat) : (d.setInUse e h).pa = d.pa := by unfold Dev.setInUse; split <;> simp
@[simp] theorem Dev.setInUse_pb (d : Dev) (e : SetIx) (h : Option Nat) : (d.setInUse e h).pb = d.pb := by unfold Dev.setInUse; split <;> simp
@[simp] theorem Dev.setInUse_pp (d : Dev) (e : SetIx) (h : Option Nat) : (d.setInUse e h).pp = d.pp := by unfold Dev.setInUse; split <;> simp
@[simp] theorem Dev.setInUse_resetReq (d : Dev) (e : SetIx) (h : Option Nat) : (d.setInUse e h).resetReq = d.resetReq := by unfold Dev.setInUse; split <;> simp
@[simp] theorem Dev.setInUse_todo (d : Dev) (e : SetIx) (h : Option Nat) : (d.setInUse e h).todo = d.todo := by unfold Dev.setInUse; split <;> simp
@[simp] theorem Dev.setInUse_sent (d : Dev) (e : SetIx) (h : Option Nat) : (d.setInUse e h).sent = d.sent := by unfold Dev.setInUse; split <;> simp
@[simp] theorem Dev.setInUse_races (d : Dev) (e : SetIx) (h : Option Nat) : (d.setInUse e h).races = d.races := by unfold Dev.setInUse; split <;> simp

/-! ### freeSet -/

@[simp] theorem Dev.freeSet_phase (d : Dev) (e : Option SetIx) : (d.freeSet e).phase = d.phase := by unfold Dev.freeSet; split <;> simp
@[simp] theorem Dev.freeSet_cfg (d : Dev) (e : Option SetIx) : (d.freeSet e).cfg = d.cfg := by unfold Dev.freeSet; split <;> simp
@[simp] theorem Dev.freeSet_cst (d : Dev) (e : Option SetIx) : (d.freeSet e).cst = d.cst := by unfold Dev.freeSet; split <;> simp
@[simp] theorem Dev.freeSet_smc (d : Dev) (e : Option SetIx) : (d.freeSet e).smc = d.smc := by unfold Dev.freeSet; split <;> simp
@[simp] theorem Dev.freeSet_ch (d : Dev) (e : Option SetIx) : (d.freeSet e).ch = d.ch := by unfold Dev.freeSet; split <;> simp
@[simp] theorem Dev.freeSet_waitList (d : Dev) (e : Option SetIx) : (d.freeSet e).waitList = d.waitList := by unfold Dev.freeSet; split <;> simp
@[simp] theorem Dev.freeSet_nextHandle (d : Dev) (e : Option SetIx) : (d.freeSet e).nextHandle = d.nextHandle := by unfold Dev.freeSet; split <;> simp
@[simp] theorem Dev.freeSet_mqu (d : Dev) (e : Option SetIx) : (d.freeSet e).mqu = d.mqu := by unfold Dev.freeSet; split <;> simp
@[simp] theorem Dev.freeSet_lines (d : Dev) (e : Option SetIx) : (d.freeSet e).lines = d.lines := by unfold Dev.freeSet; split <;> simp
@[simp] theorem Dev.freeSet_doorOpen (d : Dev) (e : Option SetIx) : (d.freeSet e).doorOpen = d.doorOpen := by unfold Dev.freeSet; split <;> simp
@[simp] theorem Dev.freeSet_pa (d : Dev) (e : Option SetIx) : (d.freeSet e).pa = d.pa := by unfold Dev.freeSet; split <;> simp
@[simp] theorem Dev.freeSet_pb (d : Dev) (e : Option SetIx) : (d.freeSet e).pb = d.pb := by unfold Dev.freeSet; split <;> simp
@[simp] theorem Dev.freeSet_pp (d : Dev) (e : Option SetIx) : (d.freeSet e).pp = d.pp := by unfold Dev.freeSet; split <;> simp
@[simp] theorem Dev.freeSet_resetReq (d : Dev) (e : Option SetIx) : (d.freeSet e).resetReq = d.resetReq := by unfold Dev.freeSet; split <;> simp
@[simp] theorem Dev.freeSet_todo (d : Dev) (e : Option SetIx) : (d.freeSet e).todo = d.todo := by unfold Dev.freeSet; split <;> simp
@[simp] theorem Dev.freeSet_sent (d : Dev) (e : Option SetIx) : (d.freeSet e).sent = d.sent := by unfold Dev.freeSet; split <;> simp
@[simp] theorem Dev.freeSet_races (d : Dev) (e : Option SetIx) : (d.freeSet e).races = d.races := by unfold Dev.freeSet; split <;> simp

/-! ### answerWith -/

@[simp] theorem Dev.answerWith_phase (d : Dev) (r : ReqId) (st : Status) (h : Nat) (bs : List Byte) : (d.answerWith r st h bs).phase = d.phase := by unfold Dev.answerWith; dsimp only; split <;> [skip; rfl]; split <;> simp
@[simp] theorem Dev.answerWith_cat (d : Dev) (r : ReqId) (st : Status) (h : Nat) (bs : List Byte) : (d.answerWith r st h bs).cat = d.cat := by unfold Dev.answerWith; dsimp only; split <;> [skip; rfl]; split <;> simp
@[simp] theorem Dev.answerWith_cfg (d : Dev) (r : ReqId) (st : Status) (h : Nat) (bs : List Byte) : (d.answerWith r st h bs).cfg = d.cfg := by unfold Dev.answerWith; dsimp only; split <;> [skip; rfl]; split <;> simp
@[simp] theorem Dev.answerWith_cst (d : Dev) (r : ReqId) (st : Status) (h : Nat) (bs : List Byte) : (d.answerWith r st h bs).cst = d.cst := by unfold Dev.answerWith; dsimp only; split <;> [skip; rfl]; split <;> simp
@[simp] theorem Dev.answerWith_smc (d : Dev) (r : ReqId) (st : Status) (h : Nat) (bs : List Byte) : (d.answerWith r st h bs).smc = d.smc := by unfold Dev.answerWith; dsimp only; split <;> [skip; rfl]; split <;> simp
@[simp] theorem Dev.answerWith_ch (d : Dev) (r : ReqId) (st : Status) (h : Nat) (bs : List Byte) : (d.answerWith r st h bs).ch = d.ch := by unfold Dev.answerWith; dsimp only; split <;> [skip; rfl]; split <;> simp
@[simp] theorem Dev.answerWith_waitList (d : Dev) (r : ReqId) (st : Status) (h : Nat) (bs : List Byte) : (d.answerWith r st h bs).waitList = d.waitList := by unfold Dev.answerWith; dsimp only; split <;> [skip; rfl]; split <;> simp
@[simp] theorem Dev.answerWith_nextHandle (d : Dev) (r : ReqId) (st : Status) (h : Nat) (bs : List Byte) : (d.answerWith r st h bs).nextHandle = d.nextHandle := by unfold Dev.answerWith; dsimp only; split <;> [skip; rfl]; split <;> simp
@[simp] theorem Dev.answerWith_mqu (d : Dev) (r : ReqId) (st : Status) (h : Nat) (bs : List Byte) : (d.answerWith r st h bs).mqu = d.mqu := by unfold Dev.answerWith; dsimp only; split <;> [skip; rfl]; split <;> simp
@[simp] theorem Dev.answerWith_lines (d : Dev) (r : ReqId) (st : Status) (h : Nat) (bs : List Byte) : (d.answerWith r st h bs).lines = d.lines := by unfold Dev.answerWith; dsimp only; split <;> [skip; rfl]; split <;> simp
@[simp] theorem Dev.answerWith_doorOpen (d : Dev) (r : ReqId) (st : Status) (h : Nat) (bs : List Byte) : (d.answerWith r st h bs).doorOpen = d.doorOpen := by unfold Dev.answerWith; dsimp only; split <;> [skip; rfl]; split <;> simp
@[simp] theorem Dev.answerWith_resetReq (d : Dev) (r : ReqId) (st : Status) (h : Nat) (bs : List Byte) : (d.answerWith r st h bs).resetReq = d.resetReq := by unfold Dev.answerWith; dsimp only; split <;> [skip; rfl]; split <;> simp
@[simp] theorem Dev.answerWith_sent (d : Dev) (r : ReqId) (st : Status) (h : Nat) (bs : List Byte) : (d.answerWith r st h bs).sent = d.sent := by unfold Dev.answerWith; dsimp only; split <;> [skip; rfl]; split <;> simp
@[simp] theorem Dev.answerWith_races (d : Dev) (r : ReqId) (st : Status) (h : Nat) (bs : List Byte) : (d.answerWith r st h bs).races = d.races := by unfold Dev.answerWith; dsimp only; split <;> [skip; rfl]; split <;> simp

/-! ### answer -/

@[simp] theorem Dev.answer_phase (d : Dev) (r : ReqId) (st : Status) : (d.answer r st).phase = d.phase := by simp [Dev.answer]
@[simp] theorem Dev.answer_cat (d : Dev) (r : ReqId) (st : Status) : (d.answer r st).cat = d.cat := by simp [Dev.answer]
@[simp] theorem Dev.answer_cfg (d : Dev) (r : ReqId) (st : Status) : (d.answer r st).cfg = d.cfg := by simp [Dev.answer]
@[simp] theorem Dev.answer_cst (d : Dev) (r : ReqId) (st : Status) : (d.answer r st).cst = d.cst := by simp [Dev.answer]
@[simp] theorem Dev.answer_smc (d : Dev) (r : ReqId) (st : Status) : (d.answer r st).smc = d.smc := by simp [Dev.answer]
@[simp] theorem Dev.answer_ch (d : Dev) (r : ReqId) (st : Status) : (d.answer r st).ch = d.ch := by simp [Dev.answer]
@[simp] theorem Dev.answer_waitList (d : Dev) (r : ReqId) (st : Status) : (d.answer r st).waitList = d.waitList := by simp [Dev.answer]
@[simp] theorem Dev.answer_nextHandle (d : Dev) (r : ReqId) (st : Status) : (d.answer r st).nextHandle = d.nextHandle := by simp [Dev.answer]
@[simp] theorem Dev.answer_mqu (d : Dev) (r : ReqId) (st : Status) : (d.answer r st).mqu = d.mqu := by simp [Dev.answer]
@[simp] theorem Dev.answer_lines (d : Dev) (r : ReqId) (st : Status) : (d.answer r st).lines = d.lines := by simp [Dev.answer]
@[simp] theorem Dev.answer_doorOpen (d : Dev) (r : ReqId) (st : Status) : (d.answer r st).doorOpen = d.doorOpen := by simp [Dev.answer]
@[simp] theorem Dev.answer_resetReq (d : Dev) (r : ReqId) (st : Status) : (d.answer r st).resetReq = d.resetReq := by simp [Dev.answer]
@[simp] theorem Dev.answer_sent (d : Dev) (r : ReqId) (st : Status) : (d.answer r st).sent = d.sent := by simp [Dev.answer]
@[simp] theorem Dev.answer_races (d : Dev) (r : ReqId) (st : Status) : (d.answer r st).races = d.races := by simp [Dev.answer]

/-! ### answerOpt -/

@[simp] theorem Dev.answerOpt_phase (d : Dev) (r : Option ReqId) (st : Status) : (d.answerOpt r st).phase = d.phase := by unfold Dev.answerOpt; split <;> simp
@[simp] theorem Dev.answerOpt_cat (d : Dev) (r : Option ReqId) (st : Status) : (d.answerOpt r st).cat = d.cat := by unfold Dev.answerOpt; split <;> simp
@[simp] theorem Dev.answerOpt_cfg (d : Dev) (r : Option ReqId) (st : Status) : (d.answerOpt r st).cfg = d.cfg := by unfold Dev.answerOpt; split <;> simp
@[simp] theorem Dev.answerOpt_cst (d : Dev) (r : Option ReqId) (st : Status) : (d.answerOpt r st).cst = d.cst := by unfold Dev.answerOpt; split <;> simp
@[simp] theorem Dev.answerOpt_smc (d : Dev) (r : Option ReqId) (st : Status) : (d.answerOpt r st).smc = d.smc := by unfold Dev.answerOpt; split <;> simp
@[simp] theorem Dev.answerOpt_ch (d : Dev) (r : Option ReqId) (st : Status) : (d.answerOpt r st).ch = d.ch := by unfold Dev.answerOpt; split <;> simp
@[simp] theorem Dev.answerOpt_waitList (d : Dev) (r : Option ReqId) (st : Status) : (d.answerOpt r st).waitList = d.waitList := by unfold Dev.answerOpt; split <;> simp
@[simp] theorem Dev.answerOpt_nextHandle (d : Dev) (r : Option ReqId) (st : Status) : (d.answerOpt r st).nextHandle = d.nextHandle := by unfold Dev.answerOpt; split <;> simp
@[simp] theorem Dev.answerOpt_mqu (d : Dev) (r : Option ReqId) (st : Status) : (d.answerOpt r st).mqu = d.mqu := by unfold Dev.answerOpt; split <;> simp
@[simp] theorem Dev.answerOpt_lines (d : Dev) (r : Option ReqId) (st : Status) : (d.answerOpt r st).lines = d.lines := by unfold Dev.answerOpt; split <;> simp
@[simp] theorem Dev.answerOpt_doorOpen (d : Dev) (r : Option ReqId) (st : Status) : (d.answerOpt r st).doorOpen = d.doorOpen := by unfold Dev.answerOpt; split <;> simp
@[simp] theorem Dev.answerOpt_resetReq (d : Dev) (r : Option ReqId) (st : Status) : (d.answerOpt r st).resetReq = d.resetReq := by unfold Dev.answerOpt; split <;> simp
@[simp] theorem Dev.answerOpt_sent (d : Dev) (r : Option ReqId) (st : Status) : (d.answerOpt r st).sent = d.sent := by unfold Dev.answerOpt; split <;> simp
@[simp] theorem Dev.answerOpt_races (d : Dev) (r : Option ReqId) (st : Status) : (d.answerOpt r st).races = d.races := by unfold Dev.answerOpt; split <;> simp

/-! ### sendCmd -/

@[simp] theorem Dev.sendCmd_phase (d : Dev) (c : Chan) (k : DriveCmd) (o : Option Nat) : (d.sendCmd c k o).phase = d.phase := by simp [Dev.sendCmd]
@[simp] theorem Dev.sendCmd_cat (d : Dev) (c : Chan) (k : DriveCmd) (o : Option Nat) : (d.sendCmd c k o).cat = d.cat := by simp [Dev.sendCmd]
@[simp] theorem Dev.sendCmd_cfg (d : Dev) (c : Chan) (k : DriveCmd) (o : Option Nat) : (d.sendCmd c k o).cfg = d.cfg := by simp [Dev.sendCmd]
@[simp] theorem Dev.sendCmd_cst (d : Dev) (c : Chan) (k : DriveCmd) (o : Option Nat) : (d.sendCmd c k o).cst = d.cst := by simp [Dev.sendCmd]
@[simp] theorem Dev.sendCmd_smc (d : Dev) (c : Chan) (k : DriveCmd) (o : Option Nat) : (d.sendCmd c k o).smc = d.smc := by simp [Dev.sendCmd]
@[simp] theorem Dev.sendCmd_waitList (d : Dev) (c : Chan) (k : DriveCmd) (o : Option Nat) : (d.sendCmd c k o).waitList = d.waitList := by simp [Dev.sendCmd]
@[simp] theorem Dev.sendCmd_nextHandle (d : Dev) (c : Chan) (k : DriveCmd) (o : Option Nat) : (d.sendCmd c k o).nextHandle = d.nextHandle := by simp [Dev.sendCmd]
@[simp] theorem Dev.sendCmd_mqu (d : Dev) (c : Chan) (k : DriveCmd) (o : Option Nat) : (d.sendCmd c k o).mqu = d.mqu := by simp [Dev.sendCmd]
@[simp] theorem Dev.sendCmd_lines (d : Dev) (c : Chan) (k : DriveCmd) (o : Option Nat) : (d.sendCmd c k o).lines = d.lines := by simp [Dev.sendCmd]
@[simp] theorem Dev.sendCmd_doorOpen (d : Dev) (c : Chan) (k : DriveCmd) (o : Option Nat) : (d.sendCmd c k o).doorOpen = d.doorOpen := by simp [Dev.sendCmd]
@[simp] theorem Dev.sendCmd_pa (d : Dev) (c : Chan) (k : DriveCmd) (o : Option Nat) : (d.sendCmd c k o).pa = d.pa := by simp [Dev.sendCmd]
@[simp] theorem Dev.sendCmd_pb (d : Dev) (c : Chan) (k : DriveCmd) (o : Option Nat) : (d.sendCmd c k o).pb = d.pb := by simp [Dev.sendCmd]
@[simp] theorem Dev.sendCmd_pp (d : Dev) (c : Chan) (k : DriveCmd) (o : Option Nat) : (d.sendCmd c k o).pp = d.pp := by simp [Dev.sendCmd]
@[simp] theorem Dev.sendCmd_resetReq (d : Dev) (c : Chan) (k : DriveCmd) (o : Option Nat) : (d.sendCmd c k o).resetReq = d.resetReq := by simp [Dev.sendCmd]
@[simp] theorem Dev.sendCmd_todo (d : Dev) (c : Chan) (k : DriveCmd) (o : Option Nat) : (d.sendCmd c k o).todo = d.todo := by simp [Dev.sendCmd]
@[simp] theorem Dev.sendCmd_races (d : Dev) (c : Chan) (k : DriveCmd) (o : Option Nat) : (d.sendCmd c k o).races = d.races := by simp [Dev.sendCmd]

/-! ### wantStatus -/

@[simp] theorem Dev.wantStatus_phase (d : Dev) (c : Chan) (w : Wants) : (d.wantStatus c w).phase = d.phase := by unfold Dev.wantStatus; split <;> simp
@[simp] theorem Dev.wantStatus_cat (d : Dev) (c : Chan) (w : Wants) : (d.wantStatus c w).cat = d.cat := by unfold Dev.wantStatus; split <;> simp
@[simp] theorem Dev.wantStatus_cfg (d : Dev) (c : Chan) (w : Wants) : (d.wantStatus c w).cfg = d.cfg := by unfold Dev.wantStatus; split <;> simp
@[simp] theorem Dev.wantStatus_cst (d : Dev) (c : Chan) (w : Wants) : (d.wantStatus c w).cst = d.cst := by unfold Dev.wantStatus; split <;> simp
@[simp] theorem Dev.wantStatus_smc (d : Dev) (c : Chan) (w : Wants) : (d.wantStatus c w).smc = d.smc := by unfold Dev.wantStatus; split <;> simp
@[simp] theorem Dev.wantStatus_waitList (d : Dev) (c : Chan) (w : Wants) : (d.wantStatus c w).waitList = d.waitList := by unfold Dev.wantStatus; split <;> simp
@[simp] theorem Dev.wantStatus_nextHandle (d : Dev) (c : Chan) (w : Wants) : (d.wantStatus c w).nextHandle = d.nextHandle := by unfold Dev.wantStatus; split <;> simp
@[simp] theorem Dev.wantStatus_mqu (d : Dev) (c : Chan) (w : Wants) : (d.wantStatus c w).mqu = d.mqu := by unfold Dev.wantStatus; split <;> simp
@[simp] theorem Dev.wantStatus_lines (d : Dev) (c : Chan) (w : Wants) : (d.wantStatus c w).lines = d.lines := by unfold Dev.wantStatus; split <;> simp
@[simp] theorem Dev.wantStatus_doorOpen (d : Dev) (c : Chan) (w : Wants) : (d.wantStatus c w).doorOpen = d.doorOpen := by unfold Dev.wantStatus; split <;> simp
@[simp] theorem Dev.wantStatus_pa (d : Dev) (c : Chan) (w : Wants) : (d.wantStatus c w).pa = d.pa := by unfold Dev.wantStatus; split <;> simp
@[simp] theorem Dev.wantStatus_pb (d : Dev) (c : Chan) (w : Wants) : (d.wantStatus c w).pb = d.pb := by unfold Dev.wantStatus; split <;> simp
@[simp] theorem Dev.wantStatus_pp (d : Dev) (c : Chan) (w : Wants) : (d.wantStatus c w).pp = d.pp := by unfold Dev.wantStatus; split <;> simp
@[simp] theorem Dev.wantStatus_resetReq (d : Dev) (c : Chan) (w : Wants) : (d.wantStatus c w).resetReq = d.resetReq := by unfold Dev.wantStatus; split <;> simp
@[simp] theorem Dev.wantStatus_sent (d : Dev) (c : Chan) (w : Wants) : (d.wantStatus c w).sent = d.sent := by unfold Dev.wantStatus; split <;> simp
@[simp] theorem Dev.wantStatus_races (d : Dev) (c : Chan) (w : Wants) : (d.wantStatus c w).races = d.races := by unfold Dev.wantStatus; split <;> simp

/-! ### freePages -/

@[simp] theorem Dev.freePages_phase (d : Dev) (c : Chan) (n : Nat) : (d.freePages c n).phase = d.phase := by unfold Dev.freePages; split <;> simp
@[simp] theorem Dev.freePages_cat (d : Dev) (c : Chan) (n : Nat) : (d.freePages c n).cat = d.cat := by unfold Dev.freePages; split <;> simp
@[simp] theorem Dev.freePages_cfg (d : Dev) (c : Chan) (n : Nat) : (d.freePages c n).cfg = d.cfg := by unfold Dev.freePages; split <;> simp
@[simp] theorem Dev.freePages_cst (d : Dev) (c : Chan) (n : Nat) : (d.freePages c n).cst = d.cst := by unfold Dev.freePages; split <;> simp
@[simp] theorem Dev.freePages_ch (d : Dev) (c : Chan) (n : Nat) : (d.freePages c n).ch = d.ch := by unfold Dev.freePages; split <;> simp
@[simp] theorem Dev.freePages_waitList (d : Dev) (c : Chan) (n : Nat) : (d.freePages c n).waitList = d.waitList := by unfold Dev.freePages; split <;> simp
@[simp] theorem Dev.freePages_nextHandle (d : Dev) (c : Chan) (n : Nat) : (d.freePages c n).nextHandle = d.nextHandle := by unfold Dev.freePages; split <;> simp
@[simp] theorem Dev.freePages_mqu (d : Dev) (c : Chan) (n : Nat) : (d.freePages c n).mqu = d.mqu := by unfold Dev.freePages; split <;> simp
@[simp] theorem Dev.freePages_lines (d : Dev) (c : Chan) (n : Nat) : (d.freePages c n).lines = d.lines := by unfold Dev.freePages; split <;> simp
@[simp] theorem Dev.freePages_doorOpen (d : Dev) (c : Chan) (n : Nat) : (d.freePages c n).doorOpen = d.doorOpen := by unfold Dev.freePages; split <;> simp
@[simp] theorem Dev.freePages_pa (d : Dev) (c : Chan) (n : Nat) : (d.freePages c n).pa = d.pa := by unfold Dev.freePages; split <;> simp
@[simp] theorem Dev.freePages_pb (d : Dev) (c : Chan) (n : Nat) : (d.freePages c n).pb = d.pb := by unfold Dev.freePages; split <;> simp
@[simp] theorem Dev.freePages_pp (d : Dev) (c : Chan) (n : Nat) : (d.freePages c n).pp = d.pp := by unfold Dev.freePages; split <;> simp
@[simp] theorem Dev.freePages_resetReq (d : Dev) (c : Chan) (n : Nat) : (d.freePages c n).resetReq = d.resetReq := by unfold Dev.freePages; split <;> simp
@[simp] theorem Dev.freePages_sent (d : Dev) (c : Chan) (n : Nat) : (d.freePages c n).sent = d.sent := by unfold Dev.freePages; split <;> simp
@[simp] theorem Dev.freePages_races (d : Dev) (c : Chan) (n : Nat) : (d.freePages c n).races = d.races := by unfold Dev.freePages; split <;> simp

/-! ### offer -/

@[simp] theorem Dev.offer_phase (d : Dev) (p : Port) (n : Notice) : (d.offer p n).1.phase = d.phase := by
  unfold Dev.offer; dsimp only; repeat' split
  all_goals simp
@[simp] theorem Dev.offer_cat (d : Dev) (p : Port) (n : Notice) : (d.offer p n).1.cat = d.cat := by
  unfold Dev.offer; dsimp only; repeat' split
  all_goals simp
@[simp] theorem Dev.offer_cfg (d : Dev) (p : Port) (n : Notice) : (d.offer p n).1.cfg = d.cfg := by
  unfold Dev.offer; dsimp only; repeat' split
  all_goals simp
@[simp] theorem Dev.offer_cst (d : Dev) (p : Port) (n : Notice) : (d.offer p n).1.cst = d.cst := by
  unfold Dev.offer; dsimp only; repeat' split
  all_goals simp
@[simp] theorem Dev.offer_smc (d : Dev) (p : Port) (n : Notice) : (d.offer p n).1.smc = d.smc := by
  unfold Dev.offer; dsimp only; repeat' split
  all_goals simp
@[simp] theorem Dev.offer_ch (d : Dev) (p : Port) (n : Notice) : (d.offer p n).1.ch = d.ch := by
  unfold Dev.offer; dsimp only; repeat' split
  all_goals simp
@[simp] theorem Dev.offer_waitList (d : Dev) (p : Port) (n : Notice) : (d.offer p n).1.waitList = d.waitList := by
  unfold Dev.offer; dsimp only; repeat' split
  all_goals simp
@[simp] theorem Dev.offer_nextHandle (d : Dev) (p : Port) (n : Notice) : (d.offer p n).1.nextHandle = d.nextHandle := by
  unfold Dev.offer; dsimp only; repeat' split
  all_goals simp
@[simp] theorem Dev.offer_mqu (d : Dev) (p : Port) (n : Notice) : (d.offer p n).1.mqu = d.mqu := by
  unfold Dev.offer; dsimp only; repeat' split
  all_goals simp
@[simp] theorem Dev.offer_lines (d : Dev) (p : Port) (n : Notice) : (d.offer p n).1.lines = d.lines := by
  unfold Dev.offer; dsimp only; repeat' split
  all_goals simp
@[simp] theorem Dev.offer_doorOpen (d : Dev) (p : Port) (n : Notice) : (d.offer p n).1.doorOpen = d.doorOpen := by
  unfold Dev.offer; dsimp only; repeat' split
  all_goals simp
@[simp] theorem Dev.offer_resetReq (d : Dev) (p : Port) (n : Notice) : (d.offer p n).1.resetReq = d.resetReq := by
  unfold Dev.offer; dsimp only; repeat' split
  all_goals simp
@[simp] theorem Dev.offer_sent (d : Dev) (p : Port) (n : Notice) : (d.offer p n).1.sent = d.sent := by
  unfold Dev.offer; dsimp only; repeat' split
  all_goals simp
@[simp] theorem Dev.offer_races (d : Dev) (p : Port) (n : Notice) : (d.offer p n).1.races = d.races := by
  unfold Dev.offer; dsimp only; repeat' split
  all_goals simp

/-! ### notice -/

@[simp] theorem Dev.notice_phase (d : Dev) (p : Port) (n : Notice) : (d.notice p n).phase = d.phase := by simp [Dev.notice]
@[simp] theorem Dev.notice_cat (d : Dev) (p : Port) (n : Notice) : (d.notice p n).cat = d.cat := by simp [Dev.notice]
@[simp] theorem Dev.notice_cfg (d : Dev) (p : Port) (n : Notice) : (d.notice p n).cfg = d.cfg := by simp [Dev.notice]
@[simp] theorem Dev.notice_cst (d : Dev) (p : Port) (n : Notice) : (d.notice p n).cst = d.cst := by simp [Dev.notice]
@[simp] theorem Dev.notice_smc (d : Dev) (p : Port) (n : Notice) : (d.notice p n).smc = d.smc := by simp [Dev.notice]
@[simp] theorem Dev.notice_ch (d : Dev) (p : Port) (n : Notice) : (d.notice p n).ch = d.ch := by simp [Dev.notice]
@[simp] theorem Dev.notice_waitList (d : Dev) (p : Port) (n : Notice) : (d.notice p n).waitList = d.waitList := by simp [Dev.notice]
@[simp] theorem Dev.notice_nextHandle (d : Dev) (p : Port) (n : Notice) : (d.notice p n).nextHandle = d.nextHandle := by simp [Dev.notice]
@[simp] theorem Dev.notice_mqu (d : Dev) (p : Port) (n : Notice) : (d.notice p n).mqu = d.mqu := by simp [Dev.notice]
@[simp] theorem Dev.notice_lines (d : Dev) (p : Port) (n : Notice) : (d.notice p n).lines = d.lines := by simp [Dev.notice]
@[simp] theorem Dev.notice_doorOpen (d : Dev) (p : Port) (n : Notice) : (d.notice p n).doorOpen = d.doorOpen := by simp [Dev.notice]
@[simp] theorem Dev.notice_resetReq (d : Dev) (p : Port) (n : Notice) : (d.notice p n).resetReq = d.resetReq := by simp [Dev.notice]
@[simp] theorem Dev.notice_sent (d : Dev) (p : Port) (n : Notice) : (d.notice p n).sent = d.sent := by simp [Dev.notice]
@[simp] theorem Dev.notice_races (d : Dev) (p : Port) (n : Notice) : (d.notice p n).races = d.races := by simp [Dev.notice]

/-! ### noticeAll -/

@[simp] theorem Dev.noticeAll_phase (d : Dev) (n : Notice) : (d.noticeAll n).phase = d.phase := by simp [Dev.noticeAll]
@[simp] theorem Dev.noticeAll_cat (d : Dev) (n : Notice) : (d.noticeAll n).cat = d.cat := by simp [Dev.noticeAll]
@[simp] theorem Dev.noticeAll_cfg (d : Dev) (n : Notice) : (d.noticeAll n).cfg = d.cfg := by simp [Dev.noticeAll]
@[simp] theorem Dev.noticeAll_cst (d : Dev) (n : Notice) : (d.noticeAll n).cst = d.cst := by simp [Dev.noticeAll]
@[simp] theorem Dev.noticeAll_smc (d : Dev) (n : Notice) : (d.noticeAll n).smc = d.smc := by simp [Dev.noticeAll]
@[simp] theorem Dev.noticeAll_ch (d : Dev) (n : Notice) : (d.noticeAll n).ch = d.ch := by simp [Dev.noticeAll]
@[simp] theorem Dev.noticeAll_waitList (d : Dev) (n : Notice) : (d.noticeAll n).waitList = d.waitList := by simp [Dev.noticeAll]
@[simp] theorem Dev.noticeAll_nextHandle (d : Dev) (n : Notice) : (d.noticeAll n).nextHandle = d.nextHandle := by simp [Dev.noticeAll]
@[simp] theorem Dev.noticeAll_mqu (d : Dev) (n : Notice) : (d.noticeAll n).mqu = d.mqu := by simp [Dev.noticeAll]
@[simp] theorem Dev.noticeAll_lines (d : Dev) (n : Notice) : (d.noticeAll n).lines = d.lines := by simp [Dev.noticeAll]
@[simp] theorem Dev.noticeAll_doorOpen (d : Dev) (n : Notice) : (d.noticeAll n).doorOpen = d.doorOpen := by simp [Dev.noticeAll]
@[simp] theorem Dev.noticeAll_resetReq (d : Dev) (n : Notice) : (d.noticeAll n).resetReq = d.resetReq := by simp [Dev.noticeAll]
@[simp] theorem Dev.noticeAll_sent (d : Dev) (n : Notice) : (d.noticeAll n).sent = d.sent := by simp [Dev.noticeAll]
@[simp] theorem Dev.noticeAll_races (d : Dev) (n : Notice) : (d.noticeAll n).races = d.races := by simp [Dev.noticeAll]

/-! ### noticeOwner -/

@[simp] theorem Dev.noticeOwner_phase (d : Dev) (p : Port) (n : Notice) : (d.noticeOwner p n).phase = d.phase := by unfold Dev.noticeOwner; split <;> simp
@[simp] theorem Dev.noticeOwner_cat (d : Dev) (p : Port) (n : Notice) : (d.noticeOwner p n).cat = d.cat := by unfold Dev.noticeOwner; split <;> simp
@[simp] theorem Dev.noticeOwner_cfg (d : Dev) (p : Port) (n : Notice) : (d.noticeOwner p n).cfg = d.cfg := by unfold Dev.noticeOwner; split <;> simp
@[simp] theorem Dev.noticeOwner_cst (d : Dev) (p : Port) (n : Notice) : (d.noticeOwner p n).cst = d.cst := by unfold Dev.noticeOwner; split <;> simp
@[simp] theorem Dev.noticeOwner_smc (d : Dev) (p : Port) (n : Notice) : (d.noticeOwner p n).smc = d.smc := by unfold Dev.noticeOwner; split <;> simp
@[simp] theorem Dev.noticeOwner_ch (d : Dev) (p : Port) (n : Notice) : (d.noticeOwner p n).ch = d.ch := by unfold Dev.noticeOwner; split <;> simp
@[simp] theorem Dev.noticeOwner_waitList (d : Dev) (p : Port) (n : Notice) : (d.noticeOwner p n).waitList = d.waitList := by unfold Dev.noticeOwner; split <;> simp
@[simp] theorem Dev.noticeOwner_nextHandle (d : Dev) (p : Port) (n : Notice) : (d.noticeOwner p n).nextHandle = d.nextHandle := by unfold Dev.noticeOwner; split <;> simp
@[simp] theorem Dev.noticeOwner_mqu (d : Dev) (p : Port) (n : Notice) : (d.noticeOwner p n).mqu = d.mqu := by unfold Dev.noticeOwner; split <;> simp
@[simp] theorem Dev.noticeOwner_lines (d : Dev) (p : Port) (n : Notice) : (d.noticeOwner p n).lines = d.lines := by unfold Dev.noticeOwner; split <;> simp
@[simp] theorem Dev.noticeOwner_doorOpen (d : Dev) (p : Port) (n : Notice) : (d.noticeOwner p n).doorOpen = d.doorOpen := by unfold Dev.noticeOwner; split <;> simp
@[simp] theorem Dev.noticeOwner_resetReq (d : Dev) (p : Port) (n : Notice) : (d.noticeOwner p n).resetReq = d.resetReq := by unfold Dev.noticeOwner; split <;> simp
@[simp] theorem Dev.noticeOwner_sent (d : Dev) (p : Port) (n : Notice) : (d.noticeOwner p n).sent = d.sent := by unfold Dev.noticeOwner; split <;> simp
@[simp] theorem Dev.noticeOwner_races (d : Dev) (p : Port) (n : Notice) : (d.noticeOwner p n).races = d.races := by unfold Dev.noticeOwner; split <;> simp

/-! ### What the operations change -/

/-- R189: a block marked dirty is dirty, and no mark is lost. -/
theorem Dev.dirty_isDirty (d : Dev) (b : Nat) (h : b < d.cst.dirty.length) : (d.dirty b).cst.isDirty b = true := by
  simp [Dev.dirty, Store.isDirty, List.getD, h]

/-- R52: a take is granted exactly when the rule allows it, and then changes the counts alone. -/
theorem Dev.takePage_eq_some (d e : Dev) (c : Chan) :
    d.takePage c = some e ↔ d.smc.mayTake c = true ∧ e = { d with smc := d.smc.take c } := by
  unfold Dev.takePage
  split
  · next h => simp only [h, Option.some.injEq, true_and]; exact eq_comm
  · next h => simp [h]

theorem Dev.takePage_eq_none (d : Dev) (c : Chan) : d.takePage c = none ↔ d.smc.mayTake c = false := by
  unfold Dev.takePage; split <;> simp_all

/-- R51, R52: a granted take keeps the counts balanced. -/
theorem Smc.take_balanced (m : Smc) (c : Chan) (h : m.balanced) (ht : m.mayTake c = true) : (m.take c).balanced := by
  cases c <;> simp_all [Smc.balanced, Smc.take, Smc.mayTake, Smc.heldBy, Pair.get, Pair.set] <;> omega

/-- R51: a release keeps the counts balanced. -/
theorem Smc.release_balanced (m : Smc) (c : Chan) (n : Nat) (h : m.balanced) : (m.release c n).balanced := by
  cases c <;> simp_all [Smc.balanced, Smc.release, Smc.heldBy, Pair.get, Pair.set] <;> omega

/-- R69: the command sent is outstanding under the next command number, and its timer runs. -/
theorem Dev.drive_sendCmd (d : Dev) (c : Chan) (k : DriveCmd) (o : Option Nat) :
    (d.sendCmd c k o).drive c =
      { d.drive c with out := some ⟨k, (d.drive c).cmdNum, o⟩, cmdNum := ((d.drive c).cmdNum + 1) % 256, cmdTimer := some k.ms } := by
  simp [Dev.sendCmd]

/-- R95, R187: the order sent next is in the queue and ready. -/
theorem Dev.nextOrder_ready (d : Dev) (o : Order) (h : d.nextOrder = some o) : o ∈ d.mqu.queue ∧ d.isReady o = true := by
  unfold Dev.nextOrder at h
  cases hf : d.mqu.queue.find? fun o => d.isReady o && (o.kind = .scan && d.mqu.first.contains o.src) with
  | some x =>
    rw [hf] at h
    obtain rfl : x = o := Option.some.inj h
    exact ⟨List.mem_of_find?_eq_some hf, by have := List.find?_some hf; simp_all⟩
  | none => rw [hf] at h; exact ⟨List.mem_of_find?_eq_some h, List.find?_some h⟩

/-- R122: while the current half holds less than a block, the place where a file begins lies in one. -/
theorem Channel.nextOffset_lt (x : Channel) (h : (x.half x.curB).state = .handed ∨ (x.half x.curB).bytes.length < 65536) :
    x.nextOffset < 65536 := by
  unfold Channel.nextOffset; split <;> simp_all

/-- R80: an entry that leaves the list takes its handle with it, and nothing but the list and the catalogue changes. -/
@[simp] theorem Dev.unlist_waitList (d : Dev) (e : WaitEntry) :
    (d.unlist e).waitList = d.waitList.filter fun x => x.handle ≠ e.handle := by simp [Dev.unlist]
@[simp] theorem Dev.unlist_ch (d : Dev) (e : WaitEntry) : (d.unlist e).ch = d.ch := by simp [Dev.unlist]
@[simp] theorem Dev.unlist_mqu (d : Dev) (e : WaitEntry) : (d.unlist e).mqu = d.mqu := by simp [Dev.unlist]
@[simp] theorem Dev.unlist_smc (d : Dev) (e : WaitEntry) : (d.unlist e).smc = d.smc := by simp [Dev.unlist]
@[simp] theorem Dev.unlist_cfg (d : Dev) (e : WaitEntry) : (d.unlist e).cfg = d.cfg := by simp [Dev.unlist]
@[simp] theorem Dev.port_unlist (d : Dev) (e : WaitEntry) (p : Port) : (d.unlist e).port p = d.port p := by cases p <;> simp [Dev.unlist, Dev.port]

/-- R117, R142: forgetting a need whose cartridge is at a place again changes the session alone. -/
@[simp] theorem Dev.mediaBack_cat (d : Dev) (c : Chan) : (d.mediaBack c).cat = d.cat := by
  unfold Dev.mediaBack; split <;> (try split) <;> simp
@[simp] theorem Dev.mediaBack_mqu (d : Dev) (c : Chan) : (d.mediaBack c).mqu = d.mqu := by
  unfold Dev.mediaBack; split <;> (try split) <;> simp
@[simp] theorem Dev.mediaBack_smc (d : Dev) (c : Chan) : (d.mediaBack c).smc = d.smc := by
  unfold Dev.mediaBack; split <;> (try split) <;> simp
@[simp] theorem Dev.mediaBack_cfg (d : Dev) (c : Chan) : (d.mediaBack c).cfg = d.cfg := by
  unfold Dev.mediaBack; split <;> (try split) <;> simp
@[simp] theorem Dev.drive_mediaBack (d : Dev) (c k : Chan) : (d.mediaBack c).drive k = d.drive k := by
  unfold Dev.mediaBack; split <;> (try split) <;> simp

/-- R167: where the ending of the highest-ordinal group is known, the state of a rebuilt entry rests on no free choice. -/
theorem BackupSet.rebuiltState_known (x : BackupSet) (before : Bool) (choice : Nat) (t : GroupEnd) (h : x.topEnd before = some t) :
    x.rebuiltState before choice = x.stateAfter t := by
  simp [BackupSet.rebuiltState, h]

/-- R173: a request no longer waiting for its answer is not answered twice. -/
theorem Dev.answerWith_of_not_mem (d : Dev) (r : ReqId) (st : Status) (h : Nat) (bs : List Byte)
    (hr : r ∉ (d.port r.port).unanswered) : d.answerWith r st h bs = d := by
  simp [Dev.answerWith, hr]

/-- R1, R2: the place an update sets reads as set. -/
theorem Dev.place_setPlace (d : Dev) (p : Place) (x : PlaceRec) (h : placeCode p < d.cat.places.length) :
    (d.setPlace p x).place p = x := by
  simp [Dev.setPlace, Dev.place, List.getD, h]

/-- R3: the entry written reads as written, and the other entries read as before. -/
theorem Dev.cart_putCart (d : Dev) (i j : CartIx) (x : Option Cart) (h : d.cat.carts.length = 64) :
    (d.putCart i x).cart j = if j = i then x else d.cart j := by
  simp only [Dev.putCart, Dev.cart, Dev.dirty_cat, Dev.modCat_cat, List.getD, List.getElem?_set, Fin.ext_iff]
  by_cases hij : i.val = j.val <;> simp_all [eq_comm]

/-- R16: the entry written reads as written, and the other entries read as before. -/
theorem Dev.entry_putSet (d : Dev) (e k : SetIx) (x : SetEntry) (h : d.cat.sets.length = 256) :
    (d.putSet e x).entry k = if k = e then x else d.entry k := by
  simp only [Dev.putSet, Dev.entry, Dev.dirty_cat, Dev.modCat_cat, List.getD, List.getElem?_set, Fin.ext_iff]
  by_cases hij : e.val = k.val <;> simp_all [eq_comm]

/-- R17, R167: what the state a rebuild gives an entry leaves of its index locator: none while it is ABORTED, and INDEX_MISSING marks
exactly an entry without one. -/
theorem BackupSet.inState_locator (x : BackupSet) (st : SetState) :
    (x.inState st).locator = (if st = .aborted then none else x.closeLoc) ∧
      (x.inState st).indexMissing = (x.inState st).locator.isNone ∧ (x.inState st).state = st := ⟨rfl, rfl, rfl⟩
@[simp] theorem BackupSet.inState_segments (x : BackupSet) (st : SetState) : (x.inState st).segments = x.segments := rfl
@[simp] theorem BackupSet.inState_ends (x : BackupSet) (st : SetState) : (x.inState st).ends = x.ends := rfl
@[simp] theorem BackupSet.inState_closeLoc (x : BackupSet) (st : SetState) : (x.inState st).closeLoc = x.closeLoc := rfl

/-- R4, R110: what MQU keeps of a cartridge whose entry is freed: a mark names no freed entry, a slot that carries one carries one still,
and everything but the marks and the counts of the missing is as it was. -/
theorem Mover.entryFreed_mark (m : Mover) (i : CartIx) (l : Option Label) (c : Chan) :
    (m.entryFreed i l).exportMark.get c =
      if m.exportMark.get c = some (.cart i) then some (.erased l) else m.exportMark.get c := by
  cases c <;> rfl
@[simp] theorem Mover.entryFreed_queue (m : Mover) (i : CartIx) (l : Option Label) : (m.entryFreed i l).queue = m.queue := rfl
@[simp] theorem Mover.entryFreed_scanList (m : Mover) (i : CartIx) (l : Option Label) : (m.entryFreed i l).scanList = m.scanList := rfl
@[simp] theorem Mover.entryFreed_sent (m : Mover) (i : CartIx) (l : Option Label) : (m.entryFreed i l).sent = m.sent := rfl
@[simp] theorem Mover.entryFreed_settled (m : Mover) (i : CartIx) (l : Option Label) : (m.entryFreed i l).settled = m.settled := rfl

/-- R96: a mail slot is as free after an entry is freed as before. -/
theorem Mover.entryFreed_marked (m : Mover) (i : CartIx) (l : Option Label) (c : Chan) :
    ((m.entryFreed i l).exportMark.get c).isNone = (m.exportMark.get c).isNone := by
  rw [Mover.entryFreed_mark]; split <;> simp_all

/-- R93, R98: a SENT order moves its cartridge while the catalogue knows it, and what it moves is UNREGISTERED otherwise. -/
theorem Dev.moved_known (d : Dev) (o : Order) (i : CartIx) (h : o.cart = .cart i) (x : Cart) (hx : d.cart i = some x) :
    d.moved o = .cart i := by simp [Dev.moved, h, hx]
theorem Dev.moved_freed (d : Dev) (o : Order) (i : CartIx) (h : o.cart = .cart i) (hx : d.cart i = none) :
    d.moved o = .unregistered := by simp [Dev.moved, h, hx]

/-- R160: the last failed record is not counted a second time. -/
theorem Dev.countFailed_again (d : Dev) (c : Chan) (q : Nat) (cause : Cause) (s : Session) (r : Restore)
    (h : d.restore? c = some (s, r)) (hq : r.lastFailed = some q) : d.countFailed c q cause = d := by
  simp [Dev.countFailed, h, hq]

/-- R160: the last failed record stops the file that comes to it, whether or not it is held. -/
theorem Dev.holding_lastFailed (d : Dev) (c : Chan) (r : Restore) (e : IndexEntry) (q : Nat) (h : r.lastFailed = some q) :
    d.holding c r e q = .stopped none := by
  simp [Dev.holding, h]

/-- R142: a session that wants its cartridge brought waits for it and does not yield it. -/
theorem Dev.wantsCart_eq_some (d : Dev) (c : Chan) (p : Session × CartIx) :
    d.wantsCart c = some p ↔ d.awaitsCart c = some p ∧ d.mayHave p.1 p.2 = true := by
  simp [Dev.wantsCart, Option.filter_eq_some_iff]

/-- R142: when a session ends, the other session yields its cartridge no longer, and nothing but that session changes. -/
@[simp] theorem Dev.stopYielding_cat (d : Dev) (c : Chan) : (d.stopYielding c).cat = d.cat := by simp [Dev.stopYielding]
@[simp] theorem Dev.stopYielding_mqu (d : Dev) (c : Chan) : (d.stopYielding c).mqu = d.mqu := by simp [Dev.stopYielding]
@[simp] theorem Dev.stopYielding_smc (d : Dev) (c : Chan) : (d.stopYielding c).smc = d.smc := by simp [Dev.stopYielding]
theorem Dev.sess_stopYielding (d : Dev) (c : Chan) :
    (d.stopYielding c).sess (otherChan c) = (d.sess (otherChan c)).map fun s => { s with yields := false } := by
  cases c <;> simp [Dev.stopYielding, Dev.modSess, Dev.sess, otherChan]

end Sys2Proof.Machine
end

