-- ==== Sys2Proof/Laws/Ports.lean ====
section
/-! SUPPORT. The laws of a request's arrival, its checks and its answer (R171 to R174). -/

namespace Sys2Proof.Machine

theorem Dev.hears_up {d : Dev} {p : Port} (h : d.hears p = true) : (d.port p).link = .up := by
  simpa using (by simpa [Dev.hears] using h : d.phase = .running ∧ (d.port p).link = .up).2

/-- A request that the port takes is checked and carried out on the device it has joined. -/
theorem Dev.arrive_taken {d : Dev} {f : Req} (k : ReqKind) (act : ReqId → Dev → Dev) (h : d.takes f) :
    d.arrive f k act = act (d.newReq f k) (d.joined f k) := by
  have h2 := h.2
  simp only [Dev.arrive, h.1, if_true]
  rw [if_neg (by omega)]

/-- A frame that the port does not hear has no effect. -/
theorem Dev.arrive_unheard {d : Dev} {f : Req} (k : ReqKind) (act : ReqId → Dev → Dev) (h : d.hears f.port = false) :
    d.arrive f k act = d := by
  simp [Dev.arrive, h]

@[simp] theorem Dev.hears_begin (d : Dev) (p : Port) : d.begin.hears p = d.hears p := by cases p <;> rfl
@[simp] theorem Dev.takes_begin (d : Dev) (f : Req) : d.begin.takes f ↔ d.takes f := by simp [Dev.takes]

@[simp] theorem Dev.withForm_some {α : Type} (d : Dev) (r : ReqId) (x : α) (k : α → Dev → Dev) : d.withForm r (some x) k = k x d :=
  rfl

@[simp] theorem Dev.withForm_none {α : Type} (d : Dev) (r : ReqId) (k : α → Dev → Dev) :
    d.withForm r none k = d.answer r .badRequest := rfl

theorem Dev.panelOnly_panel (d : Dev) (r : ReqId) (k : Dev → Dev) (h : r.port = .P) : d.panelOnly r k = k d := by
  simp [Dev.panelOnly, h]

@[simp] theorem Dev.newReq_port (d : Dev) (f : Req) (k : ReqKind) : (d.newReq f k).port = f.port := rfl
@[simp] theorem Dev.newReq_handle (d : Dev) (f : Req) (k : ReqKind) : (d.newReq f k).handle = f.handle.toNat := rfl

/-- A request that joined the queue of a port whose link is UP, and is answered with nothing else changed between. -/
theorem Dev.joined_answerWith {d : Dev} {f : Req} (k : ReqKind) (st : Status) (handle : Nat) (result : List Byte)
    (h : (d.port f.port).link = .up) :
    (d.joined f k).answerWith (d.newReq f k) st handle result = d.answered f k st handle result := by
  have hm : d.newReq f k ∈ ((d.joined f k).port f.port).unanswered := by simp [Dev.joined]
  have hl : ((d.joined f k).port f.port).link = .up := by simp [Dev.joined, h]
  have hq : ((d.joined f k).port f.port).queue.any (·.serial = (d.newReq f k).serial) = true := by
    simp [Dev.joined, Dev.newReq]
  have hf : (((d.joined f k).port f.port).unanswered.filter (· ≠ d.newReq f k)) =
      (d.port f.port).unanswered.filter (· ≠ d.newReq f k) := by
    simp [Dev.joined, List.filter_append]
  simp only [Dev.answerWith, Dev.newReq_port, if_pos hm, hl, if_true, hq, hf, Dev.answered]
  simp only [Dev.joined, Dev.modPort, Dev.port_setPort, Dev.setPort_setPort, PortUnit.answered]
  rw [h]
  rfl

end Sys2Proof.Machine
end

