-- ==== Sys2Proof/Tests/Slice0.lean ====
section
/-! SUPPORT. Tests: the well-formedness smoke, the manual's worked examples, single steps, and for each statement with
hypotheses the states and operands that meet them, at the edges of their ranges where they have any. -/

namespace Sys2Proof.Tests

set_option Elab.async false

open Sys2Proof Sys2Proof.Machine

/-! ### Small states -/

/-- A label of six characters ending in a digit. -/
def lab (n : Byte) : Label := [65, 65, 65, 48, 48, 48 + n]

def cart (n : Byte) (st : CartState) (p : Place) : Cart :=
  { label := some (lab n), state := st, location := some p, capacity := some 1000 }

def set0 : BackupSet :=
  { number := 5, tape := 5, state := .closed, ownerB := false, pool := 0, expiry := 10, writeDay := 1
    segments := [⟨1, 0, 0, 0, 3⟩], dataCount := 3, locator := some ⟨0, 3, 1⟩ }

/-- C00 in S00, C01 in S01, C02 in M0 and C03 in D0; E000 on C00, and E001 OPEN on C03. -/
def cat0 : Catalogue :=
  { places := ((((List.replicate 28 {}).set 0 ⟨.cart 0, true⟩).set 1 ⟨.cart 1, true⟩).set 24 ⟨.cart 2, true⟩).set 26 ⟨.cart 3, true⟩
    carts := ((((List.replicate 64 none).set 0 (some (cart 0 .active (.slot 0)))).set 1 (some (cart 1 .scratch (.slot 1)))).set 2
      (some (cart 2 .scratch (.mail 0)))).set 3 (some (cart 3 .active (.drive .ch0)))
    sets := ((List.replicate 256 .free).set 0 (.holds set0)).set 1
      (.holds { set0 with number := 6, state := .opened, segments := [⟨1, 3, 0, 0, 0⟩], locator := none, inUse := some 1 }) }

/-- The library running, with D0 READY and D1 EMPTY. -/
def base : Dev :=
  { phase := .running, cat := cat0
    ch := ⟨{ drive := { state := .ready, mounted := .cart 3, pos := some 0, rate := some 100, speed := some 8 } },
      { drive := { state := .empty } }⟩ }

def at_ (d : Dev) : State := ⟨[], d⟩
def req (p : Port) (handle : Byte) (payload : List Byte) : Req := ⟨p, 1, handle, 0, payload⟩

def backup : Backup := { state := .active, wasActive := true, credits := 32 }
def sess (k : SessKind) : Session := { handle := 1, owner := .A, set := some 1, cart := some 3, kind := k }
/-- A session of port A under handle 1 on channel 0. -/
def withSess (k : SessKind) : Dev := base.setSess .ch0 (some (sess k))
/-- A command outstanding on drive link 0 under number 7, of that session. -/
def sent (d : Dev) (k : DriveCmd) (owner : Option Nat) : Dev :=
  d.modDrive .ch0 fun x => { x with out := some ⟨k, 7, owner⟩, cmdTimer := some k.ms }
def record0 : Record := { kind := .data, shrunk := false, rawLength := 1, payload := [1], rawCrc := 0, tape := 6, seq := 0 }
def waitEntry (k : OpenKind) : WaitEntry := ⟨⟨.A, 9, .openVerify, 3, 0⟩, 2, k, none, some 600000⟩

/-! ### Well-formedness: an ill-formed command for each check, and its neighbour in range -/

theorem test_wf_payload : (Instr.data (req .A 1 (List.replicate 4097 0))).wellFormed = false ∧
    (Instr.data (req .A 1 (List.replicate 4096 0))).wellFormed = true := by decide +kernel
theorem test_wf_units : (Instr.clearFaultDrive (req .P 0 [2])).wellFormed = false ∧
    (Instr.clearFaultDrive (req .P 0 [3])).wellFormed = false ∧ (Instr.clearFaultDrive (req .P 0 [1])).wellFormed = true ∧
    (Instr.clearFaultChanger (req .P 0 [1])).wellFormed = false ∧ (Instr.clearFaultStore (req .P 0 [2])).wellFormed = false := by
  decide +kernel
theorem test_wf_store : (Instr.storeReadCompletion (.other [1, 2])).wellFormed = false ∧
    (Instr.storeReadCompletion (.other (List.replicate 2054 0))).wellFormed = true := by decide +kernel
theorem test_wf_links : (Instr.linkDown .P).wellFormed = false ∧ (Instr.linkUp .P).wellFormed = false ∧
    (Instr.holdTimerExpiry .P).wellFormed = false ∧ (Instr.linkDown .B).wellFormed = true := by decide +kernel
theorem test_wf_media : (Instr.mediaReady .ch0 1000 19).wellFormed = false ∧ (Instr.mediaReady .ch0 1000 401).wellFormed = false ∧
    (Instr.mediaReady .ch0 4294967296 20).wellFormed = false ∧ (Instr.mediaReady .ch0 4294967295 400).wellFormed = true ∧
    (Instr.statusCompletion .ch0 0 (.loaded 1 19)).wellFormed = false := by decide +kernel
theorem test_wf_numbers : ∀ i ∈ [Instr.statusCompletion .ch0 256 .none, .locateCompletion .ch0 256 .ok,
    .rewindCompletion .ch0 256 .ok, .writeCompletion .ch0 256 .ok, .readCompletion .ch0 256 .ok [], .speedCompletion .ch0 256 .ok,
    .ejectCompletion .ch0 256 .ok, .moveCompletion 256 .ok, .scanCompletion 256 .empty, .changerStatusCompletion 256 true,
    .openWaitTimerExpiry 0, .openWaitTimerExpiry 255], i.wellFormed = false := by decide +kernel
theorem test_wf_record : (Instr.readCompletion .ch0 0 .ok (List.replicate 65569 0)).wellFormed = false := by decide +kernel

/-! ### Check sums and shrink coding (R42, R188, R44, the worked examples of chapter 2) -/

/-- The manual's check values for the ASCII bytes 123456789. -/
theorem test_crc_values : crc32 [0x31, 0x32, 0x33, 0x34, 0x35, 0x36, 0x37, 0x38, 0x39] = 0xCBF43926 ∧ crc32 [] = 0 ∧
    crc16 [0x31, 0x32, 0x33, 0x34, 0x35, 0x36, 0x37, 0x38, 0x39] = 0x29B1 := by decide +kernel
/-- Section 2.6: the byte order of two raw CRCs in the digest's stream. -/
theorem test_digest_bytes : crc32Bytes 0x12345678 ++ crc32Bytes 0x9ABCDEF0 =
    [0x78, 0x56, 0x34, 0x12, 0xF0, 0xDE, 0xBC, 0x9A] := by decide +kernel
/-- Section 2.2, the repeated triple. -/
theorem test_shrink_triple : shrinkBlock [0x41, 0x42, 0x43, 0x41, 0x42, 0x43, 0x41, 0x42, 0x43, 0x44] =
    (true, [0x08, 0x41, 0x42, 0x43, 0x02, 0x03, 0x44]) := by decide +kernel
/-- Section 2.2, a run of one byte. -/
theorem test_shrink_run : shrinkBlock (List.replicate 40 0x20) = (true, [0x0E, 0x20, 0x00, 0x0F, 0x00, 0x0F, 0x00, 0x00]) := by
  decide +kernel
/-- Section 2.5, decoding the repeated triple and its damaged forms. -/
theorem test_decode_triple :
    decodePayload 1 10 7 [0x08, 0x41, 0x42, 0x43, 0x02, 0x03, 0x44] =
      some [0x41, 0x42, 0x43, 0x41, 0x42, 0x43, 0x41, 0x42, 0x43, 0x44] ∧
    decodePayload 1 10 7 [0x08, 0x41, 0x42, 0x43, 0x05, 0x03, 0x44] = none ∧
    decodePayload 1 10 7 [0x08, 0x41, 0x42, 0x43, 0x02, 0x0F, 0x44] = none ∧
    decodePayload 1 10 8 [0x08, 0x41, 0x42, 0x43, 0x02, 0x03, 0x44, 0x00] = none := by decide +kernel

/-! ### Frames (R197) -/

/-- A DAY request of port P with tag 9 and day 258, its CRC-16 left to the operation tested above. -/
def dayFrame : List Byte := [25, 9, 0, 0, 2, 0, 2, 1]
theorem test_frame_day : decodeFrame .P (dayFrame ++ crc16Bytes (crc16 dayFrame)) = .day ⟨.P, 9, 0, 0, [2, 1]⟩ ∧
    decodeFrame .P (dayFrame ++ [0, 0]) = .frameError .P := by decide +kernel
theorem test_frame_kinds : decodeFrame .A (frameBytes 31 4 5 0 []) = .unknownFrameKind .A 4 5 ∧
    decodeFrame .A (frameBytes 29 4 0 0 [2]) = .clearFaultChanger ⟨.A, 4, 0, 0, [2]⟩ ∧ decodeFrame .A [1, 2, 3] = .frameError .A := by
  decide +kernel

/-! ### Counts and steps (the worked examples of chapter 3) -/

/-- Section 3.7, six windows at a full rate of 160 MB/s and a watermark of 32. -/
theorem test_six_windows :
    newStep 6 (targetStep 130000000 160) 20 32 = 5 ∧ newStep 5 (targetStep 90000000 160) 14 32 = 4 ∧
    newStep 4 (targetStep 150000000 160) 25 32 = 4 ∧ newStep 4 (targetStep 250000000 160) 60 32 = 7 ∧
    newStep 7 (targetStep 0 160) 0 32 = 6 ∧ newStep 6 (targetStep 60000000 160) 131 32 = 8 := by decide +kernel
/-- Section 3.2, sharing the pool: steps 3 to 5 and 8. -/
theorem test_sharing_the_pool :
    (Smc.mk 0 ⟨776, 120⟩).mayTake .ch0 = false ∧ (Smc.mk 1 ⟨776, 119⟩).mayTake .ch0 = true ∧
    (Smc.mk 0 ⟨777, 119⟩).mayTake .ch1 = false ∧ (Smc.mk 64 ⟨832, 0⟩).mayTake .ch0 = false ∧
    (Smc.mk 65 ⟨831, 0⟩).mayTake .ch0 = true := by decide +kernel

/-! ### The table of commands, and single steps -/

/-- The table gives its rows no bits: no word spells a command. -/
theorem test_no_words : decodeTableWord 16 0 = none ∧ State.reset.withFetchWord 16 0 = State.reset := by decide +kernel
/-- What holds of the next state of an outcome. -/
def after (o : Host.Outcome State Fault Refusal) (p : Dev → Bool) : Bool :=
  match o with
  | .next t => p t.dev
  | _ => false

/-- The read of the first copy of block 0 is followed by the read of the second (R193). -/
theorem test_step_store_read : after (step { State.reset with pending := [.storeReadCompletion .stored] })
    (fun d => d.sent = [.storeRead 0 1]) = true := by decide +kernel
/-- DAY sets the day number and marks block 0 dirty, whose write begins at once (R28, R189). -/
theorem test_step_day : after (exec (.day (req .P 0 [2, 1])) (at_ base))
    (fun d => d.cat.day = 258 ∧ d.cst.write.map (·.block) = some 0 ∧ d.pp.tx = some (.answer (some 0) 1 0 .ok [])) = true := by
  decide +kernel
/-- DAY from port A is refused (R172). -/
theorem test_step_day_refused : after (exec (.day (req .A 0 [2, 1])) (at_ base))
    (fun d => d.cat.day = 0 ∧ d.pa.tx = some (.answer (some 0) 1 0 .notOwner [])) = true := by decide +kernel
/-- A door line that falls opens the door and sets its hold (R184). -/
theorem test_step_door : after (exec (.debounceTimerExpiry 2) (at_ { base with
      cfg := { fns := [.none, .none, .door, .none] }, lines := [{}, {}, { raw := .low, timer := some 20 }, {}] }))
    (fun d => d.doorOpen ∧ d.mqu.holdDoor) = true := by decide +kernel
/-- A LOCATE of no session that completes leaves the position (R70), and no command is outstanding. -/
theorem test_step_locate : after (exec (.locateCompletion .ch0 7 .ok) (at_ (sent base (.locate 12) none)))
    (fun d => (d.drive .ch0).pos = some 12 ∧ (d.drive .ch0).out = none) = true := by decide +kernel
/-- RECYCLE of C00 by its label makes it SCRATCH and E000 EXPIRED (R26, R10). -/
theorem test_step_recycle : after (exec (.recycle (req .A 0 (lab 0 ++ [0, 0]))) (at_ base))
    (fun d => (d.cart 0).any (·.state = .scratch) ∧ (d.set? 0).any (·.state = .expired)) = true := by decide +kernel
/-- LINE_INPUT_CHANGE starts the debounce timer of 20 ms (R183). -/
theorem test_step_line : after (exec (.lineInputChange 1 .low) (at_ base))
    (fun d => d.line 1 = { raw := .low, level := .high, timer := some 20 }) = true := by decide +kernel

/-! ### Witnesses: states and operands that meet the hypotheses of the statements -/

/-- A device whose port A queue holds four requests, with `n` overflow answers waiting. -/
def crowded (n : Nat) : Dev :=
  { base with pa := { queue := List.replicate 4 ⟨.A, 0, .inquire, 0, 0⟩, path := List.replicate n (.overflow 0 0) } }
def reqA : ReqId := ⟨.A, 9, .openVerify, 3, 0⟩

theorem wit_step : (State.mk [.startUp, .panelReadCutShort] base).pending = .startUp :: [.panelReadCutShort] := by decide +kernel
theorem wit_idle : State.reset.pending = [] := by decide +kernel
theorem wit_full_queue : ∀ n ∈ [3, 4], ∀ i ∈ [Instr.inquire (req .A 0 []), .data (req .A 1 [1])],
    i.request?.isSome = true ∧ (crowded n).hears .A = true ∧ Config.maxRequests ≤ ((crowded n).port .A).queue.length ∧
      (((crowded n).port .A).path.filter OutFrame.isOverflow).length = n := by decide +kernel
theorem wit_unheard : State.reset.dev.hears .A = false ∧ ({ base with pb := { link := .holding } } : Dev).hears .B = false := by
  decide +kernel
/-- Requests that reach each check of R172. -/
theorem wit_checks : base.takes (req .A 0 [1]) ∧ formOk (.inquire (req .A 0 [1])) = false ∧
    base.takes (req .A 0 [1, 0]) ∧ formOk (.day (req .A 0 [1, 0])) = true ∧
    (∀ h ∈ [(0 : Byte), 255, 7, 2], formOk (.fileEnd (req .A h [])) = true) ∧ base.sessionOf 7 = none ∧
    base.waitList.any (fun w => w.handle = 7) = false ∧
    (({ base with waitList := [waitEntry (.verify 0)] } : Dev).waitList.any fun w => w.handle = 2) = true ∧
    (withSess (.backup backup)).sessionOf 1 = some .ch0 ∧ (withSess (.backup backup)).sess .ch0 = some (sess (.backup backup)) ∧
    (sess (.backup backup)).owner ≠ .B := by decide +kernel
theorem wit_power_hold : let d := base.modMqu fun m => { m with holdPower := true }
    d.takes (req .P 0 []) ∧ d.mqu.holdPower = true ∧ formOk (.importCarts (req .P 0 [])) = true ∧
      formOk (.inventory (req .P 0 [])) = true ∧ formOk (.exportCart (req .P 0 (lab 0 ++ [0, 0]))) = true ∧
      formOk (.relocate (req .P 0 (lab 0 ++ [0, 0, 5]))) = true := by decide +kernel
theorem wit_bad_frames : base.hears .B = true ∧ base.pb.path.any OutFrame.isFrameError = false ∧
    ({ base with pb := { path := [.frameError] } } : Dev).hears .B = true := by decide +kernel
theorem wit_frame_left : ∀ f ∈ [OutFrame.answer (some 0) 1 0 .ok [], .delivery 1 0 (.done 1 .ok 0 true), .frameError],
    (({ base with pa := { tx := some f } } : Dev).port .A).tx = some f := by decide +kernel
theorem wit_nothing_follows : base.todo = [] := by decide +kernel
theorem wit_links : (base.port .A).link = .up ∧ (({ base with pa := { link := .down } } : Dev).port .A).link = .down ∧
    (({ base with pa := { link := .holding, hold := some 30000 } } : Dev).port .A).link = .holding ∧
    (({ base with pa := { link := .holding, hold := some 30000 } } : Dev).port .A).hold ≠ none := by decide +kernel
/-- CARTRIDGE_LIST at its last index and past it; a set that SET_STATUS reports and one it does not. -/
theorem wit_queries : base.takes (req .A 0 [63]) ∧ (63 : Byte).toNat < 64 ∧ 64 ≤ (64 : Byte).toNat ∧
    parseWord [5, 0] = some 5 ∧ base.reportSet 5 = some 0 ∧ base.set? 0 = some set0 ∧ base.reportSet 9 = none := by decide +kernel
theorem wit_session_status : let d := withSess (.backup backup)
    d.takes (req .A 1 []) ∧ d.names (req .A 1 []) .ch0 (sess (.backup backup)) ∧
      (withSess (.verify {})).names (req .A 1 []) .ch0 (sess (.verify {})) := by decide +kernel
/-- OPEN_BACKUP with no target, with C01 as its target, and as an append to set 5. -/
theorem wit_open_backup : base.takes (req .A 0 []) ∧ parseOpenBackup (BackupOpen.bytes ⟨0, 9, false, none, none⟩) =
      some ⟨0, 9, false, none, none⟩ ∧
    parseOpenBackup (BackupOpen.bytes ⟨4, 9, true, some (lab 1), none⟩) = some ⟨4, 9, true, some (lab 1), none⟩ ∧
    parseOpenBackup (BackupOpen.bytes ⟨0, 9, false, none, some 5⟩) = some ⟨0, 9, false, none, some 5⟩ ∧
    (base.cat.live.pool 4).allows .A = true ∧ base.byLabel (lab 1) = some 1 ∧ base.liveSet 5 = some 0 ∧ base.set? 0 = some set0 ∧
    set0.owner = .A ∧ set0.inUse = none ∧ set0.state = .closed ∧ set0.locator ≠ none ∧
    ({ base with cat := { cat0 with carts := cat0.carts.set 0 (some { cart 0 .active (.slot 0) with endPos := 5 }) } } : Dev).appendFits
      set0 = true := by decide +kernel
theorem wit_read_opens : parseRestore ([5, 0, 1, 1, 0]) = some (5, [1]) ∧ filesOk [1] = true ∧ filesOk [1, 2048] = true ∧
    set0.noGap = true ∧ base.liveSetsOn 1 = [] ∧ (base.cart 1).any (·.location.isSome) = true := by decide +kernel
/-- The wait list with neither drive present, full, and with room. -/
theorem wit_wait_list : let absent := (base.modDrive .ch0 fun x => { x with state := .absent }).modDrive .ch1 fun x =>
      { x with state := .absent }
    ((absent.drive .ch0).state = .absent ∧ (absent.drive .ch1).state = .absent) ∧
    Config.maxWaiting ≤ ({ base with waitList := List.replicate 8 (waitEntry (.verify 0)) } : Dev).waitList.length ∧
    ({ base with waitList := List.replicate 7 (waitEntry (.verify 0)) } : Dev).waitList.length < Config.maxWaiting ∧
    base.cfg.openWait ≠ 0 ∧ ({ base with cfg := { openWait := 0 } } : Dev).cfg.openWait = 0 ∧ (OpenKind.verify 0).set? = some 0 ∧
    base.set? 0 = some set0 ∧
    (({ base with waitList := [waitEntry (.verify 0)] } : Dev).waitList.find? fun w => w.handle = 2) = some (waitEntry (.verify 0)) := by
  decide +kernel
/-- The handle counter at both ends of its range, the handle it stands at held. -/
theorem wit_handles : (1 ≤ (withSess (.verify {})).nextHandle ∧ (withSess (.verify {})).nextHandle ≤ 254) ∧
    (withSess (.verify {})).handleHeld 1 = true ∧ (withSess (.verify {})).handleFrom 11 1 = 2 ∧
    ({ base with nextHandle := 254, waitList := [{ waitEntry (.verify 0) with handle := 254 }] } : Dev).handleFrom 11 254 = 1 := by
  decide +kernel
theorem wit_cancel : let d : Dev := { base with waitList := [waitEntry (.verify 0)] }
    d.takes (req .A 0 [3]) ∧ (d.waitList.find? fun w => w.req.port = .A ∧ w.req.tag = (3 : Byte).toNat) = some (waitEntry (.verify 0)) ∧
      (base.waitList.find? fun w => w.req.port = .A ∧ w.req.tag = (3 : Byte).toNat) = none := by decide +kernel
def fileOpen : OpenFile := { file := 1, tag := [7], startSeq := 0, startOff := 0 }
/-- FILE_BEGIN at the last file number and past it, with and without a file open; FILE_END and DATA with one. -/
theorem wit_files : parseTag [1, 7] = some [7] ∧ backup.granting = true ∧ backup.openFile = none ∧
    ({ backup with nextFile := 2048 } : Backup).nextFile ≤ 2048 ∧ 2048 < ({ backup with nextFile := 2049 } : Backup).nextFile ∧
    ({ backup with openFile := some fileOpen } : Backup).openFile = some fileOpen ∧
    (withSess (.backup backup)).names (req .A 1 [1, 7]) .ch0 (sess (.backup backup)) ∧
    (withSess (.backup backup)).takes (req .A 1 [1, 7]) := by decide +kernel
/-- Tags of 64 and of 65 bytes. -/
theorem wit_tags : (parseTag (64 :: List.replicate 64 0)).isSome = true ∧ parseTag (65 :: List.replicate 65 0) = none ∧
    (withSess (.backup backup)).takes (req .A 1 (65 :: List.replicate 65 0)) ∧ (withSess (.backup backup)).takes (req .A 1 []) := by
  decide +kernel
theorem wit_data : parseData [9] = some [9] ∧ ({ backup with credits := 1 } : Backup).credits ≠ 0 ∧
    ({ backup with credits := 0 } : Backup).credits = 0 ∧
    (withSess (.backup { backup with openFile := some fileOpen })).names (req .A 1 [9]) .ch0
      (sess (.backup { backup with openFile := some fileOpen })) := by decide +kernel
/-- Halves one byte short of full, so that one byte fills the half and two go past it. -/
theorem wit_halves : let d := (withSess (.backup backup)).modChan .ch0 fun x =>
      { x with rawA := { state := .filling, bytes := List.replicate 65535 0 } }
    (d.backup? .ch0).isSome = true ∧ ((d.chan .ch0).half (d.chan .ch0).curB).bytes.length = 65535 := by
  refine ⟨rfl, ?_⟩
  show (List.replicate 65535 (0 : Byte)).length = 65535
  exact List.length_replicate
theorem wit_grant_room : (withSess (.backup backup)).backup? .ch0 = some (sess (.backup backup), backup) ∧ backup.granting = true := by
  decide +kernel
/-- CLOSE_SET with the current half free and filling. -/
theorem wit_close_set : (withSess (.backup backup)).takes (req .A 1 []) ∧
    (withSess (.backup backup)).names (req .A 1 []) .ch0 (sess (.backup backup)) ∧
    (((withSess (.backup backup)).chan .ch0).half false).state ≠ .filling ∧
    ((((withSess (.backup backup)).modChan .ch0 fun x => { x with rawA := ⟨.filling, [1]⟩ }).chan .ch0).half false).state = .filling := by
  decide +kernel
theorem wit_abort : (withSess (.backup backup)).abortAllowed .ch0 (sess (.backup backup)) backup = true ∧
    (withSess (.backup { backup with state := .aborting })).abortAllowed .ch0 (sess (.backup backup))
      { backup with state := .aborting } = false ∧
    (withSess (.verify {})).names (req .A 1 []) .ch0 (sess (.verify {})) := by decide +kernel
/-- Sessions of each kind on a set; reasons that allow a trailer and that do not; 14 notices queued. -/
theorem wit_abort_leaves : (∀ k ∈ [SessKind.backup { backup with wasActive := false }, .verify { started := true }, .verify {},
      .restore {}, .rebuild {}, .rebuild { state := .reading }],
        (withSess k).sess .ch0 = some (sess k) ∧ (sess k).set = some 1 ∧ ((withSess k).set? 1).any (·.state = .opened) = true) ∧
    Reason.driveFault.allowsTrailer = false ∧ Reason.linkLost.allowsTrailer = true ∧
    (({ base with pa := { notices := List.replicate 14 .powerHold } } : Dev).port .A).notices.length < 15 ∧
    (base.cfg.mask .A).getD (Notice.sessionEnded 1 .reset none .none).index true = true := by decide +kernel
/-- An ACTIVE backup whose cartridge is mounted in a READY drive, with no WRITE in flight and with one. -/
theorem wit_aborting : let d := withSess (.backup backup)
    d.backup? .ch0 = some (sess (.backup backup), backup) ∧ backup.wasActive = true ∧ backup.state ≠ .aborting ∧
      (d.writeInFlight .ch0 1).isSome = false ∧ ((d.set? 1).bind (·.lastSegment)).map (·.cart) = some 3 ∧
      (d.drive .ch0).state = .ready ∧ (d.drive .ch0).unload = none ∧ (d.drive .ch0).pos ≠ none ∧ (d.drive .ch0).mounted = .cart 3 ∧
      (d.smc.free + d.smc.held.zero + d.smc.held.one = Config.pages) ∧
      ((sent d (.write record0 0) (some 1)).writeInFlight .ch0 1).isSome = true := by decide +kernel
/-- GRANT up to 64 receive credits, and past them. -/
theorem wit_grant : let r : Restore := { credits := 60 }
    (withSess (.restore r)).takes (req .A 1 [4]) ∧ (withSess (.restore r)).names (req .A 1 [4]) .ch0 (sess (.restore r)) ∧
      r.credits + (4 : Byte).toNat ≤ 64 ∧ 64 < r.credits + (5 : Byte).toNat ∧ (0 : Byte).toNat = 0 ∧ (4 : Byte).toNat ≠ 0 := by
  decide +kernel
theorem wit_recycle : base.takes (req .A 0 (lab 1 ++ [0, 0])) ∧ base.cart 1 = some (cart 1 .scratch (.slot 1)) ∧
    base.cartBusy 1 = false ∧ base.setInUseOn 1 = false ∧ parseLabel (lab 1 ++ [0, 0]) = some (lab 1) ∧
    base.byLabel (lab 1) = some 1 ∧ (base.cat.live.pool 0).allows .A = true ∧ (base.cat.live.pool 0).kind ≠ .retained ∧
    base.takes (req .P 0 [1]) ∧ (1 : Byte).toNat = (1 : CartIx).val := by decide +kernel
theorem wit_recycled : base.cart 0 = some (cart 0 .active (.slot 0)) ∧ (cart 0 .active (.slot 0)).state ≠ .scratch ∧
    base.cat.carts.length = 64 ∧ base.cat.sets.length = 256 := by decide +kernel
/-- ERASE of a cartridge at a place and of an ABSENT one. -/
theorem wit_erase : (cart 0 .active (.slot 0)).location ≠ none ∧
    ({ base with cat := { cat0 with carts := cat0.carts.set 0 (some { cart 0 .full (.slot 0) with location := none }) } } : Dev).cart 0 =
      some { cart 0 .full (.slot 0) with location := none } ∧ base.liveSetsOn 0 = [0] := by decide +kernel
/-- A POOLS request whose boundaries fall, one with a bad kind, one that is staged, and one that moves a locked pool. -/
theorem wit_pools : let free : PoolsReq := ⟨8, 24, 24, 24, [(1, 2), (0, 2), (0, 2), (0, 2), (0, 2)]⟩
    boundsOk 9 8 24 24 = false ∧ boundsOk 0 0 0 25 = false ∧ boundsOk 0 24 24 24 = true ∧ stagedPools {} [(2, 0), (0, 2), (0, 2), (0, 2), (0, 2)] = none ∧
    (stagedPools {} free.pools).map (fun ps => locksKept {} ⟨8, 24, 24, 24, ps⟩) = some true ∧
    (let l : PoolMap := { pools := [⟨.retained, .shared, true⟩, {}, {}, {}, {}] }
     (stagedPools l free.pools).map (fun ps => locksKept l ⟨8, 24, 24, 24, ps⟩)) = some false ∧
    parsePools [8, 24, 24, 24, 1, 2, 0, 2, 0, 2, 0, 2, 0, 2] = some free := by decide +kernel
/-- POOLS and LOCK_POOL from a client; LOCK_POOL of a pool past the last, with a staged map, and of a ROTATION pool. -/
theorem wit_pool_refusals : base.takes (req .A 0 [5]) ∧ base.takes (req .P 0 [5]) ∧ 4 < (5 : Byte).toNat ∧
    ({ base with cat := { cat0 with staged := some {} } } : Dev).takes (req .P 0 [4]) ∧
    ({ base with cat := { cat0 with staged := some {} } } : Dev).cat.staged ≠ none ∧ (base.cat.live.pool 4).kind = .rotation ∧
    base.takes (req .P 0 [8, 24, 24, 24, 1, 2, 0, 2, 0, 2, 0, 2, 0, 2]) := by decide +kernel
theorem wit_lock_pool : let m : PoolMap := { pools := [{}, {}, {}, {}, ⟨.retained, .shared, false⟩] }
    base.takes (req .P 0 [4]) ∧ (4 : Byte).toNat ≤ 4 ∧ base.cat.staged = none ∧ (m.pool 4).kind = .retained ∧ (m.pool 4).lock = false ∧
      (({ pools := [{}, {}, {}, {}, ⟨.retained, .shared, true⟩] } : PoolMap).pool 4).lock = true := by decide +kernel
theorem wit_config : (parseConfig ([1, 0, 0] ++ List.replicate 25 0)).isSome = true ∧ (parseMask [2, 255, 15]).isSome = true ∧
    portOfCode 2 = some .P ∧ portOfCode 3 = none := by decide +kernel
/-- The set counter at both ends of its range; a free entry, and a table with only a LOST one left. -/
theorem wit_new_set : 1 ≤ base.cat.nextSet ∧ base.cat.nextSet ≤ 65535 ∧ base.freeEntry = some 2 ∧
    ({ base with cat := { cat0 with nextSet := 65535 } } : Dev).allocNumber.1 = 65535 ∧
    ({ base with cat := { cat0 with sets := (List.replicate 256 (SetEntry.holds set0)).set 7 .lost } } : Dev).freeEntry = some 7 := by
  decide +kernel
/-- An ACTIVE candidate in the granted drive, one elsewhere, and none. -/
theorem wit_active : (base.drive .ch0).mounted = .cart 3 ∧ base.candidate .ch0 2 0 3 = true ∧
    (base.cart 3).any (·.state = .active) = true ∧ (base.drive .ch1).mounted = .none ∧ base.candidate .ch1 2 0 0 = true ∧
    (base.cart 0).any (·.state = .active) = true ∧ (∀ i, base.candidate .ch0 2 4 i = false) ∧ (∀ i, base.recyclable .ch0 4 i = false) := by
  decide +kernel
theorem wit_selection : base.pickScratch .ch1 2 0 = some 1 ∧
    ({ base with cat := { cat0 with day := 10, carts := (List.replicate 64 none).set 0 (some (cart 0 .full (.slot 0))) } } : Dev).pickRecycle
      .ch1 0 = some 0 := by decide +kernel
/-- The move queue with 16 orders and with 15, and one that names the cartridge. -/
theorem wit_move_queue : let o : Order := { kind := .relocate, cart := .cart 0, src := .slot 0, dst := some (.slot 5) }
    let other : Order := { kind := .scan, cart := .none, src := .slot 9 }
    let d (n : Nat) := base.modMqu fun m => { m with queue := List.replicate n other }
    o.kind ≠ .scan ∧ (d 16).waitingLoad o = none ∧ 16 ≤ (d 16).mqu.queue.length ∧ (d 15).mqu.queue.length < 16 ∧
      (d 15).cartNamed o = false ∧ (base.modMqu fun m => { m with queue := [o] }).cartNamed o = true := by decide +kernel
theorem wit_movement : base.takes (req .P 0 []) ∧ base.mqu.holdPower = false ∧ base.mqu.holdStop = false ∧
    (base.modMqu fun m => { m with holdStop := true }).mqu.holdStop = true := by decide +kernel
/-- EXPORT from a slot, a mail slot and a drive; RELOCATE to a free place and to the cartridge's own. -/
theorem wit_export : base.byLabel (lab 0) = some 0 ∧ base.cartBusy 0 = false ∧ (base.cart 0).bind (·.location) = some (.slot 0) ∧
    base.byLabel (lab 2) = some 2 ∧ (base.cart 2).bind (·.location) = some (.mail 0) ∧ base.byLabel (lab 3) = some 3 ∧
    base.cartBusy 3 = false ∧ (base.cart 3).bind (·.location) = some (.drive .ch0) ∧ (base.drive .ch0).state = .ready ∧
    (base.drive .ch0).claim = none ∧ (base.drive .ch0).unload = none ∧ parseLabel (lab 0 ++ [0, 0]) = some (lab 0) ∧
    parseRelocate (lab 0 ++ [0, 0, 5]) = some (lab 0, 5) ∧ placeOfCode 5 = some (.slot 5) ∧ base.occ (.slot 5) = .none ∧
    placeOfCode 25 = some (.mail 1) ∧ placeOfCode 28 = none := by decide +kernel
theorem wit_clear_fault :
    let f := base.modDrive .ch0 fun x => { x with state := .fault }
    (f.drive .ch0).state = .fault ∧ (f.drive .ch0).wants.clear = none ∧ (f.drive .ch0).out = none ∧ (base.drive .ch0).state ≠ .fault ∧
      ((f.modDrive .ch0 fun x => { x with wants := { clear := some reqA } }).drive .ch0).wants.clear ≠ none ∧
      ((sent f (.status { clear := some reqA }) none).drive .ch0).out = some ⟨.status { clear := some reqA }, 7, none⟩ ∧
      (base.modMqu fun m => { m with changer := .fault, clearReq := some reqA }).mqu.clearReq ≠ none ∧
      (base.modMqu fun m => { m with changer := .fault }).mqu.changer = .fault ∧ base.mqu.changer ≠ .fault ∧
      (base.modCst fun t => { t with fault := true }).cst.fault = true ∧ base.cst.fault = false ∧
      base.cst.dirty.any (· = true) = false ∧ (base.dirty 20).cst.dirty.any (· = true) = true ∧ base.takes (req .P 0 [2]) := by
  decide +kernel
def relocating : Order := { kind := .relocate, cart := .cart 0, src := .slot 0, dst := some (.slot 5), state := .sent, tag := some 4 }
def moving (o : Order) : Dev := base.modMqu fun m => { m with queue := [o], sent := some ⟨4, .order⟩, picker := some 90000 }
theorem wit_move : (moving relocating).mqu.stale ≠ some 4 ∧ (moving relocating).mqu.sent = some ⟨4, .order⟩ ∧
    (moving relocating).sentOrder = some relocating ∧ relocating.kind ≠ .scan ∧ relocating.dst = some (.slot 5) := by decide +kernel
/-- Orders whose TO_OCCUPIED is tried again, and fails for good. -/
theorem wit_move_again : let o : Order := { kind := .exporting, cart := .cart 0, src := .slot 0, dst := some (.mail 1), retry := 1 }
    ((o.kind = .unload ∨ o.kind = .importing ∨ o.kind = .exporting) ∧ o.retry < 2) ∧
      ¬ ((relocating.kind = .unload ∨ relocating.kind = .importing ∨ relocating.kind = .exporting) ∧ relocating.retry < 2) := by
  decide +kernel
theorem wit_moved : relocating.cart = .cart 0 ∧ relocating.src = .slot 0 ∧ base.cart 0 = some (cart 0 .active (.slot 0)) ∧
    (cart 0 .active (.slot 0)).location = some (.slot 0) ∧ base.occ (.slot 0) = .cart 0 ∧ base.cat.places.length = 28 ∧
    base.cat.carts.length = 64 ∧ relocating.halted = false ∧ (cart 0 .active (.slot 0)).home = none := by decide +kernel
/-- A LOAD into an EMPTY drive that the cartridge's session claims and into a READY one, an IMPORT and an UNLOAD for an EXPORT. -/
theorem wit_moved_kinds :
    let d := ((base.setSess .ch1 (some { sess (.verify {}) with cart := some 0 })).modDrive .ch1 fun x => { x with claim := some 1 })
    let o : Order := { kind := .unload, cart := .cart 3, src := .drive .ch0, reqs := [.panel reqA] }
    (d.drive .ch1).state = .empty ∧ (d.drive .ch1).claim = some 1 ∧ (d.sess .ch1).any (fun s => s.handle = 1 ∧ s.cart = some 0) = true ∧
      (base.drive .ch0).state ≠ .empty ∧ base.occ (.drive .ch0) = .cart 3 ∧ o.kind = .unload ∧ o.reqs = [.panel reqA] ∧
      o ∈ (base.modMqu fun m => { m with queue := [o] }).mqu.queue ∧ base.occ (.mail 0) = .cart 2 := by decide +kernel
/-- A place table that agrees with the locations, and labels: of a cartridge at a confirmed place, at an unconfirmed one, of an ABSENT cartridge and
of none; a table with no free entry. -/
theorem wit_labels : (∀ n : Fin 24, ∀ j, base.occ (.slot n) = .cart j → (base.cart j).any (·.location = some (.slot n)) = true) ∧
    (∀ m : Fin 2, ∀ j, base.occ (.mail m) = .cart j → (base.cart j).any (·.location = some (.mail m)) = true) ∧
    (∀ c ∈ [Chan.ch0, .ch1], ∀ j, base.occ (.drive c) = .cart j → (base.cart j).any (·.location = some (.drive c)) = true) ∧
    base.byLabel (lab 0) = some 0 ∧ base.confirmed (.slot 0) = true ∧ (base.setConfirmed (.slot 0) false).confirmed (.slot 0) = false ∧
    base.byLabel (lab 9) = none ∧ base.cart 4 = none ∧ ((base.moveCart 0 none).cart 0).bind (·.location) = none ∧
    ∀ k, ({ base with cat := { cat0 with carts := List.replicate 64 (some {}) } } : Dev).cart k ≠ none := by decide +kernel
theorem wit_scan : let o : Order := { kind := .scan, cart := .none, src := .slot 0, state := .sent, tag := some 4 }
    (moving o).mqu.stale ≠ some 4 ∧ (moving o).mqu.sent = some ⟨4, .order⟩ ∧ (moving o).sentOrder = some o := by decide +kernel
theorem wit_changer : let d := base.modMqu fun m => { m with sent := some ⟨4, .status⟩, picker := some 90000 }
    d.mqu.stale ≠ some 4 ∧ d.mqu.sent = some ⟨4, .status⟩ ∧ d.mqu.clearReq = none ∧ d.mqu.changer ≠ .fault ∧ d.mqu.picker ≠ none ∧
      (d.modMqu fun m => { m with clearReq := some reqA }).mqu.clearReq = some reqA ∧
      (base.modMqu fun m => { m with settle := m.settle.set .ch1 (some 500) }).mqu.settle.get .ch1 ≠ none := by decide +kernel
theorem wit_lines : (base.line 3).raw ≠ .low ∧ (base.line 3).raw = .high ∧
    ∀ g ∈ [LineFn.none, .door, .powerFail, .mailRequest, .stop],
      let d : Dev := { base with cfg := { fns := [g, .none, .none, .none] }, lines := [{ raw := .low, timer := some 20 }, {}, {}, {}] }
      (d.line 0).timer ≠ none ∧ d.phase = .running ∧ (d.line 0).raw ≠ (d.line 0).level ∧ d.cfg.fn 0 = g := by decide +kernel
theorem wit_door : ({ base with cfg := { fns := [.door, .none, .none, .none] }, lines := [{ level := .low }, {}, {}, {}] } : Dev).doorOpen ≠
    ({ base with cfg := { fns := [.door, .none, .none, .none] }, lines := [{ level := .low }, {}, {}, {}] } : Dev).doorUpdate.doorOpen ∧
    base.mqu.holdPower = false := by decide +kernel
theorem wit_numbers : ((sent base .read none).drive .ch0).stale ≠ some 8 ∧ (base.drive .ch0).out = none ∧
    ((base.modDrive .ch0 fun x => { x with stale := some 255 }).drive .ch0).stale = some 255 := by decide +kernel
/-- A STATUS outstanding in each state of the drive. -/
theorem wit_status : ∀ st ∈ [DriveState.unknown, .empty, .inserting, .ready, .ejecting, .fault],
    let d := (sent base (.status { clear := some reqA }) none).modDrive .ch0 fun x => { x with state := st }
    d.awaits .ch0 ⟨.status { clear := some reqA }, 7, none⟩ ∧ (d.drive .ch0).state = st ∧
      ({ retry := some ⟨[.panel reqA], .noCartridge⟩ } : Wants).retry ≠ none := by decide +kernel
theorem wit_drive_place : base.cat.places.length = 28 ∧ base.occ (.drive .ch0) = .cart 3 ∧
    base.cart 3 = some (cart 3 .active (.drive .ch0)) ∧ base.occ (.drive .ch1) = .none := by decide +kernel
/-- A session that moves its tape by LOCATE and by REWIND, and the unload's commands. -/
theorem wit_motion :
    let x (g : Nat) : Session := { sess (.verify { state := .positioning }) with goal := some g }
    let d (g : Nat) (k : DriveCmd) := sent (base.setSess .ch0 (some (x g))) k (some 1)
    (d 9 (.locate 9)).awaits .ch0 ⟨.locate 9, 7, some 1⟩ ∧ (d 9 (.locate 9)).sess .ch0 = some (x 9) ∧ (x 9).positioning = true ∧
      (d 0 (.rewind false)).awaits .ch0 ⟨.rewind false, 7, some 1⟩ ∧ (x 0).goal = some 0 ∧
      (∀ k ∈ [DriveCmd.rewind true, .eject, .speed 3, .locate 9], (sent base k none).awaits .ch0 ⟨k, 7, none⟩) ∧
      ((sent base (.rewind true) none).drive .ch0).state = .ready := by decide +kernel
theorem wit_records : ∀ k ∈ [DriveCmd.write record0 0, .write record0 4294967295, .read],
    (sent (withSess (.backup backup)) k (some 1)).awaits .ch0 ⟨k, 7, some 1⟩ ∧
      (sent (withSess (.backup backup)) k (some 1)).sess .ch0 = some (sess (.backup backup)) ∧ (sent base k (some 1)).sess .ch0 = none := by
  decide +kernel
/-- A DATA record of tape 5 with sequence 0 and one byte, as read. -/
def read0 : ReadEntry := { pos := 3, kind := some .softRecovered, bytes := recordBytes { record0 with tape := 5, ordinal := 1, rawCrc := crc32 [1] } }
/-- The record as a rebuild reads it, the first of a group and the next; the same with its header damaged; and an entry a group joins. -/
theorem wit_rebuild : let b : Rebuild := { state := .reading }
    let h := readHeader read0.bytes
    let g : Group := { tape := 5, ordinal := 1, firstPos := 2, firstSeq := some 0 }
    (withSess (.rebuild b)).rebuild? .ch0 = some (sess (.rebuild b), b) ∧ (readHeader (0 :: read0.bytes)).check = false ∧
      b.hardRun + 1 < 16 ∧ 16 ≤ ({ b with hardRun := 15 } : Rebuild).hardRun + 1 ∧ h.check = true ∧ h.kind = some .data ∧
      (1 ≤ h.ordinal ∧ h.ordinal ≤ 4) ∧ h.tape ≠ 0 ∧ crc32 [1] = h.rawCrc ∧ b.group = none ∧ g.tape = h.tape ∧ g.ordinal = h.ordinal ∧
      (withSess (.rebuild b)).set? 0 = some set0 ∧ (∀ s ∈ set0.segments, s.ordinal < ({ g with ordinal := 2 } : Group).ordinal) ∧
      set0.ends = [] ∧ base.cart 1 = some (cart 1 .scratch (.slot 1)) := by decide +kernel
/-- Writes that just reach the capacity of 1,000 MiB, and that stay one byte below it, at the last position. -/
theorem wit_write_report : base.cart 0 = some (cart 0 .active (.slot 0)) ∧ 4294967294 + 1 < 4294967296 ∧
    1000 * 1048576 ≤ 1048576000 ∧ ¬ 1000 * 1048576 ≤ 1048575999 ∧ (cart 0 .active (.slot 0)).capacity = some 1000 := by decide +kernel
theorem wit_drive_timers : let t (f : Drive → Drive) := base.modDrive .ch0 f
    ((t fun x => { x with state := .inserting }).drive .ch0).state = .inserting ∧ (base.drive .ch0).state = .ready ∧
      (base.drive .ch1).state = .empty ∧ ((sent base .eject none).drive .ch0).cmdTimer ≠ none ∧
      ((sent base (.status {}) none).drive .ch0).out = some ⟨.status {}, 7, none⟩ ∧
      ((t fun x => { x with insertTimer := some 180000 }).drive .ch0).insertTimer ≠ none ∧
      ((t fun x => { x with idleTimer := some 300000 }).drive .ch0).idleTimer ≠ none ∧ (base.drive .ch0).unload = none := by decide +kernel
theorem wit_threaded : (base.drive .ch0).unload = none ∧ (base.drive .ch0).mounted = .cart 3 ∧ (base.drive .ch0).claim = none ∧
    base.cfg.idleUnload ≠ 0 := by decide +kernel
theorem wit_drive_fault : (base.drive .ch0).state ≠ .fault ∧ (base.drive .ch0).state ≠ .absent := by decide +kernel
theorem wit_session_timers : let d : Dev := { base with waitList := [waitEntry (.verify 0)] }
    let x : Session := { sess (.verify {}) with openTimer := some 600000, mediaTimer := some 600000 }
    (d.waitList.find? (fun w => w.handle = 2)) = some (waitEntry (.verify 0)) ∧ (waitEntry (.verify 0)).timer ≠ none ∧
      (base.setSess .ch0 (some x)).sessionOf 1 = some .ch0 ∧ (base.setSess .ch0 (some x)).sess .ch0 = some x ∧ x.openTimer ≠ none ∧
      x.mediaTimer ≠ none ∧
      (withSess (.backup { backup with window := some 0 })).backup? .ch0 = some (sess (.backup { backup with window := some 0 }),
        { backup with window := some 0 }) ∧ (base.drive .ch0).rate = some 100 ∧ (base.drive .ch0).speed = some 8 ∧
      targetStep 0 100 = 1 ∧ targetStep 25000000 100 = 1 ∧ targetStep 25000001 100 = 2 ∧ targetStep 175000001 100 = 8 := by
  decide +kernel
theorem wit_coding :
    let b : Block := ⟨.data, false, 1, 6, 0⟩
    let e := (withSess (.backup backup)).modChan .ch0 fun y => { y with enc := { state := .coding, desc := some b }, rawA := ⟨.handed, [1]⟩ }
    let r : ReadEntry := { pos := 0, kind := some .ok, bytes := recordBytes record0 }
    let d := (withSess (.verify {})).modChan .ch0 fun y => { y with dec := some .ch1, rq := [r] }
    ((e.chan .ch0).enc.state = .coding ∧ (e.chan .ch0).enc.desc = some b) ∧ (e.backup? .ch0).isSome = true ∧
      (d.chan .ch0).dec = some .ch1 ∧ (d.chan .ch0).rq = [r] ∧ (d.sess .ch0).isSome = true := by decide +kernel
/-- The record as a verify of set 5 meets it: passing, and with its sequence wrong; counts at their greatest value. -/
theorem wit_verify_record : let d := base.setSess .ch0 (some { sess (.verify { state := .reading }) with set := some 0 })
    let v : Verify := { state := .reading }
    (d.verify? .ch0).map (·.2) = some v ∧ (d.sess .ch0).bind d.setOf = some (0, set0) ∧ set0.segment v.segment = some ⟨1, 0, 0, 0, 3⟩ ∧
      v.at_ + 1 < set0.runCount ⟨1, 0, 0, 0, 3⟩ ∧ checkRecord (readHeader read0.bytes) .data 5 0 (some [1]) = none ∧
      checkRecord (readHeader read0.bytes) .data 5 1 (some [1]) = some .sequenceFault ∧
      checkRecord (readHeader read0.bytes) .data 5 0 none = some .decodeFault ∧
      checkRecord (readHeader read0.bytes) .data 5 0 (some [2]) = some .crcFault ∧
      ({ hard := 65535, soft := 65535 } : VerifyRec).hard ≤ 65535 ∧ set0.verify.soft ≤ 65535 := by decide +kernel
theorem wit_outcomes : set0.verify.hard = 0 ∧ set0.locator ≠ none ∧ 0 < ({ set0 with verify := { hard := 1 } } : BackupSet).verify.hard ∧
    ({ set0 with locator := none } : BackupSet).locator = none := by decide +kernel
/-- A restore that delivers file 1: its head to send, its bytes within one record and across two, a record that failed, its end. -/
def delivering (f : Restore → Restore) : Dev :=
  (base.setSess .ch0 (some { sess (.restore (f { state := .delivering, started := true, files := [⟨1, .pending, false⟩], credits := 1 })) with
    set := some 0 })).modChan .ch0 fun x =>
      { x with index := [⟨1, [7], 0, 65535, 2, 0⟩], halves := ⟨some [1], some [2]⟩ }
theorem wit_delivery : let e : IndexEntry := ⟨1, [7], 0, 65535, 2, 0⟩
    let full (off : Nat) (r : Restore) : Restore := { r with
      headSent := true, off := off, inbox := [⟨0, some .ch0, 65536, none⟩, ⟨1, some .ch1, 65536, none⟩] }
    let at0 (d : Dev) : Holding := ((d.restore? .ch0).map fun p => d.holding .ch0 p.2 e 0).getD .missing
    (∀ f ∈ [full 0, full 1, fun r => { r with finished := true }, fun r => { r with credits := 0 }, id],
      ((delivering f).restore? .ch0).any (fun p => p.2.readsIndex = false ∧ p.2.currentFile = some ⟨1, .pending, false⟩) = true) ∧
      (delivering id).fileEntry .ch0 1 = some e ∧ ((delivering id).port .A).link = .up ∧ at0 (delivering (full 0)) = .bytes [1] ∧
      (([1] : List Byte).drop 0).length < min 4096 e.length ∧ min 4096 e.length - 1 ≤ ([2] : List Byte).length ∧
      at0 (delivering fun r => { r with inbox := [⟨0, none, 0, some .crcFault⟩] }) = .stopped (some .crcFault) ∧
      at0 (delivering fun r => { r with inbox := [⟨0, some .ch0, 9, none⟩] }) = .short ∧
      (1 : Nat) = min 4096 (({ e with length := 1 } : IndexEntry).length - 0) := by decide +kernel
theorem wit_restore_record : let d := delivering id
    (d.restore? .ch0).any (fun p => p.2.state ≠ .readingIndex ∧ d.needsRecord .ch0 p.2 p.2.expect = true ∧ p.2.expect = 0) = true ∧
      (d.sess .ch0).bind d.setOf = some (0, set0) ∧ set0.segmentOf 0 = some ⟨1, 0, 0, 0, 3⟩ := by decide +kernel
/-- A notice with its mask off, with the link down, with 15 and with 16 queued, and a CREDIT with one pending. -/
theorem wit_notices : let q (n : Nat) : Dev := { base with pa := { notices := List.replicate n .powerHold } }
    let off : Dev := { base with cfg := { maskA := (List.replicate 12 true).set 8 false } }
    (off.cfg.mask .A).getD (Notice.index .powerHold) true ≠ true ∧ (base.cfg.mask .A).getD (Notice.index .powerHold) true = true ∧
      ({ base with pa := { link := .holding } } : Dev).pa.link ≠ .up ∧ ((q 15).port .A).notices.length < 16 ∧
      16 ≤ ((q 16).port .A).notices.length ∧ Notice.powerHold.isCredit = false ∧
      ({ base with pa := { notices := [.powerHold, .credit 1 2 true, .powerHold] } } : Dev).pa.notices =
        [.powerHold] ++ .credit 1 2 true :: [.powerHold] := by decide +kernel
theorem wit_transmitter : let u : PortUnit := { path := [.frameError], notices := [.powerHold] }
    base.pa.tx = none ∧ base.pa.link = .up ∧ base.pa.path = [] ∧ base.pa.notices = [] ∧ u.path = .frameError :: [] ∧
      u.notices = .powerHold :: [] ∧ u.lastNotice = true ∧ ({ u with lastNotice := false } : PortUnit).lastNotice = false ∧
      ({ u with tx := some .frameError } : PortUnit).tx ≠ none := by decide +kernel
/-- A first write and its retry; the reads of block 0 and of block 20; generations a step apart, and half way round. -/
theorem wit_store : let w (r : Bool) : StoreWrite := ⟨20, 1, 65535, [], r, none⟩
    (base.modCst fun t => { t with write := some (w true) }).cst.write = some (w true) ∧ (w true).retry = true ∧
      (w false).retry = false ∧ base.cst.pass = none ∧ base.cst.write = none ∧ State.reset.dev.cst.read = some ⟨0, none⟩ ∧
      (base.modCst fun t => { t with read := some ⟨20, some .erased⟩ }).cst.read = some ⟨20, some .erased⟩ ∧
      (base.modCst fun t => { t with read := some ⟨19, some .bad⟩ }).cst.read = some ⟨19, some .bad⟩ ∧
      (((base.dirty 1).dirty 7).cst.passNext { cursor := 6 } = some 7 ∧ ((base.dirty 1).dirty 7).cst.passNext { cursor := 8 } = some 1 ∧
        (base.dirty 1).cst.clear = none) ∧
      ({ base with phase := .loaded } : Dev).phase = .loaded ∧ base.phase ≠ .loaded ∧
      settleCopies 0 (.valid 0 [1]) (.valid 65535 [2]) = .taken ⟨0, 0⟩ [1] ∧
      settleCopies 0 (.valid 0 [1]) (.valid 32767 [2]) = .taken ⟨1, 32767⟩ [2] := by decide +kernel
theorem wit_start_up : ({ base with phase := .loaded } : Dev).phase = .loaded := by decide +kernel
theorem wit_reset : base.takes (req .P 0 []) ∧ (req .P 0 []).port = .P ∧ (req .P 0 []).payload = [] ∧
    ((sent base .read none).drive .ch0).out = some ⟨.read, 7, none⟩ ∧ (base.drive .ch1).out = none ∧ (base.drive .ch1).stale = none := by
  decide +kernel
theorem wit_blocks : 1 ≤ [(7 : Byte)].length ∧ [(7 : Byte)].length ≤ 65536 ∧
    1 ≤ (List.replicate 65536 (7 : Byte)).length ∧ (List.replicate 65536 (7 : Byte)).length ≤ 65536 := by
  refine ⟨by decide, by decide, ?_, ?_⟩ <;> simp only [List.length_replicate, Nat.le_refl, Nat.reduceLeDiff]
theorem wit_formats : labelOk (lab 0) = true ∧ set0.segments.length = 1 ∧ (Settings.inRange {}) ∧
    ({} : PoolMap).pools.length = 5 ∧ boundsOk 24 24 24 24 = true ∧ record0.payload.length < 4294967296 ∧
    (∀ g ∈ set0.segments, 1 ≤ g.ordinal ∧ g.ordinal ≤ 4 ∧ g.firstPos < 4294967296 ∧ g.firstSeq < 4294967296 ∧ g.count < 4294967296) ∧
    set0.number < 65536 ∧ set0.fileCount ≤ 2048 := by
  refine ⟨by decide +kernel, by decide +kernel, ?_, by decide +kernel, by decide +kernel, by decide +kernel, by decide +kernel,
    by decide +kernel, by decide +kernel⟩
  simp [Settings.inRange]
theorem wit_frames : (Instr.data (req .A 1 [1])).wellFormed = true ∧
    (Instr.data (req .A 1 [1])).request? = some (req .A 1 [1], .data) ∧
    (Instr.clearFaultStore (req .P 0 [3])).wellFormed = true := by decide +kernel
/-- The invariants hold of the reset state, and a step leaves it. -/
theorem wit_invariants : State.reset.dev.smc.balanced ∧ State.reset.dev.cfg.inRange ∧
    after (step { State.reset with pending := [.storeReadCompletion .failed] }) (fun d => d.smc.free = 896) = true := by
  refine ⟨?_, ?_, by decide +kernel⟩
  · unfold Smc.balanced; decide +kernel
  · unfold Settings.inRange; decide +kernel

/-! ### Witnesses of the grant rule, the end of CLOSE, pool maps, STOP, spans and the last record of a run -/

/-- Opens waiting while D0 holds C03: the second fits there, the first is blocked, needs a cartridge in a slot, or nothing; D0 alone is
free, and its cartridge is needed by the second. -/
theorem wit_grant_rule : let d : Dev := base.modDrive .ch1 fun x => { x with claim := some 9 }
    let w (h : Nat) (i : Option CartIx) : WaitEntry := { waitEntry (.verify 0) with handle := h, needed := i }
    let with_ (ws : List WaitEntry) : Dev := { d with waitList := ws }
    let busy := (with_ [w 2 (some 1), w 3 (some 3)]).setClaim 1 (some 9)
    (busy.waitList = [w 2 (some 1)] ++ w 3 (some 3) :: [] ∧ busy.cartBusy 1 = true ∧ busy.cartBusy 3 = false) ∧
      (d.drive .ch0).isFree = true ∧ (d.drive .ch1).isFree = false ∧ (d.drive .ch0).mounted = .cart 3 ∧
      (with_ [w 2 (some 1)]).cartBusy 1 = false ∧ (w 2 none).needed = none ∧ d.occ (.drive .ch0) = .cart 3 ∧
      (base.drive .ch1).isFree = true ∧ base.occ (.drive .ch1) = .none := by decide +kernel
/-- Grants of each kind, and of a cartridge that is mounted in the granted drive and unclaimed. -/
theorem wit_grant_to : base.set? 0 = some set0 ∧ (set0.segment 1).map (·.cart) = some 0 ∧ set0.locator ≠ none ∧
    set0.locator.map (·.cart) = some 0 ∧ set0.lastSegment.map (·.cart) = some 0 ∧
    (base.modCart 0 fun x => { x with endPos := 5 }).appendFits set0 = true ∧ base.liveSetsOn 1 = [] ∧ base.liveSetsOn 3 = [1] ∧
    (base.setInUse 1 none).set? 1 ≠ none ∧ ((base.setInUse 1 none).set? 1).any (·.inUse.isNone) = true ∧
    (base.cart 3).map (·.claim) = some none ∧ (base.drive .ch0).mounted = .cart 3 ∧ (base.drive .ch0).state = .ready := by decide +kernel
/-- The CLOSE trailer of E001 written, with a CLOSE_SET to answer; with verify-after; and with the link's hold expired. -/
theorem wit_close_done : let r : ReqId := ⟨.A, 4, .closeSet, 7, 1⟩
    let d (b : Backup) : Dev := { withSess (.backup b) with pa := { unanswered := [r], queue := [r] } }
    (∀ b ∈ [{ backup with pendingClose := some r }, { backup with verifyAfter := true },
        { backup with verifyAfter := true, lostHold := true }],
      ((d b).backup? .ch0).map (·.2) = some b ∧ ((d b).sess .ch0).bind (fun x => ((d b).setOf x).map (·.1)) = some 1) ∧
      ((base.set? 1).bind (·.lastSegment)) = some ⟨1, 3, 0, 0, 0⟩ ∧ ((base.set? 1).bind (·.segment 1)) = some ⟨1, 3, 0, 0, 0⟩ ∧
      r ∈ ((d backup).port r.port).unanswered ∧ ((d backup).port r.port).link = .up ∧ base.cfg.openWait ≠ 0 ∧
      base.roomFor .A (.sessionEnded 1 .closed none .none) ∧ base.roomFor .P (.sessionEnded 1 .closed none .none) := by decide +kernel
/-- A staged map with a session and with none, that moves the home slot of a cartridge into another pool. -/
theorem wit_pools_applied : let m : PoolMap := { b1 := 0, b2 := 24, b3 := 24, b4 := 24 }
    let d : Dev := (base.modCat fun k => { k with staged := some m }).modCart 0 fun x => { x with home := some 0 }
    d.cat.staged = some m ∧ d.sess .ch0 = none ∧ d.sess .ch1 = none ∧ (withSess (.verify {})).sess .ch0 ≠ none ∧
      d.cst.dirty.length = 21 ∧ m.poolOf 0 = 1 ∧ (d.cart 0).map (·.pool) = some 0 ∧ d.roomFor .B .poolsApplied := by decide +kernel
/-- STOP with an order SENT, with one halted already, and with none. -/
theorem wit_stop : let o : Order := { kind := .importing, cart := .cart 2, src := .mail 0, dst := some (.slot 5), state := .sent, tag := some 0 }
    let d (o : Order) : Dev := base.modMqu fun m => { m with queue := [o] }
    base.cat.places.length = 28 ∧ base.sentOrder = none ∧ (d o).sentOrder = some o ∧ o.halted = false ∧
      (d { o with halted := true }).sentOrder = some { o with halted := true } := by decide +kernel
/-- A CLOSE group whose INDEX records were all taken joins as the highest ordinal, which leaves the set RECOVERED; an ABORT group does
not. -/
theorem wit_join_locator : let t : CloseTrailer :=
        { dataCount := 1, ordinal := 2, digestMark := 0, fileCount := 1, indexCount := 1, indexPos := 9, digest := 0, stored := 1, raw := 1 }
    let g : Group := { tape := 5, ordinal := 2, firstPos := 2, firstSeq := some 0, indexes := [(0, 9)], ended := .close, close := some t }
    let d := withSess (.rebuild { state := .reading })
    ((d.joinGroup .ch0 1 0 g).set? 0).any (fun z => z.state = .recovered ∧ z.locator = some ⟨1, 9, 1⟩) = true ∧
      (∀ k, k < t.indexCount → ∃ p ∈ g.indexes, p.1 = k) ∧
      ((d.joinGroup .ch0 1 0 { g with ended := .abort, close := none }).set? 0).any (fun z => z.state = .aborted) = true := by
  decide +kernel
/-- A span met in ACTIVE and in CLOSING, at ordinals 3 and 4, its page granted and refused; the segment closed with C01 to go on to, and
with nothing; and the span's end in both return states, the queue at the watermark and below. -/
theorem wit_span : let d (b : Backup) : Dev := withSess (.backup b)
    let spanning : Backup := { backup with state := .spanning, span := .trailer }
    let full := (d spanning).setCartState 3 .full
    ((d backup).backup? .ch0 = some (sess (.backup backup), backup) ∧
      ((d backup).setOf (sess (.backup backup))).bind (·.2.lastSegment) = some ⟨1, 3, 0, 0, 0⟩) ∧
      (3 < 4 ∧ 4 ≤ 4 ∧ base.smc.mayTake .ch0 = true ∧ ({ free := 64, held := ⟨832, 0⟩ } : Smc).mayTake .ch0 = false) ∧
      ((d spanning).cart 3 ≠ none ∧ (sess (.backup spanning)).cart = some 3 ∧ ((d spanning).drive .ch0).mounted = .cart 3 ∧
        ((d spanning).drive .ch0).state = .ready ∧ ((d spanning).drive .ch0).unload = none) ∧
      full.pickTarget .ch0 1 0 true = some 1 ∧ (full.cart 1).map (·.state) = some .scratch ∧
      (full.flagSuspect 1).pickTarget .ch0 1 0 true = none ∧ base.cfg.openWait ≠ 0 ∧ (sess (.backup spanning)).mediaTimer = none ∧
      (sess (.backup spanning)).noted ≠ some (.pool 0) ∧ base.roomFor .A (.mediaNeeded 1 (.pool 0) none) ∧
      base.roomFor .A (.spanned 6 1 (some (lab 3))) ∧ base.cfg.watermark = 32 ∧ (base.chan .ch0).wq.length < 32 := by decide +kernel
/-- The CLOSE trailer of set 5 as the last record of its run, passing and matching, with its index whole; and a set of two segments at
the last record of the first. -/
theorem wit_verify_last : let t : CloseTrailer :=
        { dataCount := 3, ordinal := 1, digestMark := 0, fileCount := 0, indexCount := 1, indexPos := 3, digest := 0, stored := 0, raw := 0 }
    let bytes := recordBytes { kind := .close, shrunk := false, rawLength := 64, payload := closeTrailerBytes t
                               rawCrc := 0x15a64bbf#32, tape := 5, seq := 3, ordinal := 1 }
    let r : ReadEntry := { pos := 4, kind := some .ok, bytes := bytes }
    let v : Verify := { state := .reading, started := true, at_ := 4 }
    let d := base.setSess .ch0 (some { sess (.verify v) with set := some 0 })
    let two : BackupSet := { set0 with segments := [⟨1, 0, 0, 0, 3⟩, ⟨2, 1, 0, 3, 0⟩] }
    (set0.runCount ⟨1, 0, 0, 0, 3⟩ = v.at_ + 1 ∧ set0.segments.length ≤ v.segment ∧ set0.expected ⟨1, 0, 0, 0, 3⟩ 4 = (.close, 3, 4)) ∧
      checkRecord (readHeader r.bytes) .close 5 3 (some (closeTrailerBytes t)) = none ∧ readCloseTrailer (closeTrailerBytes t) = t ∧
      trailerMatches set0 t false 0 = true ∧
      ((d.verifyRecord .ch0 r (some (closeTrailerBytes t))).set? 0).any (fun y =>
        y.verify.result = .passedNoDigest ∧ y.verify.hard = 0) = true ∧
      set0.expected ⟨1, 0, 0, 0, 3⟩ 3 = (.index, 0, 3) ∧
      two.runCount ⟨1, 0, 0, 0, 3⟩ = 2 + 1 ∧ 1 < two.segments.length ∧ two.segment 2 = some ⟨2, 1, 0, 3, 0⟩ ∧
      base.cfg.openWait ≠ 0 := by decide +kernel

/-! ### Where a reading turns to another cartridge, and where a record has failed already -/

/-- R157, R159: a frame that straddles two segments keeps the first record's decode half while the second cartridge is brought. -/
theorem test_straddle_keeps_the_record : let x : BackupSet := { set0 with segments := [⟨1, 3, 0, 0, 1⟩, ⟨2, 1, 0, 1, 2⟩] }
    let d := (delivering fun r => { r with
      headSent := true, expect := 1, runSegment := some 1, inbox := [⟨0, some .ch0, 65536, none⟩] }).modSet 0 fun _ => x
    let e := d.deliver .ch0
    (e.restore? .ch0).any (fun p => p.2.inbox = [⟨0, some .ch0, 65536, none⟩] ∧ p.2.expect = 1 ∧ p.2.state = .waitMedia ∧
      p.1.cart = some 1) = true ∧ (e.chan .ch0).halves.zero = some [1] := by decide +kernel
/-- R160: the last failed record stops the file that comes to it, and is not counted again. -/
theorem test_last_failed_is_not_counted_again : let d := delivering fun r => { r with headSent := true, lastFailed := some 0 }
    let e := d.restoreRecord .ch0 .ch0 read0 (some [2])
    e.set? 0 = d.set? 0 ∧ (e.restore? .ch0).any (fun p => p.2.expect = 1) = true ∧
      ((e.deliver .ch0).restore? .ch0).any (fun p => p.2.finished) = true ∧ (e.deliver .ch0).set? 0 = d.set? 0 := by decide +kernel
/-- R93, R110: an EXPORT that the SCAN of its cartridge's mail slot leaves done does not keep the IMPORT from being offered. -/
theorem test_import_after_a_done_export :
    let o : Order := { kind := .exporting, cart := .cart 2, src := .slot 5, reqs := [] }
    let d := base.modMqu fun m => { m with queue := [o], importMark := ⟨true, false⟩ }
    Todo.freshImport 0 2 ∈ (d.importScanned (.mail 0)).todo ∧ (d.importScanned (.mail 0)).mqu.queue = [] := by decide +kernel
/-- R187: after STOP_RESUME the scan of a halted place goes out before an older ready order. -/
theorem test_halted_scan_goes_first :
    let o : Order := { kind := .importing, cart := .cart 2, src := .mail 0, reqs := [.importing] }
    let d := base.modMqu fun m => { m with queue := [o], holdStop := true, stopList := [.slot 7], changer := .ready }
    d.stopResumed.finish.sent = [.scan 0 (.slot 7)] := by decide +kernel
/-- R142: a session goes on yielding a cartridge when the other session changes to another one, until that session ends. -/
theorem test_yields_until_the_end :
    let y : Session := { sess (.verify {}) with handle := 2, set := some 0, cart := some 3, yields := true }
    let d := ((withSess (.backup backup)).setSess .ch1 (some y)).setSessCart .ch0 1
    (d.sess .ch1).any (·.yields) = true ∧ (d.endSession .ch0).sess .ch1 = some { y with yields := false } := by decide +kernel
/-- R101: an EXPORT tag carried by the UNLOAD of an UNREGISTERED cartridge is answered where it lands. -/
theorem test_unregistered_unload_answers :
    let r : ReqId := ⟨.P, 4, .exportCart, 7, 0⟩
    let o : Order := { kind := .unload, cart := .unregistered, src := .drive .ch1, reqs := [.panel r], state := .sent }
    let d : Dev := { base with pp := { unanswered := [r] } }
    (d.unloaded o .unregistered (.slot 5)).pp.path = [.answer none 7 0 .noCartridge []] ∧
      (d.unloaded o .unregistered (.mail 1)).pp.path = [.answer none 7 0 .ok []] := by decide +kernel
/-- R108, R110: the entry of the cartridge an export mark names is freed, and another cartridge registered in it: the mark goes with
another label and stays with the cartridge's own. The inventory goes on counting it as missing. -/
theorem test_mark_outlives_the_entry :
    let d := (base.modCart 2 fun x => { x with location := none }).setOcc (.mail 0) .none
    let e := (d.modMqu fun m => { m with exportMark := ⟨some (.cart 2), none⟩, inventory := true, missing := [2] }).eraseCart 2
    let mark (d : Dev) := d.mqu.exportMark.zero
    mark e = some (.erased (some (lab 2))) ∧ e.mqu.missing.length + e.mqu.missingErased = 1 ∧ e.isFree (.mail 0) = false ∧
      mark (e.reconcile (.mail 0) (.label (lab 9))) = none ∧ (e.reconcile (.mail 0) (.label (lab 9))).occ (.mail 0) = .cart 2 ∧
      mark (e.reconcile (.mail 0) (.label (lab 2))) = mark e ∧ mark (e.reconcile (.mail 0) .noLabel) = none := by decide +kernel
/-- R98: an UNLOAD whose cartridge's entry was freed while it was SENT lands UNREGISTERED, and its place is scanned. -/
theorem test_freed_unload_is_scanned :
    let o : Order := { kind := .unload, cart := .cart 9, src := .drive .ch1, dst := some (.slot 9), reqs := [], state := .sent }
    let d := (base.modMqu fun m => { m with queue := [o] }).moveDone o (.slot 9)
    base.cart 9 = none ∧ d.occ (.slot 9) = .unregistered ∧ Place.slot 9 ∈ d.mqu.scanList ∧ d.mqu.queue = [] := by decide +kernel
/-- Marks of both kinds at a mail slot, and a cartridge of a label no other has. -/
theorem wit_export_mark : let d := base.modMqu fun m => { m with exportMark := ⟨some (.cart 2), some (.erased (some (lab 7)))⟩ }
    d.mqu.exportMark.get (mailChan 0) = some (.cart 2) ∧ d.mqu.exportMark.get (mailChan 1) = some (.erased (some (lab 7))) ∧
      (d.cart 2).map (·.label) = some (some (lab 2)) ∧ labelOk (lab 2) = true ∧
      (allCarts.all fun j => (d.cart j).all fun y => y.label ≠ some (lab 2) || j = 2) = true ∧ d.cat.carts.length = 64 := by
  decide +kernel

end Sys2Proof.Tests
end

section
/-! The requests of the catalogue: how an arm of `exec` reaches the operation that its request is, and what a request that joined its
port's queue leaves as it was (R171 to R173). -/

namespace Sys2Proof.Machine

/-! ### From `exec` to the operation -/

theorem exec_inquire (f : Req) (s : State) : exec (.inquire f) s = s.does fun d => d.arrive f .inquire fun r d =>
    d.withForm r (parseNone f.payload) fun _ d => d.inquire r := by rfl
theorem exec_cartridgeList (f : Req) (s : State) : exec (.cartridgeList f) s = s.does fun d => d.arrive f .cartridgeList fun r d =>
    d.withForm r (parseByte f.payload) fun first d => d.cartridgeList r first := by rfl
theorem exec_setList (f : Req) (s : State) : exec (.setList f) s = s.does fun d => d.arrive f .setList fun r d =>
    d.withForm r (parseByte f.payload) fun first d => d.answerWith r .ok r.handle (d.setListResult r.port first) := by rfl
theorem exec_setStatus (f : Req) (s : State) : exec (.setStatus f) s = s.does fun d => d.arrive f .setStatus fun r d =>
    d.withForm r (parseWord f.payload) fun n d => d.setStatus r n := by rfl
theorem exec_recycle (f : Req) (s : State) : exec (.recycle f) s = s.does fun d => d.arrive f .recycle fun r d =>
    d.withForm r (parseLabel f.payload) fun l d => d.recycle r l := by rfl
theorem exec_erase (f : Req) (s : State) : exec (.erase f) s = s.does fun d => d.arrive f .erase fun r d =>
    d.withForm r (parseByte f.payload) fun n d => d.panelOnly r fun d => d.erase r n := by rfl
theorem exec_pools (f : Req) (s : State) : exec (.pools f) s = s.does fun d => d.arrive f .pools fun r d =>
    d.withForm r (parsePools f.payload) fun q d => d.panelOnly r fun d => d.stagePools r q := by rfl
theorem exec_lockPool (f : Req) (s : State) : exec (.lockPool f) s = s.does fun d => d.arrive f .lockPool fun r d =>
    d.withForm r (parseByte f.payload) fun k d => d.panelOnly r fun d => d.lockPool r k := by rfl
theorem exec_day (f : Req) (s : State) : exec (.day f) s = s.does fun d => d.arrive f .day fun r d =>
    d.withForm r (parseWord f.payload) fun n d => d.panelOnly r fun d => d.setDay r n := by rfl

/-- R171: what a request that its port takes leads to: its own check and meaning, on the device it has joined. -/
theorem State.does_arrive {s : State} {f : Req} (k : ReqKind) (act : ReqId → Dev → Dev) (h : s.dev.takes f) :
    s.does (fun d => d.arrive f k act) =
      .next { s with dev := (act (s.dev.begin.newReq f k) (s.dev.begin.joined f k)).finish } := by
  rw [State.does, Dev.arrive_taken k act ((Dev.takes_begin s.dev f).2 h)]

theorem Dev.panelOnly_client (d : Dev) (r : ReqId) (k : Dev → Dev) (h : r.port ≠ .P) : d.panelOnly r k = d.answer r .notOwner := by
  simp [Dev.panelOnly, h]

@[simp] theorem parseNone_nil : parseNone [] = some () := rfl
@[simp] theorem parseByte_single (b : Byte) : parseByte [b] = some b.toNat := by
  simp [parseByte, takeNum, whole, leNat]

/-! ### The device a request has joined -/

@[simp] theorem Dev.joined_cat (d : Dev) (f : Req) (k : ReqKind) : (d.joined f k).cat = d.cat := by simp [Dev.joined]
@[simp] theorem Dev.joined_ch (d : Dev) (f : Req) (k : ReqKind) : (d.joined f k).ch = d.ch := by simp [Dev.joined]
@[simp] theorem Dev.joined_mqu (d : Dev) (f : Req) (k : ReqKind) : (d.joined f k).mqu = d.mqu := by simp [Dev.joined]
@[simp] theorem Dev.joined_cst (d : Dev) (f : Req) (k : ReqKind) : (d.joined f k).cst = d.cst := by simp [Dev.joined]
@[simp] theorem Dev.joined_lines (d : Dev) (f : Req) (k : ReqKind) : (d.joined f k).lines = d.lines := by simp [Dev.joined]
@[simp] theorem Dev.joined_doorOpen (d : Dev) (f : Req) (k : ReqKind) : (d.joined f k).doorOpen = d.doorOpen := by simp [Dev.joined]
@[simp] theorem Dev.joined_lost (d : Dev) (f : Req) (k : ReqKind) : ((d.joined f k).port f.port).lost = (d.port f.port).lost := by
  simp [Dev.joined]

/-- R173: a request that joined the queue of a port whose link is UP and is answered under its own handle with nothing else changed. -/
theorem Dev.joined_answer {d : Dev} {f : Req} (k : ReqKind) (st : Status) (h : (d.port f.port).link = .up) :
    (d.joined f k).answer (d.newReq f k) st = d.answered f k st f.handle.toNat [] :=
  Dev.joined_answerWith k st f.handle.toNat [] h

theorem Dev.takes_up {s : State} {f : Req} (h : s.dev.takes f) : (s.dev.begin.port f.port).link = .up := by
  simpa using Dev.hears_up h.1

/-! ### What the catalogue's accessors read -/

theorem Dev.cart_congr {d e : Dev} (h : e.cat = d.cat) (i : CartIx) : e.cart i = d.cart i := by simp [Dev.cart, h]
theorem Dev.set?_congr {d e : Dev} (h : e.cat = d.cat) (k : SetIx) : e.set? k = d.set? k := by simp [Dev.set?, Dev.entry, h]

end Sys2Proof.Machine
end

section
/-! INQUIRE, the lists and SET_STATUS (R29), and the reset state. -/

namespace Sys2Proof.Machine

/-! ### The answers read what a joined request leaves as it was -/

/-- R29: INQUIRE's result is the same on the device its request has joined. -/
theorem Dev.inquireResult_joined (d : Dev) (f : Req) (k : ReqKind) :
    (d.joined f k).inquireResult f.port = d.inquireResult f.port := by
  simp [Dev.inquireResult, Dev.drive, Dev.chan, Dev.freeCarts, Dev.freeSets]

theorem Dev.cartListResult_congr {d e : Dev} (h : e.cat = d.cat) (n : Nat) : e.cartListResult n = d.cartListResult n := by
  have hr : e.cartResult = d.cartResult := by
    funext x; simp [Dev.cartResult, Dev.confirmed, Dev.place, h]
  simp [Dev.cartListResult, h, hr]

theorem Dev.setListResult_congr {d e : Dev} (h : e.cat = d.cat) (p : Port) (n : Nat) :
    e.setListResult p n = d.setListResult p n := by
  have he : e.entry = d.entry := by funext k; simp [Dev.entry, h]
  simp only [Dev.setListResult, he]

theorem Dev.setResult_congr {d e : Dev} (h : e.cat = d.cat) (x : BackupSet) : e.setResult x = d.setResult x := by
  have hr : e.cartRef = d.cartRef := by funext i; simp [Dev.cartRef, Dev.cartLabel, Dev.cart_congr h]
  unfold Dev.setResult
  rw [hr]

theorem Dev.reportSet_congr {d e : Dev} (h : e.cat = d.cat) (n : Nat) : e.reportSet n = d.reportSet n := by
  have hs : e.set? = d.set? := funext (Dev.set?_congr h)
  simp only [Dev.reportSet, Dev.liveSet, hs]

/-- A request that joined its queue after its port's unit was changed joins as it would have before, when the change is to LOST alone. -/
theorem Dev.joined_lost_cleared (d : Dev) (f : Req) (k : ReqKind) :
    (d.joined f k).modPort f.port (fun u => { u with lost := false }) =
      (d.setPort f.port { d.port f.port with lost := false }).joined f k := by
  simp [Dev.joined, Dev.modPort, Dev.newReq]


/-- R29, R176: INQUIRE is answered with what the device shows, and its port's LOST flag is cleared. -/
theorem exec_inquire_taken {s : State} {f : Req} (h : s.dev.takes f) (hp : f.payload = []) :
    exec (.inquire f) s = .next { s with dev := ((s.dev.begin.setPort f.port { s.dev.port f.port with lost := false }).answered f
      .inquire .ok f.handle.toNat (s.dev.inquireResult f.port)).finish } := by
  rw [exec_inquire, State.does_arrive _ _ h, hp, parseNone_nil, Dev.withForm_some, Dev.inquire]
  have hup := Dev.takes_up h
  have hr : s.dev.begin.newReq f .inquire =
      (s.dev.begin.setPort f.port { s.dev.port f.port with lost := false }).newReq f .inquire := by simp [Dev.newReq]
  have hi : s.dev.begin.inquireResult f.port = s.dev.inquireResult f.port := rfl
  simp only [Dev.newReq_port, Dev.newReq_handle, Dev.inquireResult_joined, Dev.joined_lost_cleared, hi, Dev.port_begin]
  rw [hr, Dev.joined_answerWith _ _ _ _ (by simpa using hup)]

/-- A request that is answered at once, with nothing else changed. -/
theorem Dev.takes_answerWith {s : State} {f : Req} (k : ReqKind) (h : s.dev.takes f) (st : Status) (result : List Byte) :
    (s.dev.begin.joined f k).answerWith (s.dev.begin.newReq f k) st (s.dev.begin.newReq f k).handle result =
      s.dev.begin.answered f k st f.handle.toNat result :=
  Dev.joined_answerWith k st _ result (Dev.takes_up h)

theorem Dev.takes_answer {s : State} {f : Req} (k : ReqKind) (h : s.dev.takes f) (st : Status) :
    (s.dev.begin.joined f k).answer (s.dev.begin.newReq f k) st = s.dev.begin.answered f k st f.handle.toNat [] :=
  Dev.joined_answer k st (Dev.takes_up h)

/-- R29: SET_STATUS of a number that names a set, at port P or at the set's owner, and at any other port. -/
theorem Dev.setStatus_found {d : Dev} {r : ReqId} {n : Nat} {e : SetIx} {x : BackupSet} (hr : d.reportSet n = some e)
    (hx : d.set? e = some x) : d.setStatus r n =
      if r.port = .P ∨ x.owner = r.port then d.answerWith r .ok r.handle (d.setResult x) else d.answer r .notOwner := by
  simp [Dev.setStatus, hr, hx]

theorem Dev.setStatus_unknown {d : Dev} {r : ReqId} {n : Nat} (hr : d.reportSet n = none) :
    d.setStatus r n = d.answer r .noSet := by
  simp [Dev.setStatus, hr]

/-- Settles O9: each request's own check is made on the device it joined, whose catalogue is the old one. -/
theorem queriesAnswerFromTheState : Obligations.QueriesAnswerFromTheState := by
  refine ⟨fun s f ht hp => exec_inquire_taken ht hp, fun s f ht => ⟨?_, ?_, ?_, ?_, ?_⟩⟩
  · intro b hb hlt
    have hcat : (s.dev.begin.joined f .cartridgeList).cat = s.dev.cat := by simp
    rw [exec_cartridgeList, State.does_arrive _ _ ht, hb, parseByte_single, Dev.withForm_some, Dev.cartridgeList,
      if_neg (by omega), Dev.cartListResult_congr hcat, Dev.takes_answerWith _ ht]
  · intro b hb hle
    rw [exec_cartridgeList, State.does_arrive _ _ ht, hb, parseByte_single, Dev.withForm_some, Dev.cartridgeList,
      if_pos hle, Dev.takes_answer _ ht]
  · intro b hb
    have hcat : (s.dev.begin.joined f .setList).cat = s.dev.cat := by simp
    rw [exec_setList, State.does_arrive _ _ ht, hb, parseByte_single, Dev.withForm_some, Dev.setListResult_congr hcat,
      Dev.takes_answerWith _ ht, Dev.newReq_port]
  · intro n e x hn he hx
    have hcat : (s.dev.begin.joined f .setStatus).cat = s.dev.cat := by simp
    rw [exec_setStatus, State.does_arrive _ _ ht, hn, Dev.withForm_some,
      Dev.setStatus_found ((Dev.reportSet_congr hcat n).trans he) ((Dev.set?_congr hcat e).trans hx),
      Dev.setResult_congr hcat, Dev.takes_answerWith _ ht, Dev.takes_answer _ ht, Dev.newReq_port]
  · intro n hn he
    have hcat : (s.dev.begin.joined f .setStatus).cat = s.dev.cat := by simp
    rw [exec_setStatus, State.does_arrive _ _ ht, hn, Dev.withForm_some,
      Dev.setStatus_unknown ((Dev.reportSet_congr hcat n).trans he), Dev.takes_answer _ ht]

/-! ### The reset state -/

/-- R3, R16: no entry of a table of empty entries is anything else. -/
theorem State.reset_cart (i : CartIx) : State.reset.dev.cart i = none := by
  have hc : State.reset.dev.cat.carts = List.replicate 64 none := rfl
  rw [Dev.cart, hc]; exact List.getD_replicate _ i.isLt

theorem State.reset_entry (k : SetIx) : State.reset.dev.entry k = .free := by
  have hs : State.reset.dev.cat.sets = List.replicate 256 .free := rfl
  rw [Dev.entry, hs]; exact List.getD_replicate _ k.isLt

/-- R12: the factory map gives every storage slot to pool 0. -/
theorem PoolMap.factory_poolOf (n : Nat) (h : n < 24) : ({} : PoolMap).poolOf n = 0 := by simp [PoolMap.poolOf, h]

/-- Settles O60: the defaults of the device's fields, read one by one. -/
theorem resetStateIsTheFactoryLibrary : Obligations.ResetStateIsTheFactoryLibrary := by
  have hbal : State.reset.dev.smc.balanced := ⟨rfl, Nat.zero_le _, Nat.zero_le _⟩
  have hrange : ({} : Settings).inRange := by simp [Settings.inRange]
  refine ⟨rfl, rfl, hbal, hrange, rfl, rfl, rfl, rfl, rfl, rfl, rfl, rfl, rfl, State.reset_cart, State.reset_entry, rfl, rfl, rfl,
    PoolMap.factory_poolOf, ?_, rfl, rfl, rfl, rfl, rfl, ?_⟩
  · intro c; cases c <;> exact ⟨rfl, rfl⟩
  · intro p; cases p <;> rfl

end Sys2Proof.Machine
end

section
/-! The catalogue's operations (R1 to R22): what each leaves of every table entry, and what it leaves as it was. -/

namespace Sys2Proof.Machine

/-! ### What a change of the cartridge and set tables leaves as it was -/

/-- The second device differs from the first in the cartridge and set tables, the dirty marks and the follow-ups alone; no entry is added
and no mark is lost. -/
structure Dev.TablesOnly (d e : Dev) : Prop where
  places : e.cat.places = d.cat.places
  live : e.cat.live = d.cat.live
  staged : e.cat.staged = d.cat.staged
  day : e.cat.day = d.cat.day
  nextSet : e.cat.nextSet = d.cat.nextSet
  cartsLength : e.cat.carts.length = d.cat.carts.length
  setsLength : e.cat.sets.length = d.cat.sets.length
  phase : e.phase = d.phase
  cfg : e.cfg = d.cfg
  smc : e.smc = d.smc
  ch : e.ch = d.ch
  waitList : e.waitList = d.waitList
  mqu : e.mqu = d.mqu
  lines : e.lines = d.lines
  doorOpen : e.doorOpen = d.doorOpen
  pa : e.pa = d.pa
  pb : e.pb = d.pb
  pp : e.pp = d.pp
  resetReq : e.resetReq = d.resetReq
  slots : e.cst.slots = d.cst.slots
  newest : e.cst.newest = d.cst.newest
  marksLength : e.cst.dirty.length = d.cst.dirty.length
  marks : ∀ b, d.cst.isDirty b = true → e.cst.isDirty b = true

namespace Dev.TablesOnly

theorem refl (d : Dev) : d.TablesOnly d := by constructor <;> simp

theorem trans {d e g : Dev} (h : d.TablesOnly e) (k : e.TablesOnly g) : d.TablesOnly g where
  places := k.places.trans h.places
  live := k.live.trans h.live
  staged := k.staged.trans h.staged
  day := k.day.trans h.day
  nextSet := k.nextSet.trans h.nextSet
  cartsLength := k.cartsLength.trans h.cartsLength
  setsLength := k.setsLength.trans h.setsLength
  phase := k.phase.trans h.phase
  cfg := k.cfg.trans h.cfg
  smc := k.smc.trans h.smc
  ch := k.ch.trans h.ch
  waitList := k.waitList.trans h.waitList
  mqu := k.mqu.trans h.mqu
  lines := k.lines.trans h.lines
  doorOpen := k.doorOpen.trans h.doorOpen
  pa := k.pa.trans h.pa
  pb := k.pb.trans h.pb
  pp := k.pp.trans h.pp
  resetReq := k.resetReq.trans h.resetReq
  slots := k.slots.trans h.slots
  newest := k.newest.trans h.newest
  marksLength := k.marksLength.trans h.marksLength
  marks := fun b hb => k.marks b (h.marks b hb)

/-- What every step of a walk along a list leaves as it was, the walk does. -/
theorem foldl {α : Type} {step : Dev → α → Dev} (h : ∀ (d : Dev) (a : α), d.TablesOnly (step d a)) (l : List α) (d : Dev) :
    d.TablesOnly (l.foldl step d) := by
  induction l generalizing d with
  | nil => exact refl d
  | cons a l ih => exact (h d a).trans (ih _)

theorem port {d e : Dev} (h : d.TablesOnly e) (p : Port) : e.port p = d.port p := by
  cases p
  · exact h.pa
  · exact h.pb
  · exact h.pp

theorem drive {d e : Dev} (h : d.TablesOnly e) (c : Chan) : e.drive c = d.drive c := by simp [Dev.drive, Dev.chan, h.ch]
theorem sess {d e : Dev} (h : d.TablesOnly e) (c : Chan) : e.sess c = d.sess c := by simp [Dev.sess, Dev.chan, h.ch]
theorem place {d e : Dev} (h : d.TablesOnly e) (p : Place) : e.place p = d.place p := by simp [Dev.place, h.places]
theorem occ {d e : Dev} (h : d.TablesOnly e) (p : Place) : e.occ p = d.occ p := by simp [Dev.occ, h.place]
theorem confirmed {d e : Dev} (h : d.TablesOnly e) (p : Place) : e.confirmed p = d.confirmed p := by simp [Dev.confirmed, h.place]

theorem push (d : Dev) (t : Todo) : d.TablesOnly (d.push t) := by constructor <;> simp
theorem reselect (d : Dev) : d.TablesOnly d.reselect := push d .select

/-- R189: a block marked dirty is one mark more. -/
theorem dirty (d : Dev) (b : Nat) : d.TablesOnly (d.dirty b) := by
  have marks (k : Nat) (hk : d.cst.isDirty k = true) : (d.dirty b).cst.isDirty k = true := by
    simp only [Dev.dirty, Dev.push_cst, Dev.modCst_cst, Store.isDirty, List.getD, List.getElem?_set] at hk ⊢
    split <;> [split; skip] <;> simp_all
  constructor
  case marks => exact marks
  all_goals simp [Dev.dirty]

theorem modCarts (d : Dev) (f : List (Option Cart) → List (Option Cart)) (h : (f d.cat.carts).length = d.cat.carts.length) :
    d.TablesOnly (d.modCat fun k => { k with carts := f k.carts }) := by
  constructor <;> simp [h]

theorem modSets (d : Dev) (f : List SetEntry → List SetEntry) (h : (f d.cat.sets).length = d.cat.sets.length) :
    d.TablesOnly (d.modCat fun k => { k with sets := f k.sets }) := by
  constructor <;> simp [h]

theorem putCart (d : Dev) (i : CartIx) (x : Option Cart) : d.TablesOnly (d.putCart i x) :=
  (modCarts d (·.set i.val x) (by simp)).trans (dirty _ _)

theorem modCart (d : Dev) (i : CartIx) (f : Cart → Cart) : d.TablesOnly (d.modCart i f) := by
  unfold Dev.modCart
  split
  · exact putCart ..
  · exact refl d

theorem setClaim (d : Dev) (i : CartIx) (h : Option Nat) : d.TablesOnly (d.setClaim i h) := by
  unfold Dev.setClaim
  split
  · next x _ => exact (modCarts d (·.set i.val (some { x with claim := h })) (by simp)).trans (reselect _)
  · exact refl d

theorem setCartState (d : Dev) (i : CartIx) (s : CartState) : d.TablesOnly (d.setCartState i s) :=
  (modCart ..).trans (reselect _)

theorem putSet (d : Dev) (k : SetIx) (x : SetEntry) : d.TablesOnly (d.putSet k x) :=
  (modSets d (·.set k.val x) (by simp)).trans (dirty _ _)

theorem modSet (d : Dev) (k : SetIx) (f : BackupSet → BackupSet) : d.TablesOnly (d.modSet k f) := by
  unfold Dev.modSet
  split
  · exact putSet ..
  · exact refl d

theorem setInUse (d : Dev) (k : SetIx) (h : Option Nat) : d.TablesOnly (d.setInUse k h) := by
  unfold Dev.setInUse
  split
  · next x _ => exact modSets d (·.set k.val (.holds { x with inUse := h })) (by simp)
  · exact refl d

theorem freeSet (d : Dev) (k : Option SetIx) : d.TablesOnly (d.freeSet k) := by
  cases k with
  | none => exact refl d
  | some k => exact setInUse d k none

theorem joinCart (d : Dev) (i : CartIx) (named : Bool) : d.TablesOnly (d.joinCart i named) := by
  have raised : d.TablesOnly (if named then d else d.raiseLive i) := by
    split
    · exact refl d
    · exact modCart ..
  have joins (e : Dev) : e.TablesOnly (if (e.cart i).any (·.state = .scratch) then e.setCartState i .active else e) := by
    split
    · exact setCartState ..
    · exact refl e
  exact raised.trans (joins _)

theorem expireSet (d : Dev) (k : SetIx) : d.TablesOnly (d.expireSet k) := by
  unfold Dev.expireSet
  split
  · exact (putSet ..).trans (foldl (fun d i => modCart d i _) _ _)
  · exact refl d

end Dev.TablesOnly

/-! ### Cartridge entries -/

/-- A list read after the write of an entry it has. -/
theorem getD_set_of_lt {α : Type} (l : List α) {i : Nat} (j : Nat) (x y : α) (h : i < l.length) :
    (l.set i x).getD j y = if j = i then x else l.getD j y := by
  by_cases hij : j = i
  · subst hij; simp [List.getD, h]
  · simp [List.getD, hij, Ne.symm hij]

/-- A list read after one of its entries, if it has it, was written with what a missing entry reads as. -/
theorem getD_set_default {α : Type} (l : List α) (i j : Nat) (y : α) : (l.set i y).getD j y = if j = i then y else l.getD j y := by
  by_cases hi : i < l.length
  · exact getD_set_of_lt l j y y hi
  · rw [List.set_eq_of_length_le (Nat.le_of_not_lt hi)]
    split
    · next h => simp [List.getD, h, List.getElem?_eq_none (Nat.le_of_not_lt hi)]
    · rfl

/-- An entry that is registered lies in the table. -/
theorem Dev.lt_length_of_cart {d : Dev} {i : CartIx} {x : Cart} (h : d.cart i = some x) : i.val < d.cat.carts.length := by
  by_contra hlt
  simp [Dev.cart, List.getD, List.getElem?_eq_none (Nat.le_of_not_lt hlt)] at h

theorem Dev.cart_push (d : Dev) (t : Todo) (i : CartIx) : (d.push t).cart i = d.cart i := by simp [Dev.cart]
@[simp] theorem Dev.cart_reselect (d : Dev) (i : CartIx) : d.reselect.cart i = d.cart i := by simp [Dev.cart]
@[simp] theorem Dev.cart_dirty (d : Dev) (b : Nat) (i : CartIx) : (d.dirty b).cart i = d.cart i := by simp [Dev.cart]

/-- R3: a registered entry is changed, and the other entries read as before. -/
theorem Dev.cart_modCart (d : Dev) (i j : CartIx) (f : Cart → Cart) :
    (d.modCart i f).cart j = if j = i then (d.cart i).map f else d.cart j := by
  unfold Dev.modCart
  cases h : d.cart i with
  | none => dsimp only; split <;> simp_all
  | some x =>
    have hi := Dev.lt_length_of_cart h
    simp only [Dev.putCart, Dev.cart_dirty, Option.map_some]
    simp only [Dev.cart, Dev.modCat_cat, getD_set_of_lt _ _ _ _ hi, Fin.ext_iff]

@[simp] theorem Dev.cart_modCart_same (d : Dev) (i : CartIx) (f : Cart → Cart) : (d.modCart i f).cart i = (d.cart i).map f := by
  simp [Dev.cart_modCart]
theorem Dev.cart_modCart_of_ne (d : Dev) {i j : CartIx} (f : Cart → Cart) (h : j ≠ i) : (d.modCart i f).cart j = d.cart j := by
  simp [Dev.cart_modCart, h]

/-- R30: a claim is changed, and the other entries read as before. -/
theorem Dev.cart_setClaim (d : Dev) (i j : CartIx) (h : Option Nat) :
    (d.setClaim i h).cart j = if j = i then (d.cart i).map fun x => { x with claim := h } else d.cart j := by
  unfold Dev.setClaim
  cases hx : d.cart i with
  | none => dsimp only; split <;> simp_all
  | some x =>
    have hi := Dev.lt_length_of_cart hx
    simp only [Dev.cart_reselect, Option.map_some]
    simp only [Dev.cart, Dev.modCat_cat, getD_set_of_lt _ _ _ _ hi, Fin.ext_iff]

theorem Dev.cart_setCartState (d : Dev) (i j : CartIx) (s : CartState) :
    (d.setCartState i s).cart j = if j = i then (d.cart i).map fun x => { x with state := s } else d.cart j := by
  rw [Dev.setCartState, Dev.cart_reselect, Dev.cart_modCart]

/-- A cartridge entry that is freed reads as free, and the other entries as before. -/
theorem Dev.cart_putCart_none (d : Dev) (i j : CartIx) : (d.putCart i none).cart j = if j = i then none else d.cart j := by
  simp only [Dev.putCart, Dev.cart_dirty]
  simp only [Dev.cart, Dev.modCat_cat, getD_set_default, Fin.ext_iff]

/-- A walk over distinct entries that changes each one it comes to changes those entries alone, once each. -/
theorem Dev.cart_foldl {step : Dev → CartIx → Dev} (g : CartIx → Cart → Cart)
    (hstep : ∀ d i j, (step d i).cart j = if j = i then (d.cart i).map (g i) else d.cart j) (l : List CartIx) (hl : l.Nodup)
    (d : Dev) (j : CartIx) : (l.foldl step d).cart j = if j ∈ l then (d.cart j).map (g j) else d.cart j := by
  induction l generalizing d with
  | nil => simp
  | cons i l ih =>
    obtain ⟨hi, hl⟩ := List.nodup_cons.mp hl
    rw [List.foldl_cons, ih hl, hstep]
    by_cases hj : j = i
    · subst hj; simp [hi]
    · simp [hj]

/-! ### Set entries -/

theorem Dev.lt_length_of_set {d : Dev} {k : SetIx} {y : BackupSet} (h : d.set? k = some y) : k.val < d.cat.sets.length := by
  by_contra hlt
  simp [Dev.set?, Dev.entry, List.getD, List.getElem?_eq_none (Nat.le_of_not_lt hlt)] at h

theorem Dev.set?_eq_some {d : Dev} {k : SetIx} {y : BackupSet} : d.set? k = some y ↔ d.entry k = .holds y := by
  unfold Dev.set?; split <;> simp_all

theorem Dev.entry_push (d : Dev) (t : Todo) (k : SetIx) : (d.push t).entry k = d.entry k := by simp [Dev.entry]
@[simp] theorem Dev.entry_reselect (d : Dev) (k : SetIx) : d.reselect.entry k = d.entry k := by simp [Dev.entry]
@[simp] theorem Dev.entry_dirty (d : Dev) (b : Nat) (k : SetIx) : (d.dirty b).entry k = d.entry k := by simp [Dev.entry]
@[simp] theorem Dev.set?_push (d : Dev) (t : Todo) (k : SetIx) : (d.push t).set? k = d.set? k := by simp [Dev.set?, Dev.entry]
@[simp] theorem Dev.set?_reselect (d : Dev) (k : SetIx) : d.reselect.set? k = d.set? k := by simp [Dev.set?]

@[simp] theorem Dev.putCart_sets (d : Dev) (i : CartIx) (x : Option Cart) : (d.putCart i x).cat.sets = d.cat.sets := by
  simp [Dev.putCart]
@[simp] theorem Dev.modCart_sets (d : Dev) (i : CartIx) (f : Cart → Cart) : (d.modCart i f).cat.sets = d.cat.sets := by
  unfold Dev.modCart; split <;> simp
@[simp] theorem Dev.setClaim_sets (d : Dev) (i : CartIx) (h : Option Nat) : (d.setClaim i h).cat.sets = d.cat.sets := by
  unfold Dev.setClaim; split <;> simp
@[simp] theorem Dev.setCartState_sets (d : Dev) (i : CartIx) (s : CartState) : (d.setCartState i s).cat.sets = d.cat.sets := by
  simp [Dev.setCartState]
@[simp] theorem Dev.putSet_carts (d : Dev) (k : SetIx) (x : SetEntry) : (d.putSet k x).cat.carts = d.cat.carts := by
  simp [Dev.putSet]
@[simp] theorem Dev.modSet_carts (d : Dev) (k : SetIx) (f : BackupSet → BackupSet) : (d.modSet k f).cat.carts = d.cat.carts := by
  unfold Dev.modSet; split <;> simp
@[simp] theorem Dev.setInUse_carts (d : Dev) (k : SetIx) (h : Option Nat) : (d.setInUse k h).cat.carts = d.cat.carts := by
  unfold Dev.setInUse; split <;> simp
@[simp] theorem Dev.freeSet_carts (d : Dev) (k : Option SetIx) : (d.freeSet k).cat.carts = d.cat.carts := by
  unfold Dev.freeSet; split <;> simp

theorem Dev.cart_of_carts {d e : Dev} (h : e.cat.carts = d.cat.carts) (i : CartIx) : e.cart i = d.cart i := by simp [Dev.cart, h]
theorem Dev.entry_of_sets {d e : Dev} (h : e.cat.sets = d.cat.sets) (k : SetIx) : e.entry k = d.entry k := by simp [Dev.entry, h]
theorem Dev.set?_of_sets {d e : Dev} (h : e.cat.sets = d.cat.sets) (k : SetIx) : e.set? k = d.set? k := by
  simp [Dev.set?, Dev.entry_of_sets h]

/-- R16: the entry of a set is written, and the other entries read as before. -/
theorem Dev.entry_putSet_of_set {d : Dev} {k : SetIx} {y : BackupSet} (h : d.set? k = some y) (j : SetIx) (x : SetEntry) :
    (d.putSet k x).entry j = if j = k then x else d.entry j := by
  have hk := Dev.lt_length_of_set h
  simp only [Dev.putSet, Dev.entry_dirty]
  simp only [Dev.entry, Dev.modCat_cat, getD_set_of_lt _ _ _ _ hk, Fin.ext_iff]

theorem Dev.set?_modSet (d : Dev) (k j : SetIx) (f : BackupSet → BackupSet) :
    (d.modSet k f).set? j = if j = k then (d.set? k).map f else d.set? j := by
  unfold Dev.modSet
  cases h : d.set? k with
  | none => dsimp only; split <;> simp_all
  | some y => simp only [Dev.set?, Dev.entry_putSet_of_set h]; by_cases hj : j = k <;> simp [hj]

@[simp] theorem Dev.set?_modSet_same (d : Dev) (k : SetIx) (f : BackupSet → BackupSet) : (d.modSet k f).set? k = (d.set? k).map f := by
  simp [Dev.set?_modSet]

/-- R30: an in-use field is written, and the other entries read as before. -/
theorem Dev.set?_setInUse (d : Dev) (k j : SetIx) (h : Option Nat) :
    (d.setInUse k h).set? j = if j = k then (d.set? k).map fun y => { y with inUse := h } else d.set? j := by
  unfold Dev.setInUse
  cases hy : d.set? k with
  | none => dsimp only; split <;> simp_all
  | some y =>
    have hk := Dev.lt_length_of_set hy
    simp only [Dev.set?, Dev.entry, Dev.modCat_cat, getD_set_of_lt _ _ _ _ hk, ← Fin.ext_iff, Option.map_some]
    by_cases hj : j = k <;> simp [hj]

end Sys2Proof.Machine
end

section
/-! POOLS, LOCK_POOL and DAY (R13 to R15, R28), and the application of a staged map. -/

namespace Sys2Proof.Machine

/-! ### A change of block 0 that comes with a request's answer -/

theorem Dev.modPort_push (d : Dev) (p : Port) (f : PortUnit → PortUnit) (t : Todo) :
    (d.push t).modPort p f = (d.modPort p f).push t := by
  by_cases h : t ∈ d.todo <;> cases p <;> simp [Dev.push, h, Dev.modPort, Dev.setPort, Dev.port]

theorem Dev.modPort_modCst (d : Dev) (p : Port) (f : PortUnit → PortUnit) (g : Store → Store) :
    (d.modCst g).modPort p f = (d.modPort p f).modCst g := by cases p <;> rfl

theorem Dev.modPort_modCat (d : Dev) (p : Port) (f : PortUnit → PortUnit) (g : Catalogue → Catalogue) :
    (d.modCat g).modPort p f = (d.modPort p f).modCat g := by cases p <;> rfl

theorem Dev.newReq_modCat_dirty (d : Dev) (f : Req) (k : ReqKind) (g : Catalogue → Catalogue) (b : Nat) :
    ((d.modCat g).dirty b).newReq f k = d.newReq f k := by
  obtain ⟨p, _⟩ := f
  cases p <;> simp [Dev.newReq, Dev.port]

/-- A request joins its port's queue as well after a change of the catalogue that marks a block as before it. -/
theorem Dev.joined_modCat_dirty (d : Dev) (f : Req) (k : ReqKind) (g : Catalogue → Catalogue) (b : Nat) :
    ((d.joined f k).modCat g).dirty b = ((d.modCat g).dirty b).joined f k := by
  unfold Dev.joined
  simp only [Dev.newReq_modCat_dirty]
  rw [Dev.dirty, Dev.dirty, Dev.modPort_push, Dev.modPort_modCst, Dev.modPort_modCat]

/-- R173: the answer to a request whose meaning was a change of the catalogue that marks a block. -/
theorem Dev.takes_modCat_answer {s : State} {f : Req} (k : ReqKind) (h : s.dev.takes f) (g : Catalogue → Catalogue) (b : Nat)
    (st : Status) : (((s.dev.begin.joined f k).modCat g).dirty b).answer (s.dev.begin.newReq f k) st =
      ((s.dev.begin.modCat g).dirty b).answered f k st f.handle.toNat [] := by
  have hup : (((s.dev.begin.modCat g).dirty b).port f.port).link = .up := by
    have := Dev.takes_up h
    cases hp : f.port <;> simpa [Dev.port, hp] using this
  rw [Dev.joined_modCat_dirty, ← Dev.newReq_modCat_dirty s.dev.begin f k g b, Dev.joined_answer k st hup]

/-! ### What POOLS checks (R13) -/

theorem boundsOk_iff (b1 b2 b3 b4 : Nat) : boundsOk b1 b2 b3 b4 = true ↔ b1 ≤ b2 ∧ b2 ≤ b3 ∧ b3 ≤ b4 ∧ b4 ≤ 24 := by
  simp [boundsOk, and_assoc]

theorem PoolKind.ofCode_eq_none (n : Nat) : PoolKind.ofCode n = none ↔ 1 < n := by
  match n with
  | 0 => simp [PoolKind.ofCode]
  | 1 => simp [PoolKind.ofCode]
  | n + 2 => simp [PoolKind.ofCode]

theorem PoolOwner.ofCode_eq_none (n : Nat) : PoolOwner.ofCode n = none ↔ 2 < n := by
  match n with
  | 0 => simp [PoolOwner.ofCode]
  | 1 => simp [PoolOwner.ofCode]
  | 2 => simp [PoolOwner.ofCode]
  | n + 3 => simp [PoolOwner.ofCode]

theorem PoolKind.code_of_ofCode {n : Nat} {k : PoolKind} (h : PoolKind.ofCode n = some k) : k.code = n := by
  match n with
  | 0 => simp only [PoolKind.ofCode, Option.some.injEq] at h; subst h; rfl
  | 1 => simp only [PoolKind.ofCode, Option.some.injEq] at h; subst h; rfl
  | n + 2 => simp [PoolKind.ofCode] at h

theorem PoolOwner.code_of_ofCode {n : Nat} {o : PoolOwner} (h : PoolOwner.ofCode n = some o) : o.code = n := by
  match n with
  | 0 => simp only [PoolOwner.ofCode, Option.some.injEq] at h; subst h; rfl
  | 1 => simp only [PoolOwner.ofCode, Option.some.injEq] at h; subst h; rfl
  | 2 => simp only [PoolOwner.ofCode, Option.some.injEq] at h; subst h; rfl
  | n + 3 => simp [PoolOwner.ofCode] at h

/-- R13: one pool of a request: its kind and owner, under the lock of the live map's pool. -/
def stagedPool (q : Nat × Nat) (old : Pool) : Option Pool :=
  match PoolKind.ofCode q.1, PoolOwner.ofCode q.2 with
  | some k, some o => some { kind := k, owner := o, lock := old.lock }
  | _, _ => none

theorem stagedPool_eq_none (q : Nat × Nat) (old : Pool) : stagedPool q old = none ↔ 1 < q.1 ∨ 2 < q.2 := by
  rw [← PoolKind.ofCode_eq_none, ← PoolOwner.ofCode_eq_none, stagedPool]
  cases PoolKind.ofCode q.1 <;> cases PoolOwner.ofCode q.2 <;> simp

theorem stagedPool_eq_some {q : Nat × Nat} {old p : Pool} (h : stagedPool q old = some p) :
    p.lock = old.lock ∧ p.kind.code = q.1 ∧ p.owner.code = q.2 := by
  unfold stagedPool at h
  split at h
  · next k o hk ho =>
    obtain rfl := Option.some.inj h
    exact ⟨rfl, PoolKind.code_of_ofCode hk, PoolOwner.code_of_ofCode ho⟩
  · exact absurd h (by simp)

/-- R13: pool by pool, each of a request's codes with the live map's pool of its place. -/
def stagedFrom : List (Nat × Nat) → List Pool → Option (List Pool)
  | q :: qs, old :: olds => (stagedPool q old).bind fun p => (stagedFrom qs olds).map (p :: ·)
  | _, _ => some []

theorem stagedPools_eq (live : PoolMap) (codes : List (Nat × Nat)) : stagedPools live codes = stagedFrom codes live.pools := by
  have hf : stagedPools live codes = (codes.zip live.pools).mapM fun x => stagedPool x.1 x.2 := rfl
  rw [hf]
  clear hf
  induction codes generalizing live with
  | nil => simp [stagedFrom]
  | cons q qs ih =>
    obtain ⟨b1, b2, b3, b4, olds⟩ := live
    cases olds with
    | nil => simp [stagedFrom]
    | cons old olds =>
      have := ih ⟨b1, b2, b3, b4, olds⟩
      simp only [List.zip_cons_cons, List.mapM_cons, this, stagedFrom] at this ⊢
      cases stagedPool q old <;> cases stagedFrom qs olds <;> rfl

theorem stagedFrom_eq_none {codes : List (Nat × Nat)} {olds : List Pool} (h : codes.length = olds.length) :
    stagedFrom codes olds = none ↔ ∃ x ∈ codes, 1 < x.1 ∨ 2 < x.2 := by
  induction codes generalizing olds with
  | nil => simp [stagedFrom]
  | cons q qs ih =>
    obtain _ | ⟨old, olds⟩ := olds
    · simp at h
    · rw [List.exists_mem_cons_iff, ← ih (olds := olds) (by simpa using h), ← stagedPool_eq_none q old, stagedFrom]
      cases stagedPool q old <;> simp

theorem stagedFrom_eq_some {codes : List (Nat × Nat)} {olds ps : List Pool} (h : codes.length = olds.length)
    (hs : stagedFrom codes olds = some ps) : ps.map (·.lock) = olds.map (·.lock) ∧
      ps.map (·.kind.code) = codes.map (·.1) ∧ ps.map (·.owner.code) = codes.map (·.2) := by
  induction codes generalizing olds ps with
  | nil =>
    obtain rfl := List.length_eq_zero_iff.mp h.symm
    obtain rfl := Option.some.inj hs
    simp
  | cons q qs ih =>
    obtain _ | ⟨old, olds⟩ := olds
    · simp at h
    · simp only [stagedFrom, Option.bind_eq_some_iff, Option.map_eq_some_iff] at hs
      obtain ⟨p, hp, ps, hps, rfl⟩ := hs
      obtain ⟨hlock, hkind, howner⟩ := ih (by simpa using h) hps
      obtain ⟨plock, pkind, powner⟩ := stagedPool_eq_some hp
      simp [hlock, hkind, howner, plock, pkind, powner]

theorem locksKept_iff (live staged : PoolMap) : locksKept live staged = true ↔ ∀ k, k < 5 → (live.pool k).lock = true →
    staged.bound k = live.bound k ∧ staged.bound (k + 1) = live.bound (k + 1) ∧ (staged.pool k).kind = .retained := by
  simp only [locksKept, List.all_eq_true, List.mem_range, Bool.or_eq_true, Bool.not_eq_true', Bool.and_eq_true, decide_eq_true_eq]
  refine forall_congr' fun k => imp_congr_right fun _ => ?_
  cases (live.pool k).lock <;> simp [and_assoc]

/-- R13: the staged map is kept when the bounds rise, the codes are in their sets and no locked pool is changed. -/
theorem Dev.stagePools_staged {d : Dev} {r : ReqId} {q : PoolsReq} {ps : List Pool} (hb : boundsOk q.b1 q.b2 q.b3 q.b4 = true)
    (hs : stagedPools d.cat.live q.pools = some ps) : d.stagePools r q =
      if locksKept d.cat.live ⟨q.b1, q.b2, q.b3, q.b4, ps⟩ = false then d.answer r .retained
      else (((d.modCat fun k => { k with staged := some ⟨q.b1, q.b2, q.b3, q.b4, ps⟩ }).dirty 0).answer r .ok).push .poolsApply := by
  simp [Dev.stagePools, hb, hs]

theorem Dev.stagePools_badBounds {d : Dev} {r : ReqId} {q : PoolsReq} (hb : boundsOk q.b1 q.b2 q.b3 q.b4 = false) :
    d.stagePools r q = d.answer r .badRequest := by
  simp [Dev.stagePools, hb]

theorem Dev.stagePools_badCodes {d : Dev} {r : ReqId} {q : PoolsReq} (hs : stagedPools d.cat.live q.pools = none) :
    d.stagePools r q = d.answer r .badRequest := by
  simp [Dev.stagePools, hs]

/-- Settles O24: the checks in their order on the device the request has joined, and each check by what it accepts. -/
theorem poolsStagesTheMap : Obligations.PoolsStagesTheMap := by
  refine ⟨?_, boundsOk_iff, fun live codes hl hc => ⟨?_, fun ps hps => ?_⟩, locksKept_iff⟩
  · intro s f q ht hq
    have hcat : (s.dev.begin.joined f .pools).cat = s.dev.cat := by simp
    have arm : exec (.pools f) s = .next { s with dev := ((s.dev.begin.joined f .pools).panelOnly (s.dev.begin.newReq f .pools)
        fun d => d.stagePools (s.dev.begin.newReq f .pools) q).finish } := by
      rw [exec_pools, State.does_arrive _ _ ht, hq, Dev.withForm_some]
    refine ⟨fun hp => ?_, fun hp hb => ?_, fun hp hs => ?_, fun ps hp hb hs => ⟨fun hk => ?_, fun hk => ?_⟩⟩
    · rw [arm, Dev.panelOnly_client _ _ _ hp, Dev.takes_answer _ ht]
    all_goals rw [arm, Dev.panelOnly_panel _ _ _ hp]
    · rw [Dev.stagePools_badBounds hb, Dev.takes_answer _ ht]
    · rw [Dev.stagePools_badCodes (by rw [hcat]; exact hs), Dev.takes_answer _ ht]
    all_goals rw [Dev.stagePools_staged hb (by rw [hcat]; exact hs), hcat]
    · rw [if_pos hk, Dev.takes_answer _ ht]
    · rw [if_neg (by simp [hk]), Dev.takes_modCat_answer _ ht]
  · rw [stagedPools_eq]; exact stagedFrom_eq_none (by rw [hl, hc])
  · rw [stagedPools_eq] at hps; exact stagedFrom_eq_some (by rw [hl, hc]) hps

/-! ### LOCK_POOL and DAY (R15, R28) -/

theorem Dev.lockPool_outside {d : Dev} {r : ReqId} {k : Nat} (h : 4 < k) : d.lockPool r k = d.answer r .badRequest := by
  simp [Dev.lockPool, h]
theorem Dev.lockPool_staged {d : Dev} {r : ReqId} {k : Nat} (h : k ≤ 4) (hs : d.cat.staged ≠ none) :
    d.lockPool r k = d.answer r .badState := by
  simp [Dev.lockPool, Nat.not_lt.mpr h, Option.isSome_iff_ne_none, hs]
theorem Dev.lockPool_rotation {d : Dev} {r : ReqId} {k : Nat} (h : k ≤ 4) (hs : d.cat.staged = none)
    (hk : (d.cat.live.pool k).kind = .rotation) : d.lockPool r k = d.answer r .badState := by
  simp [Dev.lockPool, Nat.not_lt.mpr h, hs, hk]
/-- R15: a RETAINED pool is locked; one that is locked already stays so. -/
theorem Dev.lockPool_retained {d : Dev} {r : ReqId} {k : Nat} (h : k ≤ 4) (hs : d.cat.staged = none)
    (hk : (d.cat.live.pool k).kind = .retained) : d.lockPool r k =
      if (d.cat.live.pool k).lock = true then d.answer r .ok
      else ((d.modCat fun t => { t with live := { t.live with pools := t.live.pools.modify k fun p =>
        { p with lock := true } } }).dirty 0).answer r .ok := by
  simp [Dev.lockPool, Nat.not_lt.mpr h, hs, hk]

/-! ### Notices that a port has room for (R176) -/

/-- R176: a notice that is no CREDIT joins the queue of a port that has room for it. -/
theorem Dev.notice_joins {d : Dev} {p : Port} {n : Notice} (h : d.roomFor p n) (hn : n.isCredit = false) :
    ((d.notice p n).port p).notices = (d.port p).notices ++ [n] := by
  obtain ⟨hup, hroom, hmask⟩ := h
  cases n <;> simp_all [Notice.isCredit, Dev.notice, Dev.offer, Config.maxNotices, Nat.not_le.mpr (Nat.lt_succ_of_lt hroom)]

/-- A notice offered to one port leaves the others as they were. -/
theorem Dev.port_notice_of_ne (d : Dev) {p q : Port} (n : Notice) (h : q ≠ p) : (d.notice p n).port q = d.port q := by
  unfold Dev.notice Dev.offer
  dsimp only
  repeat' split
  all_goals simp [Dev.port_setPort_of_ne _ _ _ _ h]

/-- R176: a notice that waits is not lost when another is offered. -/
theorem Dev.mem_notices_notice {d : Dev} {p q : Port} {m n : Notice} (hn : n.isCredit = false) (h : m ∈ (d.port q).notices) :
    m ∈ ((d.notice p n).port q).notices := by
  by_cases hq : q = p
  · subst hq
    unfold Dev.notice Dev.offer
    dsimp only
    cases n <;> simp only [Notice.isCredit] at hn ⊢ <;> (repeat' split) <;> simp_all
  · rwa [Dev.port_notice_of_ne d n hq]

theorem Dev.roomFor_congr {d e : Dev} {p : Port} (n : Notice) (hp : e.port p = d.port p) (hc : e.cfg = d.cfg) :
    e.roomFor p n ↔ d.roomFor p n := by
  simp [Dev.roomFor, hp, hc]

/-- R177: a notice for the three ports reaches each that has room for it. -/
theorem Dev.mem_noticeAll {d : Dev} {p : Port} {n : Notice} (h : d.roomFor p n) (hn : n.isCredit = false) :
    n ∈ ((d.noticeAll n).port p).notices := by
  unfold Dev.noticeAll
  cases p with
  | A => exact Dev.mem_notices_notice hn (Dev.mem_notices_notice hn (by rw [Dev.notice_joins h hn]; simp))
  | B =>
    have h' : (d.notice .A n).roomFor .B n := (Dev.roomFor_congr n (Dev.port_notice_of_ne d n (by simp)) (by simp)).2 h
    exact Dev.mem_notices_notice hn (by rw [Dev.notice_joins h' hn]; simp)
  | P =>
    have hport : ((d.notice .A n).notice .B n).port .P = d.port .P := by
      rw [Dev.port_notice_of_ne _ n (by simp), Dev.port_notice_of_ne _ n (by simp)]
    have h' : ((d.notice .A n).notice .B n).roomFor .P n := (Dev.roomFor_congr n hport (by simp)).2 h
    rw [Dev.notice_joins h' hn]; simp

/-! ### The application of a staged map (R14) -/

/-- R12: the pool a cartridge belongs to under a map: that of its home slot, and its own when it has no home. -/
def PoolMap.poolFor (m : PoolMap) (x : Cart) : Nat := (x.home.map fun n => m.poolOf n.val).getD x.pool

/-- R14: the pool of one cartridge is worked out again. -/
def Dev.poolAgain (m : PoolMap) (d : Dev) (i : CartIx) : Dev :=
  match d.cart i with
  | some x =>
    match x.home with
    | some n => if x.pool = m.poolOf n.val then d else d.modCart i fun x => { x with pool := m.poolOf n.val }
    | none => d
  | none => d

/-- R14: the device with the new live map, before the cartridges' pools are worked out again. -/
def Dev.mapLive (d : Dev) (m : PoolMap) : Dev := (d.modCat fun k => { k with live := m, staged := none }).dirty 0

theorem Dev.applyPools_eq {d : Dev} {m : PoolMap} (h : d.cat.staged = some m) : d.applyPools =
    ((allCarts.foldl (Dev.poolAgain m) (d.mapLive m)).noticeAll .poolsApplied).reselect := by
  rw [Dev.applyPools, h]; rfl

theorem Dev.TablesOnly.poolAgain (m : PoolMap) (d : Dev) (i : CartIx) : d.TablesOnly (d.poolAgain m i) := by
  unfold Dev.poolAgain
  split
  · split
    · split
      · exact refl d
      · exact modCart ..
    · exact refl d
  · exact refl d

/-- R14: a cartridge's pool follows its home slot, and nothing else of any entry changes. -/
theorem Dev.cart_poolAgain (m : PoolMap) (d : Dev) (i j : CartIx) : (d.poolAgain m i).cart j =
    if j = i then (d.cart i).map fun x => { x with pool := m.poolFor x } else d.cart j := by
  unfold Dev.poolAgain
  cases hx : d.cart i with
  | none => dsimp only; split <;> simp_all
  | some x =>
    dsimp only
    have same (h : m.poolFor x = x.pool) : { x with pool := m.poolFor x } = x := by rw [h]
    cases hn : x.home with
    | none =>
      have hpool : m.poolFor x = x.pool := by simp [PoolMap.poolFor, hn]
      rw [Option.map_some, same hpool]
      by_cases hj : j = i <;> simp [hj, hx]
    | some n =>
      have hpool : m.poolFor x = m.poolOf n.val := by simp [PoolMap.poolFor, hn]
      dsimp only
      split
      · next hp =>
        rw [Option.map_some, same (hpool.trans hp.symm)]
        by_cases hj : j = i <;> simp [hj, hx]
      · rw [Dev.cart_modCart, hx, Option.map_some, Option.map_some, hpool]

theorem allCarts_nodup : allCarts.Nodup := List.nodup_finRange 64
theorem mem_allCarts (i : CartIx) : i ∈ allCarts := List.mem_finRange i

theorem cartBlock_lt (i : CartIx) : cartBlock i < 21 := by unfold cartBlock; omega

/-- R30: a change of a registered entry marks its block. -/
theorem Dev.modCart_isDirty {d : Dev} {i : CartIx} {x : Cart} (f : Cart → Cart) (h : d.cart i = some x)
    (hm : d.cst.dirty.length = 21) : (d.modCart i f).cst.isDirty (cartBlock i) = true := by
  simp only [Dev.modCart, h, Dev.putCart]
  exact Dev.dirty_isDirty _ _ (by simpa [hm] using cartBlock_lt i)

theorem Dev.poolAgain_isDirty {m : PoolMap} {d : Dev} {i : CartIx} {x : Cart} (h : d.cart i = some x)
    (hm : d.cst.dirty.length = 21) (hp : m.poolFor x ≠ x.pool) : (d.poolAgain m i).cst.isDirty (cartBlock i) = true := by
  unfold Dev.poolAgain
  rw [h]
  dsimp only
  cases hn : x.home with
  | none => simp [PoolMap.poolFor, hn] at hp
  | some n =>
    have hne : x.pool ≠ m.poolOf n.val := by simpa [PoolMap.poolFor, hn, eq_comm] using hp
    simp only [hne, if_false]
    exact Dev.modCart_isDirty _ h hm

/-- R14: the blocks of the cartridges whose pool changes are marked. -/
theorem Dev.foldl_poolAgain_isDirty {m : PoolMap} {d : Dev} {i : CartIx} {x : Cart} (h : d.cart i = some x)
    (hm : d.cst.dirty.length = 21) (hp : m.poolFor x ≠ x.pool) :
    (allCarts.foldl (Dev.poolAgain m) d).cst.isDirty (cartBlock i) = true := by
  obtain ⟨before, after, hsplit⟩ := List.append_of_mem (mem_allCarts i)
  have hnodup := allCarts_nodup
  rw [hsplit, List.nodup_append] at hnodup
  obtain ⟨hbefore, -, hdisjoint⟩ := hnodup
  have hi : i ∉ before := fun hmem => hdisjoint i hmem i (by simp) rfl
  rw [hsplit, List.foldl_append, List.foldl_cons]
  have frame := Dev.TablesOnly.foldl (Dev.TablesOnly.poolAgain m) before d
  have hx : (before.foldl (Dev.poolAgain m) d).cart i = some x := by
    rw [Dev.cart_foldl _ (Dev.cart_poolAgain m) before hbefore, if_neg hi, h]
  exact (Dev.TablesOnly.foldl (Dev.TablesOnly.poolAgain m) after _).marks _
    (Dev.poolAgain_isDirty hx (frame.marksLength.trans hm) hp)

theorem Dev.foldl_poolAgain_sets (m : PoolMap) (l : List CartIx) (d : Dev) :
    (l.foldl (Dev.poolAgain m) d).cat.sets = d.cat.sets := by
  induction l generalizing d with
  | nil => rfl
  | cons i l ih =>
    rw [List.foldl_cons, ih]
    unfold Dev.poolAgain
    split <;> [split; skip] <;> [split; skip; skip]
    all_goals simp

/-- R14: with a session on a channel a staged map waits. -/
theorem Dev.poolsTest_of_session {d : Dev} {c : Chan} (h : d.sess c ≠ none) : d.poolsTest = d := by
  have hs : ¬ ((d.sess .ch0).isNone = true ∧ (d.sess .ch1).isNone = true) := by
    intro ⟨h0, h1⟩
    cases c
    · exact h (Option.isNone_iff_eq_none.mp h0)
    · exact h (Option.isNone_iff_eq_none.mp h1)
  rw [Dev.poolsTest, if_neg hs]

theorem Dev.applyPools_unstaged {d : Dev} (h : d.cat.staged = none) : d.applyPools = d := by simp [Dev.applyPools, h]

theorem Dev.poolsTest_of_idle {d : Dev} (h : ∀ c, d.sess c = none) : d.poolsTest = d.applyPools := by
  simp [Dev.poolsTest, h]

theorem Dev.cart_mapLive (d : Dev) (m : PoolMap) (i : CartIx) : (d.mapLive m).cart i = d.cart i := by simp [Dev.mapLive, Dev.cart]

/-- Settles O25: LOCK_POOL and DAY clause by clause on the device the request has joined; the application of a staged map is a walk over
the cartridge table that changes pools alone, after which POOLS_APPLIED is offered. -/
theorem lockPoolAndDaySetTheirFields : Obligations.LockPoolAndDaySetTheirFields := by
  refine ⟨?_, ?_, fun d => ⟨?_, Dev.poolsTest_of_idle⟩, ?_⟩
  · intro s f k ht hk
    have hcat : (s.dev.begin.joined f .lockPool).cat = s.dev.cat := by simp
    have arm : exec (.lockPool f) s = .next { s with dev := ((s.dev.begin.joined f .lockPool).panelOnly
        (s.dev.begin.newReq f .lockPool) fun d => d.lockPool (s.dev.begin.newReq f .lockPool) k.toNat).finish } := by
      rw [exec_lockPool, State.does_arrive _ _ ht, hk, parseByte_single, Dev.withForm_some]
    refine ⟨fun hp => ?_, fun hp => ⟨fun hn => ?_, fun hn hs => ?_, fun hn hs hkind => ?_, fun hn hs hkind => ⟨fun hl => ?_, fun hl => ?_⟩⟩⟩
    · rw [arm, Dev.panelOnly_client _ _ _ hp, Dev.takes_answer _ ht]
    all_goals rw [arm, Dev.panelOnly_panel _ _ _ hp]
    · rw [Dev.lockPool_outside hn, Dev.takes_answer _ ht]
    · rw [Dev.lockPool_staged hn (by rw [hcat]; exact hs), Dev.takes_answer _ ht]
    · rw [Dev.lockPool_rotation hn (by rw [hcat]; exact hs) (by rw [hcat]; exact hkind), Dev.takes_answer _ ht]
    all_goals rw [Dev.lockPool_retained hn (by rw [hcat]; exact hs) (by rw [hcat]; exact hkind), hcat]
    · rw [if_pos hl, Dev.takes_answer _ ht]
    · rw [if_neg (by simp [hl]), Dev.takes_modCat_answer _ ht]
  · intro s f n ht hp hn
    rw [exec_day, State.does_arrive _ _ ht, hn, Dev.withForm_some, Dev.panelOnly_panel _ _ _ hp, Dev.setDay,
      Dev.takes_modCat_answer _ ht, Dev.reselect]
  · rintro (hs | ⟨c, hc⟩)
    · rw [Dev.poolsTest]
      split
      · exact Dev.applyPools_unstaged hs
      · rfl
    · exact Dev.poolsTest_of_session hc
  · intro d m hm
    have walk := Dev.TablesOnly.foldl (Dev.TablesOnly.poolAgain m) allCarts (d.mapLive m)
    have hsets := Dev.foldl_poolAgain_sets m allCarts (d.mapLive m)
    rw [Dev.applyPools_eq hm]
    generalize hw : allCarts.foldl (Dev.poolAgain m) (d.mapLive m) = w at walk hsets
    have hcart (i : CartIx) : w.cart i = (d.cart i).map fun x => { x with pool := m.poolFor x } := by
      rw [← hw, Dev.cart_foldl _ (Dev.cart_poolAgain m) _ allCarts_nodup, if_pos (mem_allCarts i), Dev.cart_mapLive]
    have hcart' (i : CartIx) : ((w.noticeAll .poolsApplied).reselect).cart i = w.cart i := Dev.cart_congr (by simp) i
    refine ⟨?_, ?_, ?_, ?_, ?_, ?_, ?_, ?_, ?_, ?_, ?_, fun i => ?_, fun hlen => ⟨?_, fun i x hx hne => ?_⟩, fun p hp => ?_⟩
    · simpa [Dev.mapLive] using walk.live
    · simpa [Dev.mapLive] using walk.staged
    · simpa [Dev.mapLive] using hsets
    · simpa [Dev.mapLive] using walk.places
    · simpa [Dev.mapLive] using walk.day
    · simpa [Dev.mapLive] using walk.nextSet
    · simpa [Dev.mapLive] using walk.ch
    · simpa [Dev.mapLive] using walk.mqu
    · simpa [Dev.mapLive] using walk.cfg
    · simpa [Dev.mapLive] using walk.smc
    · simpa [Dev.mapLive] using walk.waitList
    · rw [hcart', hcart]; rfl
    · simpa using walk.marks 0 (Dev.dirty_isDirty _ 0 (by simp [hlen]))
    · have hp : m.poolFor x ≠ x.pool := by
        intro h; apply hne; rw [hcart', hcart, hx]; simp [h]
      have := Dev.foldl_poolAgain_isDirty (d := d.mapLive m) (by rw [Dev.cart_mapLive]; exact hx)
        (by simp [Dev.mapLive, Dev.dirty, hlen]) hp
      rw [hw] at this
      simpa using this
    · have hport : w.port p = d.port p := by rw [walk.port]; cases p <;> simp [Dev.mapLive, Dev.port]
      have hcfg : w.cfg = d.cfg := walk.cfg.trans (by simp [Dev.mapLive])
      simpa [Dev.reselect] using Dev.mem_noticeAll ((Dev.roomFor_congr _ hport hcfg).2 hp) rfl

end Sys2Proof.Machine
end

section
/-! RECYCLE and ERASE (R10, R19, R26, R27): what they leave of the cartridge, its sets and the live set counts. -/

namespace Sys2Proof.Machine

/-! ### Expiry of sets -/

theorem allSets_nodup : allSets.Nodup := List.nodup_finRange 256
theorem mem_allSets (k : SetIx) : k ∈ allSets := List.mem_finRange k

/-- R10: the live set counts fall, once for each time a cartridge is named. -/
theorem Dev.cart_foldl_lowerLive (l : List CartIx) (d : Dev) (j : CartIx) :
    (l.foldl Dev.lowerLive d).cart j = (d.cart j).map fun y => { y with live := y.live - l.count j } := by
  induction l generalizing d with
  | nil => simp
  | cons i l ih =>
    rw [List.foldl_cons, ih, Dev.lowerLive, Dev.cart_modCart]
    by_cases hj : j = i
    · subst hj; simp [Function.comp_def, Nat.sub_sub, Nat.add_comm]
    · simp [hj, List.count_cons_of_ne (Ne.symm hj)]

theorem Dev.foldl_lowerLive_sets (l : List CartIx) (d : Dev) : (l.foldl Dev.lowerLive d).cat.sets = d.cat.sets := by
  induction l generalizing d with
  | nil => rfl
  | cons i l ih => rw [List.foldl_cons, ih, Dev.lowerLive, Dev.modCart_sets]

/-- R10: how often a set's expiry lowers a cartridge's live set count: once when it has a segment there. -/
theorem BackupSet.count_carts (y : BackupSet) (j : CartIx) :
    (y.segments.map (·.cart)).dedup.count j = if y.onCart j then 1 else 0 := by
  rw [List.count_dedup]
  simp [BackupSet.onCart]

/-- R19: the set is EXPIRED, and every other entry reads as before. -/
theorem Dev.entry_expireSet {d : Dev} {k : SetIx} {y : BackupSet} (h : d.set? k = some y) (j : SetIx) :
    (d.expireSet k).entry j = if j = k then .holds { y with state := .expired } else d.entry j := by
  rw [Dev.expireSet, h]
  dsimp only
  rw [Dev.entry_of_sets (Dev.foldl_lowerLive_sets _ _), Dev.entry_putSet_of_set h]

theorem Dev.set?_expireSet {d : Dev} {k : SetIx} {y : BackupSet} (h : d.set? k = some y) (j : SetIx) :
    (d.expireSet k).set? j = if j = k then some { y with state := .expired } else d.set? j := by
  unfold Dev.set?
  rw [Dev.entry_expireSet h]
  by_cases hj : j = k <;> simp [hj]

/-- R10, R19: the live set count of each cartridge that the set names falls by 1. -/
theorem Dev.cart_expireSet {d : Dev} {k : SetIx} {y : BackupSet} (h : d.set? k = some y) (j : CartIx) :
    (d.expireSet k).cart j = (d.cart j).map fun x => { x with live := x.live - if y.onCart j then 1 else 0 } := by
  rw [Dev.expireSet, h]
  dsimp only
  rw [Dev.cart_foldl_lowerLive, Dev.cart_of_carts (Dev.putSet_carts d k _), BackupSet.count_carts]

/-! ### The expiry of a list of sets -/

/-- Every entry of the list holds a set. -/
def Dev.holdsAll (d : Dev) (l : List SetIx) : Prop := ∀ k ∈ l, (d.set? k).isSome = true

theorem Dev.holdsAll_expireSet {d : Dev} {k : SetIx} {l : List SetIx} (h : d.holdsAll (k :: l)) : (d.expireSet k).holdsAll l := by
  intro j hj
  obtain ⟨y, hy⟩ := Option.isSome_iff_exists.mp (h k (by simp))
  rw [Dev.set?_expireSet hy]
  split
  · rfl
  · exact h j (by simp [hj])

theorem Dev.foldl_expireSet_frame (l : List SetIx) (d : Dev) : d.TablesOnly (l.foldl Dev.expireSet d) :=
  Dev.TablesOnly.foldl Dev.TablesOnly.expireSet l d

/-- R19: the sets of the list are EXPIRED, and every other set is as it was. -/
theorem Dev.set?_foldl_expireSet {l : List SetIx} {d : Dev} (h : d.holdsAll l) (j : SetIx) :
    (l.foldl Dev.expireSet d).set? j = (d.set? j).map fun y => if j ∈ l then { y with state := .expired } else y := by
  induction l generalizing d with
  | nil => simp
  | cons k l ih =>
    obtain ⟨y, hy⟩ := Option.isSome_iff_exists.mp (h k (by simp))
    rw [List.foldl_cons, ih (Dev.holdsAll_expireSet h), Dev.set?_expireSet hy]
    by_cases hj : j = k
    · subst hj; simp [hy]
    · simp [hj]

theorem Dev.entry_foldl_expireSet {l : List SetIx} {d : Dev} (h : d.holdsAll l) {j : SetIx} (hj : j ∉ l) :
    (l.foldl Dev.expireSet d).entry j = d.entry j := by
  induction l generalizing d with
  | nil => rfl
  | cons k l ih =>
    obtain ⟨y, hy⟩ := Option.isSome_iff_exists.mp (h k (by simp))
    obtain ⟨hk, hl⟩ := List.ne_and_not_mem_of_not_mem_cons hj
    rw [List.foldl_cons, ih (Dev.holdsAll_expireSet h) hl, Dev.entry_expireSet hy, if_neg hk]

/-- How many sets of a list have a segment on a cartridge. -/
def Dev.namedBy (d : Dev) (l : List SetIx) (j : CartIx) : Nat := (l.filter fun k => (d.set? k).any (·.onCart j)).length

/-- R10: the live set count of a cartridge falls by the number of the list's sets that have a segment on it. -/
theorem Dev.cart_foldl_expireSet {l : List SetIx} {d : Dev} (h : d.holdsAll l) (j : CartIx) :
    (l.foldl Dev.expireSet d).cart j = (d.cart j).map fun x => { x with live := x.live - d.namedBy l j } := by
  induction l generalizing d with
  | nil => simp [Dev.namedBy]
  | cons k l ih =>
    obtain ⟨y, hy⟩ := Option.isSome_iff_exists.mp (h k (by simp))
    have named : (d.expireSet k).namedBy l j = d.namedBy l j := by
      unfold Dev.namedBy
      congr 2
      funext m
      rw [Dev.set?_expireSet hy]
      split
      · next hm => subst hm; simp [hy, BackupSet.onCart]
      · rfl
    have step : d.namedBy (k :: l) j = (if y.onCart j then 1 else 0) + d.namedBy l j := by
      unfold Dev.namedBy
      by_cases hon : y.onCart j = true <;> simp [hy, hon, Nat.add_comm]
    rw [List.foldl_cons, ih (Dev.holdsAll_expireSet h), named, Dev.cart_expireSet hy, step]
    simp [Function.comp_def, Nat.sub_sub]

/-! ### The live sets of a cartridge -/

theorem Dev.mem_liveSetsOn {d : Dev} {i : CartIx} {k : SetIx} :
    k ∈ d.liveSetsOn i ↔ ∃ y, d.set? k = some y ∧ y.isLive = true ∧ y.onCart i = true := by
  simp [Dev.liveSetsOn, mem_allSets, Option.any_eq_true]

theorem Dev.holdsAll_liveSetsOn (d : Dev) (i : CartIx) : d.holdsAll (d.liveSetsOn i) := by
  intro k hk
  obtain ⟨y, hy, -⟩ := Dev.mem_liveSetsOn.mp hk
  simp [hy]

/-- Every live set on a cartridge has a segment there. -/
theorem Dev.namedBy_liveSetsOn (d : Dev) (i : CartIx) : d.namedBy (d.liveSetsOn i) i = (d.liveSetsOn i).length := by
  unfold Dev.namedBy
  rw [List.filter_eq_self.mpr]
  intro k hk
  obtain ⟨y, hy, -, hon⟩ := Dev.mem_liveSetsOn.mp hk
  simp [hy, hon]

/-- R26, step 1: the device after the expiry of every live set on a cartridge. -/
def Dev.setsExpired (d : Dev) (i : CartIx) : Dev := (d.liveSetsOn i).foldl Dev.expireSet d

theorem Dev.setsExpired_frame (d : Dev) (i : CartIx) : d.TablesOnly (d.setsExpired i) := Dev.foldl_expireSet_frame _ d

theorem Dev.set?_setsExpired {d : Dev} {i : CartIx} {k : SetIx} {y : BackupSet} (h : d.set? k = some y) :
    (d.setsExpired i).set? k = some (if y.isLive && y.onCart i then { y with state := .expired } else y) := by
  have hmem : k ∈ d.liveSetsOn i ↔ (y.isLive && y.onCart i) = true := by simp [Dev.mem_liveSetsOn, h]
  rw [Dev.setsExpired, Dev.set?_foldl_expireSet (d.holdsAll_liveSetsOn i), h, Option.map_some]
  simp only [hmem]

theorem Dev.entry_setsExpired {d : Dev} {i : CartIx} {k : SetIx} (h : d.set? k = none) :
    (d.setsExpired i).entry k = d.entry k :=
  Dev.entry_foldl_expireSet (d.holdsAll_liveSetsOn i) (by simp [Dev.mem_liveSetsOn, h])

theorem Dev.set?_setsExpired_none {d : Dev} {i : CartIx} {k : SetIx} (h : d.set? k = none) : (d.setsExpired i).set? k = none := by
  unfold Dev.set? at h ⊢
  rwa [Dev.entry_setsExpired (by unfold Dev.set?; exact h)]

theorem Dev.cart_setsExpired (d : Dev) (i j : CartIx) :
    (d.setsExpired i).cart j = (d.cart j).map fun x => { x with live := x.live - d.namedBy (d.liveSetsOn i) j } :=
  Dev.cart_foldl_expireSet (d.holdsAll_liveSetsOn i) j

/-- R26: after the expiry no live set is left on the cartridge. -/
theorem Dev.liveSetsOn_setsExpired (d : Dev) (i : CartIx) : (d.setsExpired i).liveSetsOn i = [] := by
  refine List.eq_nil_iff_forall_not_mem.mpr fun k hk => ?_
  obtain ⟨y, hy, hlive, hon⟩ := Dev.mem_liveSetsOn.mp hk
  cases hx : d.set? k with
  | none => rw [Dev.set?_setsExpired_none hx] at hy; simp at hy
  | some x =>
    rw [Dev.set?_setsExpired hx] at hy
    by_cases h : (x.isLive && x.onCart i) = true
    · rw [if_pos h] at hy
      obtain rfl := Option.some.inj hy
      simp [BackupSet.isLive] at hlive
    · rw [if_neg h] at hy
      obtain rfl := Option.some.inj hy
      exact h (by simp [hlive, hon])

theorem Dev.liveSetsOn_of_sets {d e : Dev} (h : e.cat.sets = d.cat.sets) (i : CartIx) : e.liveSetsOn i = d.liveSetsOn i := by
  have hs : e.set? = d.set? := funext (Dev.set?_of_sets h)
  simp only [Dev.liveSetsOn, hs]

/-! ### RECYCLE and ERASE -/

/-- R26, R27: the entry of a cartridge that returns to SCRATCH. -/
def Cart.scratched (x : Cart) : Cart := { x with state := .scratch, endPos := 0, written := 0 }

theorem Dev.recycleCart_eq {d : Dev} {i : CartIx} {x : Cart} (h : d.cart i = some x) (hs : x.state ≠ .scratch) :
    d.recycleCart i = ((d.setsExpired i).modCart i Cart.scratched).reselect := by
  rw [Dev.recycleCart, if_neg (by simp [h, hs])]; rfl

/-- Settles O23: a RECYCLE is the expiry of the cartridge's live sets and one change of its entry. -/
theorem recycledCartridgeIsScratchAndItsSetsExpired : Obligations.RecycledCartridgeIsScratchAndItsSetsExpired := by
  intro d i x hx hs _ _
  rw [Dev.recycleCart_eq hx hs]
  have frame : d.TablesOnly ((d.setsExpired i).modCart i Cart.scratched).reselect :=
    ((d.setsExpired_frame i).trans (.modCart ..)).trans (.reselect _)
  have hsets : ((d.setsExpired i).modCart i Cart.scratched).reselect.cat.sets = (d.setsExpired i).cat.sets := by simp
  refine ⟨?_, ?_, fun k y hy => ?_, fun k hk => ?_, fun j hj => ?_, frame.places, frame.live, frame.staged, frame.day, frame.nextSet,
    frame.cfg, frame.smc, frame.waitList, frame.lines, frame.mqu, frame.ch, frame.pa, frame.pb, frame.pp, frame.slots, frame.newest⟩
  · rw [Dev.cart_reselect, Dev.cart_modCart_same, Dev.cart_setsExpired, hx, Dev.namedBy_liveSetsOn]; rfl
  · rw [Dev.liveSetsOn_of_sets hsets, Dev.liveSetsOn_setsExpired]
  · rw [Dev.set?_of_sets hsets, Dev.set?_setsExpired hy]
  · rw [Dev.entry_of_sets hsets, Dev.entry_setsExpired hk]
  · rw [Dev.cart_reselect, Dev.cart_modCart_of_ne _ _ hj, Dev.cart_setsExpired]; rfl

/-- R27: the entry that an ERASE leaves. -/
def Cart.erased (x : Cart) : Cart :=
  { x with state := .scratch, endPos := 0, written := 0, suspect := false, writeProt := false }

/-- R27: the device before an ERASE frees the entry of an ABSENT cartridge. -/
def Dev.erasedAt (d : Dev) (i : CartIx) : Dev := ((d.setsExpired i).modCart i Cart.erased).reselect

theorem Dev.erasedAt_frame (d : Dev) (i : CartIx) : d.TablesOnly (d.erasedAt i) :=
  ((d.setsExpired_frame i).trans (.modCart ..)).trans (.reselect _)

theorem Dev.erasedAt_sets (d : Dev) (i : CartIx) : (d.erasedAt i).cat.sets = (d.setsExpired i).cat.sets := by simp [Dev.erasedAt]

theorem Dev.cart_erasedAt_same {d : Dev} {i : CartIx} {x : Cart} (h : d.cart i = some x) :
    (d.erasedAt i).cart i = some { x with
      state := .scratch, endPos := 0, written := 0, suspect := false, writeProt := false, live := x.live - (d.liveSetsOn i).length } := by
  rw [Dev.erasedAt, Dev.cart_reselect, Dev.cart_modCart_same, Dev.cart_setsExpired, h, Dev.namedBy_liveSetsOn]; rfl

theorem Dev.cart_erasedAt_of_ne (d : Dev) {i j : CartIx} (h : j ≠ i) :
    (d.erasedAt i).cart j = (d.cart j).map fun y => { y with live := y.live - d.namedBy (d.liveSetsOn i) j } := by
  rw [Dev.erasedAt, Dev.cart_reselect, Dev.cart_modCart_of_ne _ _ h, Dev.cart_setsExpired]

/-- R27: a cartridge at a place keeps its entry. -/
theorem Dev.eraseCart_of_located {d : Dev} {i : CartIx} {x : Cart} (h : d.cart i = some x) (hl : x.location ≠ none) :
    d.eraseCart i = d.erasedAt i := by
  have unfolded : d.eraseCart i = match (d.erasedAt i).cart i with
    | some x => if x.location.isNone then (((d.erasedAt i).putCart i none).modMqu fun m => m.entryFreed i x.label).push .orders
      else d.erasedAt i
    | none => d.erasedAt i := rfl
  rw [unfolded, Dev.cart_erasedAt_same h]
  simp [hl]

/-- R27: the entry of an ABSENT cartridge is freed, and MQU is told. -/
theorem Dev.eraseCart_of_absent {d : Dev} {i : CartIx} {x : Cart} (h : d.cart i = some x) (hl : x.location = none) :
    d.eraseCart i = (((d.erasedAt i).putCart i none).modMqu fun m => m.entryFreed i x.label).push .orders := by
  have unfolded : d.eraseCart i = match (d.erasedAt i).cart i with
    | some x => if x.location.isNone then (((d.erasedAt i).putCart i none).modMqu fun m => m.entryFreed i x.label).push .orders
      else d.erasedAt i
    | none => d.erasedAt i := rfl
  rw [unfolded, Dev.cart_erasedAt_same h]
  simp [hl]

/-- R27: the tables and the fields that an ERASE leaves, the freed entry apart. -/
theorem Dev.eraseCart_sets {d : Dev} {i : CartIx} {x : Cart} (h : d.cart i = some x) :
    (d.eraseCart i).cat.sets = (d.setsExpired i).cat.sets := by
  by_cases hl : x.location = none
  · rw [Dev.eraseCart_of_absent h hl]; simp [Dev.erasedAt_sets]
  · rw [Dev.eraseCart_of_located h hl, Dev.erasedAt_sets]

theorem Dev.cart_eraseCart_of_ne {d : Dev} {i j : CartIx} {x : Cart} (h : d.cart i = some x) (hj : j ≠ i) :
    (d.eraseCart i).cart j = (d.erasedAt i).cart j := by
  by_cases hl : x.location = none
  · have : (d.eraseCart i).cart j = ((d.erasedAt i).putCart i none).cart j := by
      rw [Dev.eraseCart_of_absent h hl]; exact Dev.cart_congr (by simp) j
    rw [this, Dev.cart_putCart_none, if_neg hj]
  · rw [Dev.eraseCart_of_located h hl]

/-- R27: what an ERASE leaves as it was: everything but the tables, and what MQU keeps of a freed entry. -/
theorem Dev.eraseCart_keeps {d : Dev} {i : CartIx} {x : Cart} (h : d.cart i = some x) :
    let e := d.eraseCart i
    e.cat.places = d.cat.places ∧ e.cat.live = d.cat.live ∧ e.cat.staged = d.cat.staged ∧ e.cat.day = d.cat.day ∧
    e.cat.nextSet = d.cat.nextSet ∧ e.cfg = d.cfg ∧ e.smc = d.smc ∧ e.waitList = d.waitList ∧ e.lines = d.lines ∧
    e.mqu = (if x.location = none then d.mqu.entryFreed i x.label else d.mqu) ∧
    e.ch = d.ch ∧ e.pa = d.pa ∧ e.pb = d.pb ∧ e.pp = d.pp ∧ e.cst.slots = d.cst.slots ∧ e.cst.newest = d.cst.newest := by
  have kept := d.erasedAt_frame i
  by_cases hl : x.location = none
  · have freed := kept.trans (.putCart (d.erasedAt i) i none)
    rw [Dev.eraseCart_of_absent h hl, if_pos hl]
    simp only [Dev.push_cat, Dev.push_cfg, Dev.push_smc, Dev.push_waitList, Dev.push_lines, Dev.push_mqu, Dev.push_ch, Dev.push_pa,
      Dev.push_pb, Dev.push_pp, Dev.push_cst, Dev.modMqu_cat, Dev.modMqu_cfg, Dev.modMqu_smc, Dev.modMqu_waitList, Dev.modMqu_lines,
      Dev.modMqu_mqu, Dev.modMqu_ch, Dev.modMqu_pa, Dev.modMqu_pb, Dev.modMqu_pp, Dev.modMqu_cst]
    exact ⟨freed.places, freed.live, freed.staged, freed.day, freed.nextSet, freed.cfg, freed.smc, freed.waitList, freed.lines,
      congrArg (·.entryFreed i x.label) freed.mqu, freed.ch, freed.pa, freed.pb, freed.pp, freed.slots, freed.newest⟩
  · rw [Dev.eraseCart_of_located h hl, if_neg hl]
    exact ⟨kept.places, kept.live, kept.staged, kept.day, kept.nextSet, kept.cfg, kept.smc, kept.waitList, kept.lines, kept.mqu, kept.ch,
      kept.pa, kept.pb, kept.pp, kept.slots, kept.newest⟩

/-! ### Their checks -/

theorem Dev.byLabel_congr {d e : Dev} (h : e.cat = d.cat) (l : Label) : e.byLabel l = d.byLabel l := by
  have hc : e.cart = d.cart := funext (Dev.cart_congr h)
  simp only [Dev.byLabel, hc]

theorem Dev.cartBusy_congr {d e : Dev} (h : e.cat = d.cat) (hc : e.ch = d.ch) (i : CartIx) : e.cartBusy i = d.cartBusy i := by
  simp only [Dev.cartBusy, Dev.cart_congr h, Dev.sessionCartOf, Dev.sess, Dev.chan, hc]

theorem Dev.setInUseOn_congr {d e : Dev} (h : e.cat = d.cat) (i : CartIx) : e.setInUseOn i = d.setInUseOn i := by
  have hs : e.set? = d.set? := funext (Dev.set?_congr h)
  simp only [Dev.setInUseOn, hs]

/-- R26: a RECYCLE that passes its checks is carried out and answered OK. -/
theorem Dev.recycle_taken {d : Dev} {r : ReqId} {l : Label} {i : CartIx} {x : Cart} (hl : d.byLabel l = some i)
    (hx : d.cart i = some x) (ha : (d.cat.live.pool x.pool).allows r.port = true) (hf : x.state ≠ .foreign)
    (hb : d.cartBusy i = false) (hu : d.setInUseOn i = false) (hr : (d.cat.live.pool x.pool).kind = .retained →
      ∀ e ∈ d.liveSetsOn i, ∀ y, d.set? e = some y → y.expiry ≤ d.cat.day) :
    d.recycle r l = (d.recycleCart i).answer r .ok := by
  have kept : ¬ ((d.cat.live.pool x.pool).kind = .retained ∧
      (d.liveSetsOn i).any fun e => (d.set? e).any fun y => d.cat.day < y.expiry) := by
    rintro ⟨hk, hany⟩
    obtain ⟨e, he, hday⟩ := List.any_eq_true.mp hany
    obtain ⟨y, hy, hlt⟩ := (Option.any_eq_true _ _).mp hday
    have := hr hk e he y hy
    simp only [decide_eq_true_eq] at hlt
    omega
  simp only [Dev.recycle, hl, hx]
  rw [if_neg (by simp [ha]), if_neg hf, if_neg (by simp [hb]), if_neg (by simp [hu]), if_neg kept]

/-- R27: an ERASE that passes its checks is carried out and answered OK. -/
theorem Dev.erase_taken {d : Dev} {r : ReqId} {n : Nat} {i : CartIx} {x : Cart} (hn : n = i.val) (hx : d.cart i = some x)
    (hb : d.cartBusy i = false) (hu : d.setInUseOn i = false) : d.erase r n = (d.eraseCart i).answer r .ok := by
  subst hn
  rw [Dev.erase, dif_pos i.isLt]
  simp [hx, hb, hu]

/-- Settles O22: the checks pass on the device the request has joined, whose catalogue and sessions are the old ones; an ERASE is the
expiry of the cartridge's live sets, one change of its entry and, for an ABSENT cartridge, the freeing of it. -/
theorem recycleAndEraseAreTaken : Obligations.RecycleAndEraseAreTaken := by
  refine ⟨fun s f i x ht hx hb hu => ⟨fun l hl hi ha hf hr => ?_, fun n hp hn hni => ?_⟩, fun d i x hx _ _ => ?_⟩
  · have hcat : (s.dev.begin.joined f .recycle).cat = s.dev.cat := by simp
    have hch : (s.dev.begin.joined f .recycle).ch = s.dev.ch := by simp
    rw [exec_recycle, State.does_arrive _ _ ht, hl, Dev.withForm_some]
    rw [Dev.recycle_taken ((Dev.byLabel_congr hcat l).trans hi) ((Dev.cart_congr hcat i).trans hx) (by rw [hcat]; exact ha) hf
      ((Dev.cartBusy_congr hcat hch i).trans hb) ((Dev.setInUseOn_congr hcat i).trans hu) ?_]
    rw [hcat, Dev.liveSetsOn_of_sets (congrArg _ hcat)]
    intro hk e he y hy
    exact hr hk e he y (by rw [← hy, Dev.set?_congr hcat])
  · have hcat : (s.dev.begin.joined f .erase).cat = s.dev.cat := by simp
    have hch : (s.dev.begin.joined f .erase).ch = s.dev.ch := by simp
    rw [exec_erase, State.does_arrive _ _ ht, hn, parseByte_single, Dev.withForm_some, Dev.panelOnly_panel _ _ _ hp]
    rw [Dev.erase_taken hni ((Dev.cart_congr hcat i).trans hx) ((Dev.cartBusy_congr hcat hch i).trans hb)
      ((Dev.setInUseOn_congr hcat i).trans hu)]
  · have hsets := Dev.eraseCart_sets hx
    refine ⟨fun hl => ?_, fun hl => ?_, ?_, fun k y hy => ?_, fun k hk => ?_, fun j hj => ?_, Dev.eraseCart_keeps hx⟩
    · rw [Dev.eraseCart_of_located hx hl, Dev.cart_erasedAt_same hx]
    · have : (d.eraseCart i).cart i = ((d.erasedAt i).putCart i none).cart i := by
        rw [Dev.eraseCart_of_absent hx hl]; exact Dev.cart_congr (by simp) i
      rw [this, Dev.cart_putCart_none, if_pos rfl]
    · rw [Dev.liveSetsOn_of_sets hsets, Dev.liveSetsOn_setsExpired]
    · rw [Dev.set?_of_sets hsets, Dev.set?_setsExpired hy]
    · rw [Dev.entry_of_sets hsets, Dev.entry_setsExpired hk]
    · rw [Dev.cart_eraseCart_of_ne hx hj, Dev.cart_erasedAt_of_ne d hj]; rfl

end Sys2Proof.Machine
end

section
/-! The choice of set numbers and entries (R20, R21) and of target cartridges (R24, R25). -/

namespace Sys2Proof.Machine

/-! ### The lowest of a table's entries -/

theorem find?_allSets_eq_some {p : SetIx → Bool} {k : SetIx} :
    allSets.find? p = some k ↔ p k = true ∧ ∀ j, j < k → p j = false := by
  rw [allSets, ← Fin.find?_eq_find?_finRange, Fin.find?_eq_some_iff]

theorem find?_allSets_eq_none {p : SetIx → Bool} : allSets.find? p = none ↔ ∀ k, p k = false := by
  rw [allSets, ← Fin.find?_eq_find?_finRange, Fin.find?_eq_none_iff]

theorem find?_allCarts_eq_some {p : CartIx → Bool} {i : CartIx} :
    allCarts.find? p = some i ↔ p i = true ∧ ∀ j, j < i → p j = false := by
  rw [allCarts, ← Fin.find?_eq_find?_finRange, Fin.find?_eq_some_iff]

theorem find?_allCarts_eq_none {p : CartIx → Bool} : allCarts.find? p = none ↔ ∀ i, p i = false := by
  rw [allCarts, ← Fin.find?_eq_find?_finRange, Fin.find?_eq_none_iff]

/-! ### Set numbers (R21) -/

/-- R21: the number after a number, stepping from 65,535 to 1. -/
def nextNumber (n : Nat) : Nat := if n = 65535 then 1 else n + 1

/-- R21: the numbers from `n` on are distinct until they come round. -/
theorem iterate_nextNumber {n : Nat} (h : 1 ≤ n ∧ n ≤ 65535) (k : Nat) : nextNumber^[k] n = (n - 1 + k) % 65535 + 1 := by
  induction k with
  | zero => simp only [Function.iterate_zero, id]; omega
  | succ k ih => rw [Function.iterate_succ_apply', ih, nextNumber]; split <;> omega

theorem iterate_nextNumber_bounds {n : Nat} (h : 1 ≤ n ∧ n ≤ 65535) (k : Nat) :
    1 ≤ nextNumber^[k] n ∧ nextNumber^[k] n ≤ 65535 := by
  rw [iterate_nextNumber h]; omega

/-- R21: the search ends at the first number no live set holds, unless it has found a live set for every number it tried. -/
theorem Dev.numberFrom_eq (d : Dev) (fuel n : Nat) :
    (∃ k, d.numberFrom fuel n = nextNumber^[k] n ∧ d.liveSet (nextNumber^[k] n) = none) ∨
      ∀ k, k < fuel → (d.liveSet (nextNumber^[k] n)).isSome = true := by
  induction fuel generalizing n with
  | zero => right; intro k hk; omega
  | succ fuel ih =>
    have unfolded : d.numberFrom (fuel + 1) n = if (d.liveSet n).isSome then d.numberFrom fuel (nextNumber n) else n := rfl
    rw [unfolded]
    by_cases hn : (d.liveSet n).isSome = true
    · rw [if_pos hn]
      rcases ih (nextNumber n) with ⟨k, hk, hfree⟩ | hall
      · exact .inl ⟨k + 1, by rw [hk, Function.iterate_succ_apply], by rwa [Function.iterate_succ_apply]⟩
      · right
        intro k hk
        cases k with
        | zero => exact hn
        | succ k => rw [Function.iterate_succ_apply]; exact hall k (by omega)
    · rw [if_neg hn]
      exact .inl ⟨0, rfl, by simpa using hn⟩

/-- R21: the live set that holds a number holds that number alone. -/
theorem Dev.number_of_liveSet {d : Dev} {n : Nat} {k : SetIx} (h : d.liveSet n = some k) : (d.set? k).map (·.number) = some n := by
  have := (find?_allSets_eq_some.mp h).1
  cases hy : d.set? k <;> simp_all

/-- R21: 257 numbers on end cannot all be held, for the table has 256 entries. -/
theorem Dev.exists_unheld (d : Dev) {n : Nat} (h : 1 ≤ n ∧ n ≤ 65535) :
    ¬ ∀ k, k < 257 → (d.liveSet (nextNumber^[k] n)).isSome = true := by
  intro hall
  let holder (k : Fin 257) : SetIx := (d.liveSet (nextNumber^[k.val] n)).get (hall k.val k.isLt)
  obtain ⟨a, b, hab, heq⟩ := Fintype.exists_ne_map_eq_of_card_lt holder (by simp)
  have held (k : Fin 257) : (d.set? (holder k)).map (·.number) = some (nextNumber^[k.val] n) :=
    Dev.number_of_liveSet (Option.some_get _).symm
  have hnum : nextNumber^[a.val] n = nextNumber^[b.val] n := Option.some.inj (by rw [← held a, ← held b, heq])
  rw [iterate_nextNumber h, iterate_nextNumber h] at hnum
  exact hab (Fin.ext (by omega))

/-- R21: the number a new set is given is in range, and no live set holds it. -/
theorem Dev.numberFrom_fresh {d : Dev} {n : Nat} (h : 1 ≤ n ∧ n ≤ 65535) :
    (1 ≤ d.numberFrom 257 n ∧ d.numberFrom 257 n ≤ 65535) ∧ d.liveSet (d.numberFrom 257 n) = none := by
  rcases d.numberFrom_eq 257 n with ⟨k, hk, hfree⟩ | hall
  · rw [hk]; exact ⟨iterate_nextNumber_bounds h k, hfree⟩
  · exact absurd hall (d.exists_unheld h)

/-! ### The entry of a new set (R20) -/

theorem Dev.freeEntry_eq (d : Dev) : d.freeEntry =
    (allSets.find? fun k => (d.entry k).isFree).orElse fun _ => allSets.find? fun k => d.entry k = .lost := by
  have unfolded : d.freeEntry = match allSets.find? fun k => (d.entry k).isFree with
    | some k => some k
    | none => allSets.find? fun k => d.entry k = .lost := rfl
  rw [unfolded]
  cases allSets.find? fun k => (d.entry k).isFree <;> rfl

/-- Settles O27: a search of 257 numbers meets one that none of 256 entries holds; the entry is the first found. -/
theorem newSetTakesAFreshNumberAndTheLowestEntry : Obligations.NewSetTakesAFreshNumberAndTheLowestEntry := by
  intro d h1 h2
  obtain ⟨hrange, hfree⟩ := d.numberFrom_fresh ⟨h1, h2⟩
  refine ⟨⟨hrange, hfree, by rw [Dev.allocNumber, Dev.dirty_cat, Dev.modCat_cat]⟩, fun e he => ?_⟩
  rw [Dev.freeEntry_eq] at he
  cases hf : allSets.find? fun k => (d.entry k).isFree with
  | some k =>
    rw [hf] at he
    obtain rfl := Option.some.inj he
    exact .inl (find?_allSets_eq_some.mp hf)
  | none =>
    rw [hf, Option.orElse_none] at he
    obtain ⟨hlost, hbelow⟩ := find?_allSets_eq_some.mp he
    exact .inr ⟨by simpa using hlost, find?_allSets_eq_none.mp hf, fun k hk => by simpa using hbelow k hk⟩

/-! ### The best of a list (R24, R25) -/

/-- An order of ranks: of any two one comes first, and it is transitive. -/
structure Ranks {α : Type} (le : α → α → Bool) : Prop where
  total : ∀ x y, le x y = true ∨ le y x = true
  trans : ∀ x y z, le x y = true → le y z = true → le x z = true

theorem firstLeast_eq_none {α : Type} {le : α → α → Bool} {l : List α} : firstLeast le l = none ↔ l = [] := by
  cases l with
  | nil => simp [firstLeast]
  | cons x l =>
    simp only [firstLeast]
    split <;> [simp; (split <;> simp)]

/-- The entry taken from a rising list ranks first, and is the lowest of those that rank with it. -/
theorem firstLeast_spec {α : Type} [LinearOrder α] {le : α → α → Bool} (hle : Ranks le) {l : List α} (hl : l.Pairwise (· < ·)) {x : α}
    (h : firstLeast le l = some x) : x ∈ l ∧ ∀ y ∈ l, le x y = true ∧ (le y x = true → x ≤ y) := by
  have refl (z : α) : le z z = true := (hle.total z z).elim id id
  induction l generalizing x with
  | nil => simp [firstLeast] at h
  | cons a l ih =>
    obtain ⟨habove, hl⟩ := List.pairwise_cons.mp hl
    simp only [firstLeast] at h
    split at h
    · next hnone =>
      obtain rfl := firstLeast_eq_none.mp hnone
      obtain rfl := Option.some.inj h
      simp [refl]
    · next b hb =>
      obtain ⟨hmem, hbest⟩ := ih hl hb
      split at h
      · next hab =>
        obtain rfl := Option.some.inj h
        refine ⟨by simp, fun y hy => ?_⟩
        rcases List.mem_cons.mp hy with rfl | hy
        · exact ⟨refl _, fun _ => le_refl _⟩
        · exact ⟨hle.trans _ _ _ hab (hbest y hy).1, fun _ => (habove y hy).le⟩
      · next hab =>
        obtain rfl := Option.some.inj h
        refine ⟨by simp [hmem], fun y hy => ?_⟩
        rcases List.mem_cons.mp hy with rfl | hy
        · exact ⟨(hle.total _ _).resolve_left hab, fun hya => absurd hya hab⟩
        · exact hbest y hy

/-- The registered entries that pass a test, in their order. -/
theorem filter_allCarts_pairwise (p : CartIx → Bool) : (allCarts.filter p).Pairwise (· < ·) :=
  (List.pairwise_lt_finRange 64).filter p

theorem Dev.loads_ranks (d : Dev) : Ranks fun i j => decide (d.loadsOf i ≤ d.loadsOf j) where
  total x y := by simpa using Nat.le_total _ _
  trans x y z := by simpa using Nat.le_trans

/-- R25: first by the latest expiry day, then by the load count. -/
theorem Dev.recycle_ranks (d : Dev) : Ranks fun i j =>
    decide (d.recycleRank i < d.recycleRank j) || (decide (d.recycleRank i = d.recycleRank j) && decide (d.loadsOf i ≤ d.loadsOf j)) where
  total x y := by simp only [Bool.or_eq_true, Bool.and_eq_true, decide_eq_true_eq]; omega
  trans x y z := by simp only [Bool.or_eq_true, Bool.and_eq_true, decide_eq_true_eq]; omega

/-- R24, step 3. -/
theorem Dev.pickScratch_spec {d : Dev} {c : Chan} {h k : Nat} {i : CartIx} (hp : d.pickScratch c h k = some i) :
    (d.candidate c h k i = true ∧ (d.cart i).any (·.state = .scratch) = true) ∧
      ∀ j, d.candidate c h k j = true ∧ (d.cart j).any (·.state = .scratch) = true →
        d.loadsOf i < d.loadsOf j ∨ (d.loadsOf i = d.loadsOf j ∧ i ≤ j) := by
  obtain ⟨hmem, hbest⟩ := firstLeast_spec d.loads_ranks (filter_allCarts_pairwise _) hp
  refine ⟨by simpa using (List.mem_filter.mp hmem).2, fun j hj => ?_⟩
  obtain ⟨hle, hlow⟩ := hbest j (List.mem_filter.mpr ⟨mem_allCarts j, by simpa using hj⟩)
  simp only [decide_eq_true_eq] at hle hlow
  rcases Nat.lt_or_eq_of_le hle with hlt | heq
  · exact .inl hlt
  · exact .inr ⟨heq, hlow heq.ge⟩

theorem Dev.pickScratch_none {d : Dev} {c : Chan} {h k : Nat}
    (hno : ∀ i, d.candidate c h k i = true → (d.cart i).any (·.state = .scratch) = false) : d.pickScratch c h k = none := by
  refine firstLeast_eq_none.mpr (List.filter_eq_nil_iff.mpr fun i _ => ?_)
  simpa using hno i

/-- R25: the ranking of the cartridge auto-recycle takes. -/
theorem Dev.pickRecycle_spec {d : Dev} {c : Chan} {k : Nat} {i : CartIx} (hp : d.pickRecycle c k = some i) :
    d.recyclable c k i = true ∧ ∀ j, d.recyclable c k j = true →
      d.recycleRank i < d.recycleRank j ∨ (d.recycleRank i = d.recycleRank j ∧
        (d.loadsOf i < d.loadsOf j ∨ (d.loadsOf i = d.loadsOf j ∧ i ≤ j))) := by
  obtain ⟨hmem, hbest⟩ := firstLeast_spec d.recycle_ranks (filter_allCarts_pairwise _) hp
  refine ⟨(List.mem_filter.mp hmem).2, fun j hj => ?_⟩
  obtain ⟨hle, hlow⟩ := hbest j (List.mem_filter.mpr ⟨mem_allCarts j, hj⟩)
  simp only [Bool.or_eq_true, Bool.and_eq_true, decide_eq_true_eq] at hle hlow
  rcases hle with hlt | ⟨hrank, hloads⟩
  · exact .inl hlt
  · rcases Nat.lt_or_eq_of_le hloads with hlt | heq
    · exact .inr ⟨hrank, .inl hlt⟩
    · exact .inr ⟨hrank, .inr ⟨heq, hlow (.inr ⟨hrank.symm, heq.ge⟩)⟩⟩

theorem Dev.pickRecycle_none {d : Dev} {c : Chan} {k : Nat} (hno : ∀ i, d.recyclable c k i = false) : d.pickRecycle c k = none :=
  firstLeast_eq_none.mpr (List.filter_eq_nil_iff.mpr fun i _ => by simp [hno i])

/-- R25: what a cartridge that can be auto-recycled is, but for its place and the sessions. -/
theorem Dev.recyclable_spec {d : Dev} {c : Chan} {k : Nat} {i : CartIx} (h : d.recyclable c k i = true) :
    (∃ x, d.cart i = some x ∧ x.pool = k ∧ x.claim = none ∧ (x.state = .active ∨ x.state = .full) ∧ x.suspect = false ∧
      x.writeProt = false ∧ x.retired = false) ∧ (d.cat.live.pool k).kind = .rotation ∧ d.setInUseOn i = false ∧
      ∀ e ∈ d.liveSetsOn i, ∀ y, d.set? e = some y → y.expiry ≤ d.cat.day := by
  unfold Dev.recyclable at h
  split at h
  · exact absurd h (by simp)
  · next x hx =>
    simp only [Bool.and_eq_true, Bool.or_eq_true, Bool.not_eq_true', decide_eq_true_eq, List.all_eq_true, Option.isNone_iff_eq_none] at h
    obtain ⟨⟨⟨⟨⟨⟨⟨⟨⟨⟨hpool, hkind⟩, -⟩, hsuspect⟩, hprot⟩, hretired⟩, hstate⟩, hclaim⟩, -⟩, huse⟩, hdays⟩ := h
    refine ⟨⟨x, hx, hpool, hclaim, hstate, hsuspect, hprot, hretired⟩, hkind, huse, fun e he y hy => ?_⟩
    simpa [hy] using hdays e he

/-- R26: no set with a segment on the cartridge is in use. -/
theorem Dev.setInUseOn_eq_false {d : Dev} {i : CartIx} :
    d.setInUseOn i = false ↔ ∀ e y, d.set? e = some y → y.onCart i = true → y.inUse = none := by
  simp only [Dev.setInUseOn, List.any_eq_false, mem_allSets, forall_const]
  refine forall_congr' fun e => ?_
  cases d.set? e <;> simp

/-- R24: the steps of a selection, one after the other. -/
theorem Dev.pickTarget_new (d : Dev) (c : Chan) (h k : Nat) : d.pickTarget c h k false =
    ((d.pickMounted c h k).orElse fun _ => allCarts.find? fun i => d.candidate c h k i && (d.cart i).any (·.state = .active)).orElse
      fun _ => d.pickTarget c h k true := by
  simp only [Dev.pickTarget]
  cases d.pickMounted c h k with
  | some i => rfl
  | none => cases allCarts.find? fun i => d.candidate c h k i && (d.cart i).any (·.state = .active) <;> rfl

theorem Dev.pickTarget_continuation (d : Dev) (c : Chan) (h k : Nat) : d.pickTarget c h k true =
    (d.pickScratch c h k).orElse fun _ => if (d.cat.live.pool k).kind = .rotation then d.pickRecycle c k else none := by
  simp only [Dev.pickTarget]
  cases d.pickScratch c h k <;> rfl

theorem Dev.pickMounted_of_mounted {d : Dev} {c : Chan} {h k : Nat} {i : CartIx} (hm : (d.drive c).mounted = .cart i) :
    d.pickMounted c h k = if d.candidate c h k i && (d.cart i).any (·.state = .active) then some i else none := by
  simp [Dev.pickMounted, hm]

/-- R24, step 1: what is mounted is taken only when it is an ACTIVE candidate. -/
theorem Dev.pickMounted_none {d : Dev} {c : Chan} {h k : Nat} (hno : ∀ j, (d.drive c).mounted = .cart j →
    ¬ (d.candidate c h k j = true ∧ (d.cart j).any (·.state = .active) = true)) : d.pickMounted c h k = none := by
  unfold Dev.pickMounted
  split
  · next i hi => rw [if_neg (by simpa using hno i hi)]
  · rfl

/-- Settles O28: each step of the selection by the step before it finding nothing, and the two rankings by their list's first. -/
theorem selectionTakesTheLeastWorn : Obligations.SelectionTakesTheLeastWorn := by
  refine ⟨fun d c h k => ?_, fun d c h k i hp => Dev.pickScratch_spec hp, fun d c k i hp => ?_⟩
  · refine ⟨fun i hm ha => ?_, fun i hm ha hlow => ?_, fun hno => ?_, Dev.pickTarget_continuation d c h k, Dev.pickScratch_none,
      Dev.pickRecycle_none⟩
    · rw [Dev.pickTarget_new, Dev.pickMounted_of_mounted hm, if_pos (by simpa using ha)]; rfl
    · have hfind : allCarts.find? (fun i => d.candidate c h k i && (d.cart i).any (·.state = .active)) = some i :=
        find?_allCarts_eq_some.mpr ⟨by simpa using ha, fun j hj => by simpa using hlow j hj⟩
      rw [Dev.pickTarget_new, Dev.pickMounted_none hm, hfind]; rfl
    · have hfind : allCarts.find? (fun i => d.candidate c h k i && (d.cart i).any (·.state = .active)) = none :=
        find?_allCarts_eq_none.mpr fun i => by simpa using hno i
      rw [Dev.pickTarget_new, Dev.pickMounted_none fun j _ => hno j, hfind, Dev.pickTarget_continuation]; rfl
  · obtain ⟨hrec, hrank⟩ := Dev.pickRecycle_spec hp
    obtain ⟨hcart, hkind, huse, hdays⟩ := Dev.recyclable_spec hrec
    exact ⟨hcart, hkind, fun e y hy hlive hon => ⟨hdays e (Dev.mem_liveSetsOn.mpr ⟨y, hy, hlive, hon⟩) y hy,
      Dev.setInUseOn_eq_false.mp huse e y hy hon⟩, hrank⟩

end Sys2Proof.Machine
end

section
/-! Places (R1, R2): what each operation leaves of every place, and the drive place after a STATUS answer. -/

namespace Sys2Proof.Machine

/-! ### The place table -/

theorem placeCode_lt (p : Place) : placeCode p < 28 := by
  cases p with
  | slot n => simp only [placeCode]; omega
  | mail m => simp only [placeCode]; omega
  | drive c => cases c <;> simp [placeCode]

theorem placeOfCode_placeCode (p : Place) : placeOfCode (placeCode p) = some p := by
  cases p with
  | slot n => simp [placeCode, placeOfCode]
  | mail m => have hm := m.isLt; simp [placeCode, placeOfCode]; omega
  | drive c => cases c <;> rfl

theorem placeCode_injective : Function.Injective placeCode := fun p q h =>
  Option.some.inj ((placeOfCode_placeCode p).symm.trans (h ▸ placeOfCode_placeCode q))

/-- R1: the place set reads as set, and every other place as before. -/
theorem Dev.place_setPlace_eq {d : Dev} (h : d.cat.places.length = 28) (p q : Place) (x : PlaceRec) :
    (d.setPlace p x).place q = if q = p then x else d.place q := by
  simp only [Dev.place, Dev.setPlace, Dev.modCat_cat, getD_set_of_lt _ _ _ _ (h ▸ placeCode_lt p), placeCode_injective.eq_iff]

@[simp] theorem Dev.setPlace_carts (d : Dev) (p : Place) (x : PlaceRec) : (d.setPlace p x).cat.carts = d.cat.carts := rfl
@[simp] theorem Dev.setPlace_sets (d : Dev) (p : Place) (x : PlaceRec) : (d.setPlace p x).cat.sets = d.cat.sets := rfl
@[simp] theorem Dev.setPlace_live (d : Dev) (p : Place) (x : PlaceRec) : (d.setPlace p x).cat.live = d.cat.live := rfl
@[simp] theorem Dev.setPlace_length (d : Dev) (p : Place) (x : PlaceRec) :
    (d.setPlace p x).cat.places.length = d.cat.places.length := by simp [Dev.setPlace]

theorem Dev.place_of_cat {d e : Dev} (h : e.cat = d.cat) (p : Place) : e.place p = d.place p := by simp [Dev.place, h]

/-- R1: an occupant is set in the place table, and what follows is noted; a drive place that becomes empty loses its settled mark. -/
theorem Dev.setOcc_cat (d : Dev) (p : Place) (o : Occupant) : (d.setOcc p o).cat = (d.setPlace p { d.place p with occ := o }).cat := by
  unfold Dev.setOcc; dsimp only; split <;> simp

theorem Dev.setConfirmed_cat (d : Dev) (p : Place) (v : Bool) :
    (d.setConfirmed p v).cat = (d.setPlace p { d.place p with confirmed := v }).cat := by
  simp [Dev.setConfirmed]

@[simp] theorem Dev.setOcc_carts (d : Dev) (p : Place) (o : Occupant) : (d.setOcc p o).cat.carts = d.cat.carts := by
  simp [Dev.setOcc_cat]
@[simp] theorem Dev.setOcc_sets (d : Dev) (p : Place) (o : Occupant) : (d.setOcc p o).cat.sets = d.cat.sets := by
  simp [Dev.setOcc_cat]
@[simp] theorem Dev.setOcc_live (d : Dev) (p : Place) (o : Occupant) : (d.setOcc p o).cat.live = d.cat.live := by
  simp [Dev.setOcc_cat]
@[simp] theorem Dev.setOcc_length (d : Dev) (p : Place) (o : Occupant) : (d.setOcc p o).cat.places.length = d.cat.places.length := by
  rw [Dev.setOcc_cat, Dev.setPlace_length]
@[simp] theorem Dev.setConfirmed_carts (d : Dev) (p : Place) (v : Bool) : (d.setConfirmed p v).cat.carts = d.cat.carts := by
  simp [Dev.setConfirmed_cat]
@[simp] theorem Dev.setConfirmed_sets (d : Dev) (p : Place) (v : Bool) : (d.setConfirmed p v).cat.sets = d.cat.sets := by
  simp [Dev.setConfirmed_cat]
@[simp] theorem Dev.setConfirmed_live (d : Dev) (p : Place) (v : Bool) : (d.setConfirmed p v).cat.live = d.cat.live := by
  simp [Dev.setConfirmed_cat]
@[simp] theorem Dev.setConfirmed_length (d : Dev) (p : Place) (v : Bool) :
    (d.setConfirmed p v).cat.places.length = d.cat.places.length := by
  rw [Dev.setConfirmed_cat, Dev.setPlace_length]

theorem Dev.place_setOcc {d : Dev} (h : d.cat.places.length = 28) (p q : Place) (o : Occupant) :
    (d.setOcc p o).place q = if q = p then { d.place p with occ := o } else d.place q := by
  rw [Dev.place_of_cat (Dev.setOcc_cat d p o), Dev.place_setPlace_eq h]

theorem Dev.place_setConfirmed {d : Dev} (h : d.cat.places.length = 28) (p q : Place) (v : Bool) :
    (d.setConfirmed p v).place q = if q = p then { d.place p with confirmed := v } else d.place q := by
  rw [Dev.place_of_cat (Dev.setConfirmed_cat d p v), Dev.place_setPlace_eq h]

theorem Dev.occ_setOcc {d : Dev} (h : d.cat.places.length = 28) (p q : Place) (o : Occupant) :
    (d.setOcc p o).occ q = if q = p then o else d.occ q := by
  unfold Dev.occ; rw [Dev.place_setOcc h]; split <;> rfl

theorem Dev.confirmed_setOcc {d : Dev} (h : d.cat.places.length = 28) (p q : Place) (o : Occupant) :
    (d.setOcc p o).confirmed q = d.confirmed q := by
  unfold Dev.confirmed; rw [Dev.place_setOcc h]; split <;> simp_all

theorem Dev.occ_setConfirmed {d : Dev} (h : d.cat.places.length = 28) (p q : Place) (v : Bool) :
    (d.setConfirmed p v).occ q = d.occ q := by
  unfold Dev.occ; rw [Dev.place_setConfirmed h]; split <;> simp_all

theorem Dev.confirmed_setConfirmed {d : Dev} (h : d.cat.places.length = 28) (p q : Place) (v : Bool) :
    (d.setConfirmed p v).confirmed q = if q = p then v else d.confirmed q := by
  unfold Dev.confirmed; rw [Dev.place_setConfirmed h]; split <;> rfl

@[simp] theorem Dev.cart_setOcc (d : Dev) (p : Place) (o : Occupant) (i : CartIx) : (d.setOcc p o).cart i = d.cart i :=
  Dev.cart_of_carts (Dev.setOcc_carts d p o) i
@[simp] theorem Dev.cart_setConfirmed (d : Dev) (p : Place) (v : Bool) (i : CartIx) : (d.setConfirmed p v).cart i = d.cart i :=
  Dev.cart_of_carts (Dev.setConfirmed_carts d p v) i

/-! ### A change of location (R1) -/

/-- R1: a cartridge that moves leaves the place its entry records, when that place records it. -/
def Dev.vacate (d : Dev) (i : CartIx) : Dev :=
  match (d.cart i).bind (·.location) with
  | some p => if d.occ p = Occupant.cart i then d.setOcc p .none else d
  | none => d

/-- R1: and is the occupant of the place it comes to. -/
def Dev.occupy (d : Dev) (i : CartIx) (dest : Option Place) : Dev :=
  match dest with
  | some p => d.setOcc p (.cart i)
  | none => d

theorem Dev.moveCart_eq (d : Dev) (i : CartIx) (dest : Option Place) : d.moveCart i dest =
    ((((d.vacate i).occupy i dest).modCart i fun x => { x with location := dest }).reselect).push .orders := rfl

theorem Dev.vacate_of_recorded {d : Dev} {i : CartIx} {x : Cart} {p : Place} (hx : d.cart i = some x) (hl : x.location = some p)
    (ho : d.occ p = .cart i) : d.vacate i = d.setOcc p .none := by
  simp [Dev.vacate, hx, hl, ho]

theorem Dev.vacate_cases (d : Dev) (i : CartIx) : d.vacate i = d ∨
    ∃ x p, d.cart i = some x ∧ x.location = some p ∧ d.occ p = .cart i ∧ d.vacate i = d.setOcc p .none := by
  unfold Dev.vacate
  split
  · next p hp =>
    obtain ⟨x, hx, hl⟩ := Option.bind_eq_some_iff.mp hp
    split
    · next ho => exact .inr ⟨x, p, hx, hl, ho, rfl⟩
    · exact .inl rfl
  · exact .inl rfl

@[simp] theorem Dev.vacate_carts (d : Dev) (i : CartIx) : (d.vacate i).cat.carts = d.cat.carts := by
  rcases d.vacate_cases i with h | ⟨x, p, -, -, -, h⟩ <;> simp [h]
@[simp] theorem Dev.vacate_ch (d : Dev) (i : CartIx) : (d.vacate i).ch = d.ch := by
  rcases d.vacate_cases i with h | ⟨x, p, -, -, -, h⟩ <;> simp [h]
@[simp] theorem Dev.vacate_length (d : Dev) (i : CartIx) : (d.vacate i).cat.places.length = d.cat.places.length := by
  rcases d.vacate_cases i with h | ⟨x, p, -, -, -, h⟩ <;> simp [h]
@[simp] theorem Dev.occupy_carts (d : Dev) (i : CartIx) (q : Option Place) : (d.occupy i q).cat.carts = d.cat.carts := by
  cases q <;> simp [Dev.occupy]
@[simp] theorem Dev.occupy_ch (d : Dev) (i : CartIx) (q : Option Place) : (d.occupy i q).ch = d.ch := by
  cases q <;> simp [Dev.occupy]
@[simp] theorem Dev.occupy_length (d : Dev) (i : CartIx) (q : Option Place) :
    (d.occupy i q).cat.places.length = d.cat.places.length := by
  cases q <;> simp [Dev.occupy]

@[simp] theorem Dev.moveCart_ch (d : Dev) (i : CartIx) (q : Option Place) : (d.moveCart i q).ch = d.ch := by
  simp [Dev.moveCart_eq]

theorem Dev.modCart_places (d : Dev) (i : CartIx) (f : Cart → Cart) : (d.modCart i f).cat.places = d.cat.places :=
  (Dev.TablesOnly.modCart d i f).places

theorem Dev.moveCart_places (d : Dev) (i : CartIx) (q : Option Place) :
    (d.moveCart i q).cat.places = ((d.vacate i).occupy i q).cat.places := by
  simp [Dev.moveCart_eq, Dev.modCart_places]

@[simp] theorem Dev.moveCart_length (d : Dev) (i : CartIx) (q : Option Place) :
    (d.moveCart i q).cat.places.length = d.cat.places.length := by
  rw [Dev.moveCart_places, Dev.occupy_length, Dev.vacate_length]

theorem Dev.place_of_places {d e : Dev} (h : e.cat.places = d.cat.places) (p : Place) : e.place p = d.place p := by
  simp [Dev.place, h]

/-- R1: the entry of the cartridge that moves has its new location, and no other entry changes. -/
theorem Dev.cart_moveCart (d : Dev) (i j : CartIx) (q : Option Place) :
    (d.moveCart i q).cart j = if j = i then (d.cart i).map fun x => { x with location := q } else d.cart j := by
  have kept (k : CartIx) : ((d.vacate i).occupy i q).cart k = d.cart k := Dev.cart_of_carts (by simp) k
  rw [Dev.moveCart_eq, Dev.cart_push, Dev.cart_reselect, Dev.cart_modCart, kept, kept]

/-! ### The drive place after a STATUS answer (R73) -/

/-- R73: the drive place is shown empty: a registered cartridge recorded there is ABSENT from then on, and the place has no occupant. -/
def Dev.shownEmpty (d : Dev) (c : Chan) : Dev :=
  match d.occ (.drive c) with
  | .cart i => (d.moveCart i none).setOcc (.drive c) .none
  | _ => d.setOcc (.drive c) .none

theorem Dev.reconcileDrive_absent (d : Dev) (c : Chan) : d.reconcileDrive c false = (d.shownEmpty c).setConfirmed (.drive c) true := rfl

theorem Dev.reconcileDrive_present (d : Dev) (c : Chan) : d.reconcileDrive c true =
    (if d.occ (.drive c) = .none then d.setOcc (.drive c) .unregistered else d).setConfirmed (.drive c) true := rfl

@[simp] theorem Dev.shownEmpty_length (d : Dev) (c : Chan) : (d.shownEmpty c).cat.places.length = d.cat.places.length := by
  unfold Dev.shownEmpty; split <;> simp
@[simp] theorem Dev.shownEmpty_ch (d : Dev) (c : Chan) : (d.shownEmpty c).ch = d.ch := by
  unfold Dev.shownEmpty; split <;> simp

theorem Dev.occ_shownEmpty {d : Dev} (h : d.cat.places.length = 28) (c : Chan) : (d.shownEmpty c).occ (.drive c) = .none := by
  unfold Dev.shownEmpty
  split <;> rw [Dev.occ_setOcc (by simpa using h), if_pos rfl]

/-- R73: a registered cartridge recorded in a drive place shown empty is ABSENT. -/
theorem Dev.cart_shownEmpty {d : Dev} {c : Chan} {i : CartIx} {x : Cart} (ho : d.occ (.drive c) = .cart i) (hx : d.cart i = some x) :
    (d.shownEmpty c).cart i = some { x with location := none } := by
  simp [Dev.shownEmpty, ho, Dev.cart_moveCart, hx]

/-- R1: no other place changes, while the cartridge recorded in the drive place is located there. -/
theorem Dev.place_shownEmpty {d : Dev} (h : d.cat.places.length = 28) {c : Chan} {q : Place} (hq : q ≠ .drive c)
    (hl : ∀ i x, d.occ (.drive c) = .cart i → d.cart i = some x → x.location = some (.drive c)) :
    (d.shownEmpty c).place q = d.place q := by
  unfold Dev.shownEmpty
  split
  · next i ho =>
    rw [Dev.place_setOcc (by simpa using h), if_neg hq, Dev.place_of_places (Dev.moveCart_places d i none), Dev.occupy]
    rcases d.vacate_cases i with hv | ⟨x, p, hx, hp, -, hv⟩
    · rw [hv]
    · obtain rfl := Option.some.inj (hp.symm.trans (hl i x ho hx))
      rw [hv, Dev.place_setOcc h, if_neg hq]
  · rw [Dev.place_setOcc h, if_neg hq]

/-- Settles O41: the drive place shown occupied, and shown empty. -/
theorem statusConfirmsTheDrivePlace : Obligations.StatusConfirmsTheDrivePlace := by
  intro d c present h
  cases present with
  | true =>
    have hlen : (if d.occ (.drive c) = .none then d.setOcc (.drive c) .unregistered else d).cat.places.length = 28 := by
      split <;> simpa using h
    have hplace (q : Place) : (if d.occ (.drive c) = .none then d.setOcc (.drive c) .unregistered else d).place q =
        if q = .drive c ∧ d.occ (.drive c) = .none then { d.place q with occ := .unregistered } else d.place q := by
      split
      · rw [Dev.place_setOcc h]; by_cases hq : q = .drive c <;> simp_all
      · simp_all
    rw [Dev.reconcileDrive_present]
    refine ⟨by rw [Dev.confirmed_setConfirmed hlen, if_pos rfl], fun _ => ⟨?_, ?_⟩, fun hf => by simp at hf, fun q hq _ => ?_, ?_⟩
    · rw [Dev.occ_setConfirmed hlen, Dev.occ, hplace]
      by_cases ho : d.occ (.drive c) = .none
      · rw [if_pos ⟨rfl, ho⟩, if_pos ho]
      · rw [if_neg (fun hc => ho hc.2), if_neg ho, Dev.occ]
    · rw [Dev.setConfirmed_carts]; split <;> simp
    · rw [Dev.place_setConfirmed hlen, if_neg hq, hplace, if_neg (fun hc => hq hc.1)]
    · rw [Dev.setConfirmed_ch]; split <;> simp
  | false =>
    have hlen : (d.shownEmpty c).cat.places.length = 28 := by simpa using h
    rw [Dev.reconcileDrive_absent]
    refine ⟨by rw [Dev.confirmed_setConfirmed hlen, if_pos rfl], fun hf => by simp at hf, fun _ => ⟨?_, fun i x ho hx => ?_⟩,
      fun q hq hl => ?_, by simp⟩
    · rw [Dev.occ_setConfirmed hlen, Dev.occ_shownEmpty h]
    · rw [Dev.cart_setConfirmed, Dev.cart_shownEmpty ho hx]
    · rw [Dev.place_setConfirmed hlen, if_neg hq, Dev.place_shownEmpty h hq hl]

end Sys2Proof.Machine
end

section
/-! The drive contexts (R72, R76): a threaded tape, and a drive that enters FAULT with what the end of its session leaves as it was. -/

namespace Sys2Proof.Machine

/-! ### A threaded tape (R7, R72) -/

/-- R72: the drive context after MEDIA_READY. -/
def Drive.threaded (x : Drive) (rate : Nat) : Drive :=
  { x with state := .ready, pos := some 0, rate := some rate, speed := some 8, speedPending := false, insertTimer := none }

theorem Dev.recordCapacity_frame (d : Dev) (c : Chan) (cap : Nat) : d.TablesOnly (d.recordCapacity c cap) := by
  unfold Dev.recordCapacity
  split
  · exact .modCart ..
  · exact .refl d

@[simp] theorem Dev.recordCapacity_sets (d : Dev) (c : Chan) (cap : Nat) : (d.recordCapacity c cap).cat.sets = d.cat.sets := by
  unfold Dev.recordCapacity; split <;> simp

/-- R7: the capacity is recorded for the mounted cartridge alone. -/
theorem Dev.cart_recordCapacity (d : Dev) (c : Chan) (cap : Nat) (i : CartIx) : (d.recordCapacity c cap).cart i =
    if (d.drive c).mounted = .cart i then (d.cart i).map fun x => { x with capacity := some cap } else d.cart i := by
  unfold Dev.recordCapacity
  split
  · next j hj => rw [Dev.cart_modCart, hj]; by_cases h : i = j <;> simp [h, eq_comm]
  · next hno => rw [if_neg (hno i)]

theorem Dev.chan_modDrive_other (d : Dev) (c : Chan) (f : Drive → Drive) :
    (d.modDrive c f).chan (otherChan c) = d.chan (otherChan c) := by cases c <;> rfl

/-- R72: with no unload waiting, the session of a claimed drive is told, and the idle-unload timer of an unclaimed one starts. -/
theorem Dev.threaded_eq {d : Dev} {c : Chan} {cap rate : Nat} (h : (d.drive c).unload = none) :
    d.threaded c cap rate =
      let e := (d.modDrive c fun x => x.threaded rate).recordCapacity c cap
      if (e.drive c).claim.isSome then e.look else ((e.startIdle c).push .grantRule).look := by
  have hu : (((d.modDrive c fun x => x.threaded rate).recordCapacity c cap).drive c).unload = none := by
    rw [(Dev.recordCapacity_frame _ c cap).drive, Dev.drive_modDrive]; exact h
  have unfolded : d.threaded c cap rate =
      match (((d.modDrive c fun x => x.threaded rate).recordCapacity c cap).drive c).unload with
      | some u => (((d.modDrive c fun x => x.threaded rate).recordCapacity c cap).modDrive c fun x =>
          { x with state := .ejecting, unload := some { u with stage := .rewind }, rate := none, speed := none }).look
      | none => if (((d.modDrive c fun x => x.threaded rate).recordCapacity c cap).drive c).claim.isSome then
          ((d.modDrive c fun x => x.threaded rate).recordCapacity c cap).look
        else ((((d.modDrive c fun x => x.threaded rate).recordCapacity c cap).startIdle c).push .grantRule).look := rfl
  rw [unfolded, hu]

/-- R85: the start of the idle-unload timer changes that timer alone. -/
theorem Dev.startIdle_eq (d : Dev) (c : Chan) : ∃ t, d.startIdle c = d.modDrive c (fun x => { x with idleTimer := t }) ∧
    ((d.drive c).state = .ready → (d.drive c).claim = none → d.cfg.idleUnload ≠ 0 → t = some (d.cfg.idleUnload * 1000)) ∧
    ((d.drive c).state ≠ .ready → t = (d.drive c).idleTimer) := by
  by_cases h : (d.drive c).state = .ready ∧ (d.drive c).claim = none ∧ d.cfg.idleUnload ≠ 0
  · refine ⟨some (d.cfg.idleUnload * 1000), ?_, fun _ _ _ => rfl, fun hne => absurd h.1 hne⟩
    rw [Dev.startIdle, if_pos h]
  · refine ⟨(d.drive c).idleTimer, ?_, fun hs hc hi => absurd ⟨hs, hc, hi⟩ h, fun _ => rfl⟩
    rw [Dev.startIdle, if_neg h]
    cases c <;> rfl

@[simp] theorem Dev.drive_look (d : Dev) (c : Chan) : d.look.drive c = d.drive c := by simp [Dev.drive, Dev.chan]

/-- Settles O46: the drive is set, the capacity recorded, and of an unclaimed drive the idle-unload timer started. -/
theorem threadedTapeIsReadyAtPositionZero : Obligations.ThreadedTapeIsReadyAtPositionZero := by
  intro d c cap rate hu
  rw [Dev.threaded_eq hu]
  have frame := Dev.recordCapacity_frame (d.modDrive c fun x => x.threaded rate) c cap
  have hcart := Dev.cart_recordCapacity (d.modDrive c fun x => x.threaded rate) c cap
  have hsets := Dev.recordCapacity_sets (d.modDrive c fun x => x.threaded rate) c cap
  generalize (d.modDrive c fun x => x.threaded rate).recordCapacity c cap = e at frame hcart hsets
  have hdrive : e.drive c = (d.drive c).threaded rate := by rw [frame.drive, Dev.drive_modDrive]
  have hother : e.chan (otherChan c) = d.chan (otherChan c) := by
    rw [← Dev.chan_modDrive_other d c fun x => x.threaded rate]; simp [Dev.chan, frame.ch]
  have hmounted : ((d.modDrive c fun x => x.threaded rate).drive c).mounted = (d.drive c).mounted := by simp [Drive.threaded]
  have hcart' (i : CartIx) : (d.modDrive c fun x => x.threaded rate).cart i = d.cart i := rfl
  have taken (i : CartIx) (x : Cart) (hi : (d.drive c).mounted = .cart i) (hx : d.cart i = some x) :
      e.cart i = some { x with capacity := some cap } := by rw [hcart, hmounted, if_pos hi, hcart', hx]; rfl
  have kept (i : CartIx) (hi : (d.drive c).mounted ≠ .cart i) : e.cart i = d.cart i := by rw [hcart, hmounted, if_neg hi, hcart']
  dsimp only
  split
  · next hclaim =>
    have hlook (i : CartIx) : e.look.cart i = e.cart i := Dev.cart_congr (by simp) i
    simp only [Dev.drive_look, hdrive, hlook]
    refine ⟨rfl, rfl, rfl, rfl, rfl, rfl, rfl, rfl, taken, kept, fun hc => ?_, ?_, ?_, ?_, ?_⟩
    · simp [hdrive, Drive.threaded, hc] at hclaim
    · simpa [Dev.chan] using hother
    · simpa using hsets
    · simpa using frame.places
    · simpa using frame.mqu
  · obtain ⟨t, ht, hstart, -⟩ := e.startIdle_eq c
    have hdrive' : (((e.startIdle c).push .grantRule).look).drive c = { (d.drive c).threaded rate with idleTimer := t } := by
      rw [Dev.drive_look, Dev.drive_push, ht, Dev.drive_modDrive, hdrive]
    have hlook (i : CartIx) : (((e.startIdle c).push .grantRule).look).cart i = e.cart i := Dev.cart_congr (by simp [ht]) i
    simp only [hdrive', hlook]
    refine ⟨rfl, rfl, rfl, rfl, rfl, rfl, rfl, rfl, taken, kept, fun hc hi => ?_, ?_, ?_, ?_, ?_⟩
    · have hcfg : e.cfg = d.cfg := frame.cfg
      rw [hstart (by rw [hdrive]; rfl) (by rw [hdrive]; exact hc) (by rw [hcfg]; exact hi), hcfg]
    · have hk : (e.startIdle c).chan (otherChan c) = d.chan (otherChan c) := by rw [ht, Dev.chan_modDrive_other, hother]
      simpa [Dev.chan] using hk
    · simpa [ht] using hsets
    · simpa [ht] using frame.places
    · simpa [ht] using frame.mqu

end Sys2Proof.Machine
end

section
/-! The end of a session (R78, R79, R136, R152, R163, R169): what it leaves as it was, and that nothing is left of the session. -/

namespace Sys2Proof.Machine

/-! ### What a session's work leaves as it was -/

/-- The work of the session on a channel, its end with it, changes no place, setting, line or store slot; it sends no drive command,
begins no unload, and leaves the state and the timers of its drive as they were, but for the idle-unload timer of a READY drive. -/
structure Dev.SessionWork (c : Chan) (d e : Dev) : Prop where
  places : e.cat.places = d.cat.places
  cfg : e.cfg = d.cfg
  lines : e.lines = d.lines
  slots : e.cst.slots = d.cst.slots
  state : (e.drive c).state = (d.drive c).state
  cmdTimer : (e.drive c).cmdTimer = (d.drive c).cmdTimer
  insertTimer : (e.drive c).insertTimer = (d.drive c).insertTimer
  idleTimer : (d.drive c).state ≠ .ready → (e.drive c).idleTimer = (d.drive c).idleTimer
  out : (d.drive c).out = none → (e.drive c).out = none
  unload : (d.drive c).unload = none → (e.drive c).unload = none

theorem Dev.drive_of_ch {d e : Dev} (h : e.ch = d.ch) (c : Chan) : e.drive c = d.drive c := by simp [Dev.drive, Dev.chan, h]
theorem Dev.sess_of_ch {d e : Dev} (h : e.ch = d.ch) (c : Chan) : e.sess c = d.sess c := by simp [Dev.sess, Dev.chan, h]
theorem Dev.rebuild?_of_sess {d e : Dev} {c : Chan} (h : e.sess c = d.sess c) : e.rebuild? c = d.rebuild? c := by
  simp [Dev.rebuild?, h]

@[simp] theorem Dev.drive_modBackup (d : Dev) (c k : Chan) (f : Backup → Backup) : (d.modBackup c f).drive k = d.drive k := by
  simp [Dev.modBackup]
@[simp] theorem Dev.drive_modRebuild (d : Dev) (c k : Chan) (f : Rebuild → Rebuild) : (d.modRebuild c f).drive k = d.drive k := by
  simp [Dev.modRebuild]
theorem Dev.drive_modChan (d : Dev) (c k : Chan) (f : Channel → Channel) (h : ∀ x, (f x).drive = x.drive) :
    (d.modChan c f).drive k = d.drive k :=
  match c, k with
  | .ch0, .ch0 | .ch1, .ch1 => h _
  | .ch0, .ch1 | .ch1, .ch0 => rfl
theorem Dev.sess_modChan (d : Dev) (c k : Chan) (f : Channel → Channel) (h : ∀ x, (f x).sess = x.sess) :
    (d.modChan c f).sess k = d.sess k :=
  match c, k with
  | .ch0, .ch0 | .ch1, .ch1 => h _
  | .ch0, .ch1 | .ch1, .ch0 => rfl

namespace Dev.SessionWork

variable {c : Chan}

theorem of_drive {d e : Dev} (places : e.cat.places = d.cat.places) (cfg : e.cfg = d.cfg) (lines : e.lines = d.lines)
    (slots : e.cst.slots = d.cst.slots) (drive : e.drive c = d.drive c) : d.SessionWork c e := by
  constructor <;> simp_all

theorem refl (d : Dev) : d.SessionWork c d := of_drive rfl rfl rfl rfl rfl

theorem trans {d e g : Dev} (h : d.SessionWork c e) (k : e.SessionWork c g) : d.SessionWork c g where
  places := k.places.trans h.places
  cfg := k.cfg.trans h.cfg
  lines := k.lines.trans h.lines
  slots := k.slots.trans h.slots
  state := k.state.trans h.state
  cmdTimer := k.cmdTimer.trans h.cmdTimer
  insertTimer := k.insertTimer.trans h.insertTimer
  idleTimer := fun hs => (k.idleTimer (by rwa [h.state])).trans (h.idleTimer hs)
  out := fun ho => k.out (h.out ho)
  unload := fun hu => k.unload (h.unload hu)

theorem of_tables {d e : Dev} (h : d.TablesOnly e) : d.SessionWork c e := of_drive h.places h.cfg h.lines h.slots (h.drive c)

theorem answerOpt (d : Dev) (r : Option ReqId) (st : Status) : d.SessionWork c (d.answerOpt r st) :=
  of_drive (by simp) (by simp) (by simp) (by simp) (Dev.drive_of_ch (by simp) c)
theorem answerWith (d : Dev) (r : ReqId) (st : Status) (h : Nat) (bs : List Byte) : d.SessionWork c (d.answerWith r st h bs) :=
  of_drive (by simp) (by simp) (by simp) (by simp) (Dev.drive_of_ch (by simp) c)
theorem noticeOwner (d : Dev) (p : Port) (n : Notice) : d.SessionWork c (d.noticeOwner p n) :=
  of_drive (by simp) (by simp) (by simp) (by simp) (Dev.drive_of_ch (by simp) c)
theorem sessionEnded (d : Dev) (s : Session) (why : Reason) (st : Option Status) (k : EndCounts) :
    d.SessionWork c (d.sessionEnded s why st k) := noticeOwner ..
theorem modSess (d : Dev) (k : Chan) (f : Session → Session) : d.SessionWork c (d.modSess k f) :=
  of_drive rfl rfl rfl rfl (by simp)
theorem modBackup (d : Dev) (k : Chan) (f : Backup → Backup) : d.SessionWork c (d.modBackup k f) := modSess ..
theorem modRebuild (d : Dev) (k : Chan) (f : Rebuild → Rebuild) : d.SessionWork c (d.modRebuild k f) := modSess ..
theorem modChan (d : Dev) (k : Chan) (f : Channel → Channel) (h : ∀ x, (f x).drive = x.drive) : d.SessionWork c (d.modChan k f) :=
  of_drive rfl rfl rfl rfl (Dev.drive_modChan d k c f h)
theorem push (d : Dev) (t : Todo) : d.SessionWork c (d.push t) := of_tables (.push d t)
theorem look (d : Dev) : d.SessionWork c d.look := of_drive (by simp) (by simp) (by simp) (by simp) (by simp)
theorem freePages (d : Dev) (k : Chan) (n : Nat) : d.SessionWork c (d.freePages k n) :=
  of_drive (by simp) (by simp) (by simp) (by simp) (Dev.drive_of_ch (by simp) c)

theorem of_modChan {d e : Dev} {k : Chan} {f : Channel → Channel} (h : (d.modChan k f).SessionWork c e)
    (hf : ∀ x, (f x).drive = x.drive) : d.SessionWork c e := (modChan d k f hf).trans h

theorem freeChannelMemory (d : Dev) (k : Chan) : d.SessionWork c (d.freeChannelMemory k) :=
  of_modChan (freePages ..) fun _ => rfl

theorem refuseOpen (d : Dev) (k : Chan) (st : Status) : d.SessionWork c (d.refuseOpen k st) := by
  unfold Dev.refuseOpen
  split
  · dsimp only
    split
    · exact (answerWith ..).trans (modSess ..)
    · exact modSess ..
  · exact refl d

theorem endRun (d : Dev) (k : Chan) : d.SessionWork c (d.endRun k) := by
  have half (e : Dev) (h : Chan) : e.SessionWork c (e.freeHalf k h) := of_modChan (push ..) fun _ => rfl
  have rest (e : Dev) (f : Channel → Channel) (n : Nat) (hf : ∀ x, (f x).drive = x.drive) :
      e.SessionWork c ((e.modChan k f).freePages k n) := (modChan e k f hf).trans (freePages ..)
  unfold Dev.endRun
  dsimp only
  split
  · exact (half ..).trans (rest _ _ _ fun _ => rfl)
  · exact rest _ _ _ fun _ => rfl

theorem writeResult (d : Dev) (k : SetIx) (r : VerifyResult) (announce : Bool) : d.SessionWork c (d.writeResult k r announce) := by
  have set : d.SessionWork c (d.modSet k fun x => { x with verify := { x.verify with result := r, day := some d.cat.day } }) :=
    of_tables (.modSet ..)
  unfold Dev.writeResult
  dsimp only
  split
  · split
    · exact set.trans (noticeOwner ..)
    · exact set
  · exact set

end Dev.SessionWork

/-! ### The end of a session (R78, R79) -/

/-- R89: what a session that has ended leaves of a drive context: its requests name it no more. -/
def Drive.forget (h : Nat) (x : Drive) : Drive :=
  { x with unload := x.unload.map fun u => if u.req = some (.session h) then { u with req := none } else u
           offer := x.offer.map fun l => l.filter (· ≠ .session h)
           wants := { x.wants with retry := x.wants.retry.map fun r => { r with reqs := r.reqs.filter (· ≠ .session h) } } }

theorem Dev.forgetRequester_eq (d : Dev) (h : Nat) : d.forgetRequester h =
    ((((d.modMqu fun m => { m with queue := m.queue.map fun o => { o with reqs := o.reqs.filter (· ≠ .session h) } }).modDrive .ch0
      (Drive.forget h)).modDrive .ch1 (Drive.forget h)).push .orders).push .send := rfl

theorem Dev.drive_modDrive_both (d : Dev) (f : Drive → Drive) (c : Chan) :
    ((d.modDrive .ch0 f).modDrive .ch1 f).drive c = f (d.drive c) := by cases c <;> rfl

@[simp] theorem Dev.drive_forgetRequester (d : Dev) (h : Nat) (c : Chan) : (d.forgetRequester h).drive c = (d.drive c).forget h := by
  rw [Dev.forgetRequester_eq, Dev.drive_push, Dev.drive_push, Dev.drive_modDrive_both, Dev.drive_modMqu]

@[simp] theorem Dev.sess_forgetRequester (d : Dev) (h : Nat) (c : Chan) : (d.forgetRequester h).sess c = d.sess c := by
  simp [Dev.forgetRequester_eq]

/-- R11: the claim a session that ends has on its cartridge ends. -/
def Dev.cartUnclaimed (d : Dev) (s : Session) : Dev :=
  match s.cart with
  | some i => d.unclaim i s.handle
  | none => d

/-- R24: what follows when a session that ended had a cartridge. -/
def Dev.cartLeft (d : Dev) (s : Session) : Dev :=
  match s.cart with
  | some _ => d.cartReleased
  | none => d

/-- R79, R89: a drive that no session claims, its command in flight owned by none when it was the session's. -/
def Drive.unclaimed (h : Nat) (x : Drive) : Drive :=
  { x with claim := none, out := x.out.map fun o => if o.owner = some h then { o with owner := none } else o }

/-- R79: the device of a session that has ended, its context cleared and its claims released. -/
def Dev.released (d : Dev) (c : Chan) (s : Session) : Dev :=
  (((d.freeChannelMemory c).cartUnclaimed s).setSess c none).modDrive c (Drive.unclaimed s.handle)

theorem Dev.endSession_eq {d : Dev} {c : Chan} {s : Session} (h : d.sess c = some s) : d.endSession c =
    ((((((d.released c s).cartLeft s).stopYielding c).forgetRequester s.handle).startIdle c).pushAll [.grantRule, .poolsApply]).look := by
  rw [Dev.endSession, h]
  rfl

@[simp] theorem Dev.cartLeft_ch (d : Dev) (s : Session) : (d.cartLeft s).ch = d.ch := by
  unfold Dev.cartLeft; split <;> simp [Dev.cartReleased]

theorem Dev.sess_released (d : Dev) (c : Chan) (s : Session) : (d.released c s).sess c = none := by
  unfold Dev.released
  rw [Dev.sess_modDrive, Dev.sess_setSess]

theorem Dev.claim_released (d : Dev) (c : Chan) (s : Session) : ((d.released c s).drive c).claim = none := by
  unfold Dev.released
  rw [Dev.drive_modDrive]; rfl

theorem Dev.drive_setSess (d : Dev) (c k : Chan) (x : Option Session) : (d.setSess c x).drive k = d.drive k :=
  Dev.drive_modChan d c k _ fun _ => rfl

theorem Dev.SessionWork.unclaim {c : Chan} (d : Dev) (i : CartIx) (h : Nat) : d.SessionWork c (d.unclaim i h) := by
  unfold Dev.unclaim
  split
  · exact of_tables (.setClaim ..)
  · exact refl d

theorem Dev.SessionWork.cartUnclaimed {c : Chan} (d : Dev) (s : Session) : d.SessionWork c (d.cartUnclaimed s) := by
  unfold Dev.cartUnclaimed
  split
  · exact unclaim ..
  · exact refl d

theorem Dev.SessionWork.cartLeft {c : Chan} (d : Dev) (s : Session) : d.SessionWork c (d.cartLeft s) := by
  unfold Dev.cartLeft
  split
  · exact (of_tables (.reselect d)).trans (look _)
  · exact refl d

theorem Dev.SessionWork.released (d : Dev) (c : Chan) (s : Session) : d.SessionWork c (d.released c s) := by
  refine ((Dev.SessionWork.freeChannelMemory d c).trans (cartUnclaimed _ s)).trans ?_
  unfold Dev.released
  constructor <;> simp +contextual [Dev.drive_setSess, Drive.unclaimed]

theorem Dev.SessionWork.forgetRequester {c : Chan} (d : Dev) (h : Nat) : d.SessionWork c (d.forgetRequester h) := by
  have drive := Dev.drive_forgetRequester d h c
  constructor
  case places | cfg | lines | slots => simp [Dev.forgetRequester_eq]
  all_goals simp +contextual [drive, Drive.forget]

theorem Dev.SessionWork.startIdle (d : Dev) (c : Chan) : d.SessionWork c (d.startIdle c) := by
  obtain ⟨t, ht, -, hkept⟩ := d.startIdle_eq c
  rw [ht]
  constructor <;> simp
  exact hkept

theorem Dev.SessionWork.endSession (d : Dev) (c : Chan) : d.SessionWork c (d.endSession c) := by
  cases h : d.sess c with
  | none => rw [Dev.endSession, h]; exact refl d
  | some s =>
    rw [Dev.endSession_eq h]
    exact ((((((Dev.SessionWork.released d c s).trans (cartLeft ..)).trans (modSess ..)).trans (forgetRequester ..)).trans
      (Dev.SessionWork.startIdle ..)).trans ((push ..).trans (push ..))).trans (look _)

theorem Dev.stopYielding_chan (d : Dev) (c : Chan) : (d.stopYielding c).chan c = d.chan c := by cases c <;> rfl

/-- R85: the session of a channel is not touched by its drive's timers. -/
theorem Dev.sess_startIdle (d : Dev) (c k : Chan) : (d.startIdle c).sess k = d.sess k := by
  obtain ⟨t, ht, -⟩ := d.startIdle_eq c
  rw [ht, Dev.sess_modDrive]

theorem Dev.claim_startIdle (d : Dev) (c : Chan) : ((d.startIdle c).drive c).claim = (d.drive c).claim := by
  obtain ⟨t, ht, -⟩ := d.startIdle_eq c
  rw [ht, Dev.drive_modDrive]

@[simp] theorem Dev.sess_pushAll (d : Dev) (ts : List Todo) (c : Chan) : (d.pushAll ts).sess c = d.sess c := Dev.sess_of_ch (by simp) c
@[simp] theorem Dev.sess_look (d : Dev) (c : Chan) : d.look.sess c = d.sess c := Dev.sess_of_ch (by simp) c
@[simp] theorem Dev.drive_pushAll (d : Dev) (ts : List Todo) (c : Chan) : (d.pushAll ts).drive c = d.drive c :=
  Dev.drive_of_ch (by simp) c

/-- R78: no session is left on the channel. -/
theorem Dev.sess_endSession (d : Dev) (c : Chan) : (d.endSession c).sess c = none := by
  cases h : d.sess c with
  | none => rw [Dev.endSession, h]; exact h
  | some s =>
    rw [Dev.endSession_eq h, Dev.sess_look, Dev.sess_pushAll, Dev.sess_startIdle, Dev.sess_forgetRequester, Dev.sess,
      Dev.stopYielding_chan]
    exact (Dev.sess_of_ch (Dev.cartLeft_ch ..) c).trans (d.sess_released c s)

/-- R79: the drive of a session that has ended is claimed by none. -/
theorem Dev.claim_endSession {d : Dev} {c : Chan} {s : Session} (h : d.sess c = some s) : ((d.endSession c).drive c).claim = none := by
  rw [Dev.endSession_eq h, Dev.drive_look, Dev.drive_pushAll, Dev.claim_startIdle, Dev.drive_forgetRequester, Dev.drive,
    Dev.stopYielding_chan]
  exact (congrArg Drive.claim (Dev.drive_of_ch (Dev.cartLeft_ch ..) c)).trans (d.claim_released c s)

end Sys2Proof.Machine
end

section
/-! The aborts of a session (R136, R152, R163, R169), the groups of a rebuild (R166, R167), and the FAULT of a drive (R76). -/

namespace Sys2Proof.Machine

/-! ### The kinds of session -/

theorem Dev.backup?_eq_some {d : Dev} {c : Chan} {s : Session} {b : Backup} :
    d.backup? c = some (s, b) ↔ d.sess c = some s ∧ s.kind = .backup b := by
  unfold Dev.backup?
  constructor
  · intro h
    split at h
    · split at h <;> cases h
      exact ⟨‹_›, ‹_›⟩
    · cases h
  · rintro ⟨hs, hk⟩
    simp [hs, hk]

theorem Dev.verify?_eq_some {d : Dev} {c : Chan} {s : Session} {v : Verify} :
    d.verify? c = some (s, v) ↔ d.sess c = some s ∧ s.kind = .verify v := by
  unfold Dev.verify?
  constructor
  · intro h
    split at h
    · split at h <;> cases h
      exact ⟨‹_›, ‹_›⟩
    · cases h
  · rintro ⟨hs, hk⟩
    simp [hs, hk]

theorem Dev.restore?_eq_some {d : Dev} {c : Chan} {s : Session} {r : Restore} :
    d.restore? c = some (s, r) ↔ d.sess c = some s ∧ s.kind = .restore r := by
  unfold Dev.restore?
  constructor
  · intro h
    split at h
    · split at h <;> cases h
      exact ⟨‹_›, ‹_›⟩
    · cases h
  · rintro ⟨hs, hk⟩
    simp [hs, hk]

theorem Dev.rebuild?_eq_some {d : Dev} {c : Chan} {s : Session} {b : Rebuild} :
    d.rebuild? c = some (s, b) ↔ d.sess c = some s ∧ s.kind = .rebuild b := by
  unfold Dev.rebuild?
  constructor
  · intro h
    split at h
    · split at h <;> cases h
      exact ⟨‹_›, ‹_›⟩
    · cases h
  · rintro ⟨hs, hk⟩
    simp [hs, hk]

/-- A change of a backup's own context is seen there, and its session stays what it was otherwise. -/
theorem Dev.backup?_modBackup {d : Dev} {c : Chan} {s : Session} {b : Backup} (h : d.backup? c = some (s, b)) (f : Backup → Backup) :
    (d.modBackup c f).backup? c = some ({ s with kind := .backup (f b) }, f b) := by
  obtain ⟨hs, hk⟩ := Dev.backup?_eq_some.mp h
  exact Dev.backup?_eq_some.mpr ⟨by simp [Dev.modBackup, hs, hk], rfl⟩

theorem Dev.rebuild?_modRebuild {d : Dev} {c : Chan} {s : Session} {b : Rebuild} (h : d.rebuild? c = some (s, b))
    (f : Rebuild → Rebuild) : (d.modRebuild c f).rebuild? c = some ({ s with kind := .rebuild (f b) }, f b) := by
  obtain ⟨hs, hk⟩ := Dev.rebuild?_eq_some.mp h
  exact Dev.rebuild?_eq_some.mpr ⟨by simp [Dev.modRebuild, hs, hk], rfl⟩

/-- A change of a session that leaves its kind. -/
theorem Dev.backup?_modSess {d : Dev} {c : Chan} {s : Session} {b : Backup} (h : d.backup? c = some (s, b)) (f : Session → Session)
    (hf : (f s).kind = s.kind) : (d.modSess c f).backup? c = some (f s, b) := by
  obtain ⟨hs, hk⟩ := Dev.backup?_eq_some.mp h
  exact Dev.backup?_eq_some.mpr ⟨by simp [hs], hf.trans hk⟩

theorem Dev.backup?_of_sess {d e : Dev} {c : Chan} (h : e.sess c = d.sess c) : e.backup? c = d.backup? c := by
  simp [Dev.backup?, h]

theorem Dev.setOf_of_sets {d e : Dev} (h : e.cat.sets = d.cat.sets) (s : Session) : e.setOf s = d.setOf s := by
  cases hs : s.set <;> simp [Dev.setOf, hs, Dev.set?_of_sets h]

@[simp] theorem Dev.sess_freeChannelMemory (d : Dev) (c k : Chan) : (d.freeChannelMemory c).sess k = d.sess k := by
  unfold Dev.freeChannelMemory
  rw [Dev.sess_of_ch (Dev.freePages_ch ..)]
  exact Dev.sess_modChan d c k _ fun _ => rfl

@[simp] theorem Dev.sess_endRun (d : Dev) (c k : Chan) : (d.endRun c).sess k = d.sess k := by
  have half (e : Dev) (h : Chan) : (e.freeHalf c h).sess k = e.sess k := by
    unfold Dev.freeHalf; rw [Dev.sess_push]; exact Dev.sess_modChan e c k _ fun _ => rfl
  unfold Dev.endRun
  dsimp only
  rw [Dev.sess_of_ch (Dev.freePages_ch ..)]
  refine Eq.trans (Dev.sess_modChan _ c k _ ?_) ?_
  · exact fun _ => rfl
  · split
    · exact half ..
    · rfl

/-! ### The groups of a rebuild: what placing one leaves as it was -/

/-- R167: the placing of a group is the work of the rebuild on the channel, which stands after it as before. -/
structure Dev.RebuildWork (c : Chan) (d e : Dev) : Prop where
  work : d.SessionWork c e
  stands : (d.rebuild? c).isSome = true → (e.rebuild? c).isSome = true

namespace Dev.RebuildWork

variable {c : Chan}

theorem refl (d : Dev) : d.RebuildWork c d := ⟨.refl d, id⟩
theorem trans {d e g : Dev} (h : d.RebuildWork c e) (k : e.RebuildWork c g) : d.RebuildWork c g :=
  ⟨h.work.trans k.work, fun hd => k.stands (h.stands hd)⟩
theorem of_tables {d e : Dev} (h : d.TablesOnly e) : d.RebuildWork c e :=
  ⟨.of_tables h, fun hd => by rwa [Dev.rebuild?_of_sess (h.sess c)]⟩
theorem modRebuild (d : Dev) (f : Rebuild → Rebuild) : d.RebuildWork c (d.modRebuild c f) := by
  refine ⟨.modRebuild .., fun hd => ?_⟩
  obtain ⟨⟨s, b⟩, hsb⟩ := Option.isSome_iff_exists.mp hd
  rw [Dev.rebuild?_modRebuild hsb]; rfl

theorem joinGroup (d : Dev) (i : CartIx) (k : SetIx) (g : Group) : d.RebuildWork c (d.joinGroup c i k g) := by
  have joined (e : Dev) (x : SetEntry) (f : Rebuild → Rebuild) (named : Bool) :
      e.RebuildWork c (((e.putSet k x).modRebuild c f).joinCart i named) :=
    ((of_tables (.putSet ..)).trans (modRebuild ..)).trans (of_tables (.joinCart ..))
  have raced (n : Nat) : d.RebuildWork c { d with races := n } := ⟨.of_drive rfl rfl rfl rfl rfl, id⟩
  unfold Dev.joinGroup
  split
  · dsimp only
    split
    · exact (raced _).trans (joined ..)
    · exact joined ..
  · exact refl d

theorem allocNumber (d : Dev) : d.RebuildWork c d.allocNumber.2 := by
  have ch : d.allocNumber.2.ch = d.ch := by simp [Dev.allocNumber]
  exact ⟨.of_drive (by simp [Dev.allocNumber]) (by simp [Dev.allocNumber]) (by simp [Dev.allocNumber])
      (Dev.TablesOnly.dirty (d.modCat _) 0).slots (Dev.drive_of_ch ch c),
    fun hd => by rwa [Dev.rebuild?_of_sess (Dev.sess_of_ch ch c)]⟩

theorem placeGroup (d : Dev) (g : Group) : d.RebuildWork c (d.placeGroup c g).1 := by
  have numbered (renumber : Bool) : d.RebuildWork c (if renumber then d.allocNumber else (g.tape, d)).2 := by
    split
    · exact allocNumber d
    · exact refl d
  unfold Dev.placeGroup
  split
  · exact refl d
  split
  · exact refl d
  next i _ =>
  split
  · split
    · exact modRebuild ..
    · exact joinGroup ..
  split
  · exact modRebuild ..
  split
  · exact ((of_tables (.setInUse ..)).trans (joinGroup ..)).trans (modRebuild ..)
  split
  · exact refl d
  · exact (((numbered _).trans (of_tables (.putSet ..))).trans (joinGroup ..)).trans (modRebuild ..)

theorem closeGroup (d : Dev) (how : GroupEnd) (t : Option CloseTrailer) : d.RebuildWork c (d.closeGroup c how t).1 := by
  unfold Dev.closeGroup
  split
  · split
    · exact (modRebuild ..).trans (placeGroup ..)
    · exact refl d
  · exact refl d

end Dev.RebuildWork

/-! ### The end of a rebuild (R169) -/

theorem Dev.freeHandle_frame (d : Dev) (h : Nat) : d.TablesOnly (d.freeHandle h) := by
  refine Dev.TablesOnly.foldl (fun d k => ?_) _ d
  split
  · exact .setInUse ..
  · exact .refl d

theorem Dev.sessionEnded_ch (d : Dev) (s : Session) (why : Reason) (st : Option Status) (k : EndCounts) :
    (d.sessionEnded s why st k).ch = d.ch := by simp [Dev.sessionEnded]

/-- What is left on a channel whose session has ended: none, and a drive that none claims. -/
structure Dev.SessionOver (c : Chan) (d : Dev) : Prop where
  sess : d.sess c = none
  claim : (d.drive c).claim = none

theorem Dev.sessionOver_of_ch {c : Chan} {d e : Dev} (h : e.ch = d.ch) (hd : d.SessionOver c) : e.SessionOver c :=
  ⟨(Dev.sess_of_ch h c).trans hd.sess, (congrArg Drive.claim (Dev.drive_of_ch h c)).trans hd.claim⟩

theorem Dev.sessionOver_endSession {d : Dev} {c : Chan} {s : Session} (h : d.sess c = some s) : (d.endSession c).SessionOver c :=
  ⟨d.sess_endSession c, Dev.claim_endSession h⟩

/-- R136 to R169: the session's end, its notice and the answer to an ABORT that waited. -/
theorem Dev.sessionOver_ended {d : Dev} {c : Chan} {s : Session} (h : d.sess c = some s) (t : Session) (why : Reason)
    (st : Option Status) (k : EndCounts) (r : Option ReqId) (answer : Status) :
    (((d.endSession c).sessionEnded t why st k).answerOpt r answer).SessionOver c :=
  Dev.sessionOver_of_ch (by rw [Dev.answerOpt_ch, Dev.sessionEnded_ch]) (Dev.sessionOver_endSession h)

theorem Dev.SessionWork.ended (d : Dev) (c : Chan) (t : Session) (why : Reason) (st : Option Status) (k : EndCounts) (r : Option ReqId)
    (answer : Status) : d.SessionWork c (((d.endSession c).sessionEnded t why st k).answerOpt r answer) :=
  ((Dev.SessionWork.endSession d c).trans (sessionEnded ..)).trans (answerOpt ..)

/-- R169: a rebuild is over. -/
theorem Dev.rebuildOver_spec {d : Dev} {c : Chan} (why : Reason) (h : (d.rebuild? c).isSome = true) :
    d.SessionWork c (d.rebuildOver c why) ∧ (d.rebuildOver c why).SessionOver c := by
  obtain ⟨⟨s, b⟩, hsb⟩ := Option.isSome_iff_exists.mp h
  have hs : ((d.endRun c).freeHandle s.handle).sess c = some s := by
    rw [(Dev.freeHandle_frame _ _).sess, Dev.sess_endRun, (Dev.rebuild?_eq_some.mp hsb).1]
  rw [Dev.rebuildOver, hsb]
  exact ⟨((Dev.SessionWork.endRun d c).trans (.of_tables (Dev.freeHandle_frame ..))).trans (Dev.SessionWork.ended ..),
    Dev.sessionOver_ended hs ..⟩

/-- R169: an incomplete rebuild sets its cartridge, and is over. -/
theorem Dev.rebuildIncomplete_spec {d : Dev} {c : Chan} (why : Reason) (h : (d.rebuild? c).isSome = true) :
    d.SessionWork c (d.rebuildIncomplete c why) ∧ (d.rebuildIncomplete c why).SessionOver c := by
  have closed := Dev.RebuildWork.closeGroup (c := c) d .none none
  have set (e : Dev) (i : CartIx) (header : Bool) (f : Cart → Cart) :
      e.RebuildWork c ((if header then (e.modCart i f).reselect else e).flagSuspect i) := by
    refine .of_tables (.trans ?_ ((Dev.TablesOnly.modCart ..).trans (.reselect _)))
    split
    · exact (Dev.TablesOnly.modCart ..).trans (.reselect _)
    · exact .refl e
  unfold Dev.rebuildIncomplete
  generalize (d.closeGroup c .none none).1 = e at closed
  obtain ⟨⟨s, b⟩, hsb⟩ := Option.isSome_iff_exists.mp (closed.stands h)
  dsimp only
  rw [hsb]
  dsimp only
  cases s.cart with
  | none =>
    obtain ⟨work, gone⟩ := Dev.rebuildOver_spec why (closed.stands h)
    exact ⟨closed.work.trans work, gone⟩
  | some i =>
    have left := closed.trans (set e i b.anyHeader fun y => { y with
      state := if b.lastTrailer = some GroupEnd.span then .full else .active
      endPos := max y.endPos b.lastPos, written := max y.written b.storedSum })
    obtain ⟨work, gone⟩ := Dev.rebuildOver_spec why (left.stands h)
    exact ⟨left.work.trans work, gone⟩

/-! ### An abort that allows no trailer (R136) -/

@[simp] theorem Dev.sess_answerOpt (d : Dev) (r : Option ReqId) (st : Status) (c : Chan) : (d.answerOpt r st).sess c = d.sess c :=
  Dev.sess_of_ch (by simp) c

theorem Dev.sess_refuseOpen {d : Dev} {c : Chan} {s : Session} (h : d.sess c = some s) (st : Status) :
    (d.refuseOpen c st).sess c = some { s with openReq := none, openTimer := none } := by
  unfold Dev.refuseOpen
  rw [h]
  dsimp only
  split
  · simp [h, Dev.sess_of_ch (Dev.answerWith_ch ..)]
  · simp [h]

theorem Dev.refuseOpen_isSome (d : Dev) (c : Chan) (st : Status) (h : (d.sess c).isSome = true) :
    ((d.refuseOpen c st).sess c).isSome = true := by
  obtain ⟨s, hs⟩ := Option.isSome_iff_exists.mp h
  rw [Dev.sess_refuseOpen hs]; rfl

/-- R137: what the end of an aborted backup sets on its set, which is released. -/
def Dev.setAborted (d : Dev) (s : Session) : Dev :=
  match d.setOf s with
  | some (e, x) =>
    let d := if x.state = SetState.opened then
        d.modSet e fun x => { x with state := .aborted, digest := none, locator := none }
      else d
    d.setInUse e none
  | none => d

theorem Dev.setAborted_frame (d : Dev) (s : Session) : d.TablesOnly (d.setAborted s) := by
  unfold Dev.setAborted
  split
  · refine .trans ?_ (.setInUse ..)
    split
    · exact .modSet ..
    · exact .refl d
  · exact .refl d

theorem Dev.finishAbort_eq {d : Dev} {c : Chan} (why : Reason) (st : Option Status) {s : Session} {b : Backup}
    (h : d.backup? c = some (s, b)) : d.finishAbort c why st =
      (((((d.setAborted s).refuseOpen c (abortStatus true why)).endSession c).sessionEnded s why st .none).answerOpt s.pendingAbort
        (st.getD .ok)) := by
  rw [Dev.finishAbort, h]; rfl

/-- R137: the end of an aborted backup. -/
theorem Dev.finishAbort_spec {d : Dev} {c : Chan} (why : Reason) (st : Option Status) {s : Session} {b : Backup}
    (h : d.backup? c = some (s, b)) : d.SessionWork c (d.finishAbort c why st) ∧ (d.finishAbort c why st).SessionOver c := by
  have frame := d.setAborted_frame s
  have hs : (d.setAborted s).sess c = some s := (frame.sess c).trans (Dev.backup?_eq_some.mp h).1
  rw [Dev.finishAbort_eq why st h]
  exact ⟨((Dev.SessionWork.of_tables frame).trans (.refuseOpen ..)).trans (Dev.SessionWork.ended ..),
    Dev.sessionOver_ended (Dev.sess_refuseOpen hs _) ..⟩

/-- R136: a backup aborted for a reason that allows no trailer ends at once. -/
theorem Dev.backupAbort_spec {d : Dev} {c : Chan} {why : Reason} (st : Option Status) (hw : why.allowsTrailer = false) {s : Session}
    {b : Backup} (h : d.backup? c = some (s, b)) :
    d.SessionWork c (d.backupAbort c why st) ∧ (d.backupAbort c why st).SessionOver c := by
  have told : (((d.answerOpt b.pendingClose (st.getD .aborted)).modSess c fun s => { s with mediaTimer := none })).backup? c =
      some ({ s with mediaTimer := none }, b) :=
    Dev.backup?_modSess ((Dev.backup?_of_sess (Dev.sess_answerOpt ..)).trans h) _ rfl
  have before : d.SessionWork c ((d.answerOpt b.pendingClose (st.getD .aborted)).modSess c fun s => { s with mediaTimer := none }) :=
    (Dev.SessionWork.answerOpt ..).trans (.modSess ..)
  unfold Dev.backupAbort
  rw [h]
  simp only [hw, and_false, Bool.not_false, if_true, Bool.false_eq_true, if_false]
  split
  · obtain ⟨work, gone⟩ := Dev.finishAbort_spec why st (Dev.backup?_modBackup ((Dev.backup?_of_sess
      (Dev.sess_freeChannelMemory ..)).trans told) fun b =>
        { b with state := .aborting, window := none, credits := 0, undelivered := false, openFile := none, pendingClose := none
                 writer := .stream, digest := none, building := false, selecting := false, span := .none, ending := some (why, st) })
    exact ⟨((before.trans (Dev.SessionWork.freeChannelMemory ..)).trans (.modBackup ..)).trans work, gone⟩
  · obtain ⟨work, gone⟩ := Dev.finishAbort_spec why st told
    exact ⟨before.trans work, gone⟩

/-- The open of a session that ends before it has started is refused. -/
def Dev.refuseUnless (d : Dev) (c : Chan) (started : Bool) (st : Status) : Dev := if started then d else d.refuseOpen c st

theorem Dev.refuseUnless_spec {d : Dev} {c : Chan} (started : Bool) (st : Status) (h : (d.sess c).isSome = true) :
    d.SessionWork c (d.refuseUnless c started st) ∧ ((d.refuseUnless c started st).sess c).isSome = true := by
  unfold Dev.refuseUnless
  split
  · exact ⟨.refl d, h⟩
  · exact ⟨.refuseOpen .., Dev.refuseOpen_isSome _ _ _ h⟩

@[simp] theorem Dev.sess_writeResult (d : Dev) (k : SetIx) (r : VerifyResult) (announce : Bool) (c : Chan) :
    (d.writeResult k r announce).sess c = d.sess c := by
  have set := (Dev.TablesOnly.modSet d k fun x => { x with verify := { x.verify with result := r, day := some d.cat.day } }).sess c
  unfold Dev.writeResult
  dsimp only
  split
  · split
    · exact (Dev.sess_of_ch (Dev.noticeOwner_ch ..) c).trans set
    · exact set
  · exact set

/-- R152: the result of a verify that ends early is written, and its set is released. -/
def Dev.verifyReleased (d : Dev) (s : Session) (started : Bool) (why : Reason) : Dev :=
  match d.setOf s with
  | some (e, x) =>
    let d := if started then d.writeResult e (if 0 < x.verify.hard then .failed else .incomplete) (why ≠ Reason.reset) else d
    d.freeSet (some e)
  | none => d

theorem Dev.verifyReleased_spec (d : Dev) (c : Chan) (s : Session) (started : Bool) (why : Reason) :
    d.SessionWork c (d.verifyReleased s started why) ∧ (d.verifyReleased s started why).sess c = d.sess c := by
  have freed (e : Dev) (k : Option SetIx) : e.SessionWork c (e.freeSet k) ∧ (e.freeSet k).sess c = e.sess c :=
    ⟨.of_tables (.freeSet ..), (Dev.TablesOnly.freeSet ..).sess c⟩
  unfold Dev.verifyReleased
  split
  · dsimp only
    split
    · exact ⟨(Dev.SessionWork.writeResult ..).trans (freed ..).1, (freed ..).2.trans (Dev.sess_writeResult ..)⟩
    · exact freed ..
  · exact ⟨.refl d, rfl⟩

theorem Dev.verifyAbort_spec {d : Dev} {c : Chan} (why : Reason) {s : Session} {v : Verify} (h : d.verify? c = some (s, v)) :
    d.SessionWork c (d.verifyAbort c why) ∧ (d.verifyAbort c why).SessionOver c := by
  have eq : d.verifyAbort c why = ((((d.refuseUnless c v.started (abortStatus false why)).verifyReleased s v.started why).endSession
      c).sessionEnded s why none .none).answerOpt s.pendingAbort .ok := by
    rw [Dev.verifyAbort, h]; rfl
  obtain ⟨refused, stands⟩ := Dev.refuseUnless_spec v.started (abortStatus false why) (c := c) (d := d)
    (by rw [(Dev.verify?_eq_some.mp h).1]; rfl)
  obtain ⟨cut, same⟩ := Dev.verifyReleased_spec (d.refuseUnless c v.started (abortStatus false why)) c s v.started why
  obtain ⟨t, ht⟩ := Option.isSome_iff_exists.mp stands
  rw [eq]
  exact ⟨(refused.trans cut).trans (Dev.SessionWork.ended ..), Dev.sessionOver_ended (same.trans ht) ..⟩

theorem Dev.restoreAbort_spec {d : Dev} {c : Chan} (why : Reason) {s : Session} {r : Restore} (h : d.restore? c = some (s, r)) :
    d.SessionWork c (d.restoreAbort c why) ∧ (d.restoreAbort c why).SessionOver c := by
  have eq : d.restoreAbort c why = ((((d.refuseUnless c r.started (abortStatus false why)).freeSet s.set).endSession
      c).sessionEnded s why none .none).answerOpt s.pendingAbort .ok := by
    rw [Dev.restoreAbort, h]; rfl
  obtain ⟨refused, stands⟩ := Dev.refuseUnless_spec r.started (abortStatus false why) (c := c) (d := d)
    (by rw [(Dev.restore?_eq_some.mp h).1]; rfl)
  obtain ⟨t, ht⟩ := Option.isSome_iff_exists.mp stands
  rw [eq]
  exact ⟨(refused.trans (.of_tables (.freeSet ..))).trans (Dev.SessionWork.ended ..),
    Dev.sessionOver_ended (((Dev.TablesOnly.freeSet ..).sess c).trans ht) ..⟩

theorem Dev.rebuild?_refuseOpen {d : Dev} {c : Chan} (st : Status) (h : (d.rebuild? c).isSome = true) :
    ((d.refuseOpen c st).rebuild? c).isSome = true := by
  obtain ⟨⟨s, b⟩, hsb⟩ := Option.isSome_iff_exists.mp h
  obtain ⟨hs, hk⟩ := Dev.rebuild?_eq_some.mp hsb
  rw [Dev.rebuild?_eq_some.mpr ⟨Dev.sess_refuseOpen hs st, hk⟩]; rfl

theorem Dev.rebuildAbort_spec {d : Dev} {c : Chan} (why : Reason) {s : Session} {b : Rebuild} (h : d.rebuild? c = some (s, b)) :
    d.SessionWork c (d.rebuildAbort c why) ∧ (d.rebuildAbort c why).SessionOver c := by
  have hd : (d.rebuild? c).isSome = true := by rw [h]; rfl
  unfold Dev.rebuildAbort
  rw [h]
  dsimp only
  split
  · exact Dev.rebuildIncomplete_spec why hd
  · obtain ⟨work, gone⟩ := Dev.rebuildOver_spec why (Dev.rebuild?_refuseOpen (abortStatus false why) hd)
    exact ⟨(Dev.SessionWork.refuseOpen ..).trans work, gone⟩

/-- R136, R152, R163, R169: for a reason that allows no trailer, the abort of any session ends it at once. -/
theorem Dev.abortSession_spec {d : Dev} {c : Chan} {why : Reason} (hw : why.allowsTrailer = false) :
    d.SessionWork c (d.abortSession c why) ∧ (d.abortSession c why).sess c = none := by
  unfold Dev.abortSession
  cases hs : d.sess c with
  | none => exact ⟨.refl d, hs⟩
  | some s =>
    dsimp only
    cases hk : s.kind with
    | backup b =>
      have := Dev.backupAbort_spec none hw (Dev.backup?_eq_some.mpr ⟨hs, hk⟩)
      exact ⟨this.1, this.2.sess⟩
    | verify v =>
      have := Dev.verifyAbort_spec why (Dev.verify?_eq_some.mpr ⟨hs, hk⟩)
      exact ⟨this.1, this.2.sess⟩
    | restore r =>
      have := Dev.restoreAbort_spec why (Dev.restore?_eq_some.mpr ⟨hs, hk⟩)
      exact ⟨this.1, this.2.sess⟩
    | rebuild r =>
      have := Dev.rebuildAbort_spec why (Dev.rebuild?_eq_some.mpr ⟨hs, hk⟩)
      exact ⟨this.1, this.2.sess⟩

/-! ### A drive enters FAULT (R76) -/

/-- A place that becomes unconfirmed keeps its occupant. -/
theorem Dev.place_unconfirmed (d : Dev) (p : Place) : (d.setConfirmed p false).place p = { d.place p with confirmed := false } := by
  rw [Dev.place_of_places (congrArg Catalogue.places (d.setConfirmed_cat p false))]
  simp only [Dev.place, Dev.setPlace, Dev.modCat]
  by_cases h : placeCode p < d.cat.places.length
  · simp [h]
  · simp [h]

/-- R76, steps 1 to 3: the unload given up, the drive in FAULT with nothing outstanding. -/
def Dev.faulted (d : Dev) (c : Chan) : Dev :=
  (d.giveUpUnload c).modDrive c fun x =>
    { x with state := .fault, out := none, cmdTimer := none, insertTimer := none, idleTimer := none }

theorem Dev.giveUpUnload_frame (d : Dev) (c : Chan) : (d.giveUpUnload c).ch = (d.modDrive c fun x => { x with unload := none }).ch ∧
    (d.giveUpUnload c).cat = d.cat ∧ (d.giveUpUnload c).cfg = d.cfg ∧ (d.giveUpUnload c).lines = d.lines ∧
    (d.giveUpUnload c).cst = d.cst := by
  unfold Dev.giveUpUnload
  dsimp only
  split <;> simp

theorem Dev.drive_faulted (d : Dev) (c : Chan) : (d.faulted c).drive c =
    { d.drive c with state := .fault, out := none, cmdTimer := none, insertTimer := none, idleTimer := none, unload := none } := by
  simp [Dev.faulted, Dev.drive_of_ch (d.giveUpUnload_frame c).1]

theorem Dev.driveFault_eq {d : Dev} {c : Chan} (h₁ : (d.drive c).state ≠ .fault) (h₂ : (d.drive c).state ≠ .absent) :
    ∃ n, d.driveFault c = ((((d.faulted c).abortSession c .driveFault).modDrive c fun x =>
      { x with mounted := .none, rate := none, speed := none, speedPending := false, pos := none }).setConfirmed (.drive c)
        false).noticeAll n := by
  rw [Dev.driveFault, if_neg (by simp [h₁, h₂])]
  exact ⟨_, rfl⟩

/-- Settles O47, from `Dev.abortSession_spec`: the abort of the session ends it and leaves the drive in FAULT as it is. -/
theorem driveFaultClearsTheDrive : Obligations.DriveFaultClearsTheDrive := by
  intro d c h₁ h₂
  obtain ⟨n, he⟩ := Dev.driveFault_eq h₁ h₂
  obtain ⟨work, gone⟩ := Dev.abortSession_spec (d := d.faulted c) (c := c) (why := .driveFault) rfl
  obtain ⟨-, hcat, hcfg, hlines, hcst⟩ := d.giveUpUnload_frame c
  have before := d.drive_faulted c
  simp only [he]
  generalize (d.faulted c).abortSession c .driveFault = e at work gone
  have state : (e.drive c).state = .fault := work.state.trans (by rw [before])
  have out : (e.drive c).out = none := work.out (by rw [before])
  have unload : (e.drive c).unload = none := work.unload (by rw [before])
  have cmdTimer : (e.drive c).cmdTimer = none := work.cmdTimer.trans (by rw [before])
  have insertTimer : (e.drive c).insertTimer = none := work.insertTimer.trans (by rw [before])
  have idleTimer : (e.drive c).idleTimer = none := (work.idleTimer (by simp [before])).trans (by rw [before])
  have place := Dev.place_unconfirmed (e.modDrive c fun x =>
    { x with mounted := .none, rate := none, speed := none, speedPending := false, pos := none }) (.drive c)
  have places : (e.modDrive c fun x =>
      { x with mounted := .none, rate := none, speed := none, speedPending := false, pos := none }).place (.drive c) =
      d.place (.drive c) :=
    Dev.place_of_places (work.places.trans (congrArg Catalogue.places hcat)) _
  rw [places] at place
  have stays (f : Dev) : (f.noticeAll n).drive c = f.drive c ∧ (f.noticeAll n).sess c = f.sess c ∧
      (f.noticeAll n).place (.drive c) = f.place (.drive c) :=
    ⟨Dev.drive_of_ch (by simp) c, Dev.sess_of_ch (by simp) c, Dev.place_of_cat (by simp) _⟩
  have confirmed (f : Dev) : (f.setConfirmed (.drive c) false).drive c = f.drive c ∧
      (f.setConfirmed (.drive c) false).sess c = f.sess c :=
    ⟨Dev.drive_of_ch (by simp) c, Dev.sess_of_ch (by simp) c⟩
  simp only [stays, confirmed, Dev.confirmed, Dev.occ, place]
  simp [state, out, unload, cmdTimer, insertTimer, idleTimer, gone, work.cfg, work.lines, work.slots, Dev.faulted, hcfg, hlines, hcst]

end Sys2Proof.Machine
end

section
/-! An OK MOVE (R98): what the change of location, the end of the order and the home of a cartridge leave. -/

namespace Sys2Proof.Machine

/-! ### Orders and what MQU keeps of them -/

@[simp] theorem Dev.setOcc_queue (d : Dev) (p : Place) (o : Occupant) : (d.setOcc p o).mqu.queue = d.mqu.queue := by
  unfold Dev.setOcc; dsimp only; split <;> simp
@[simp] theorem Dev.setOcc_exportMark (d : Dev) (p : Place) (o : Occupant) : (d.setOcc p o).mqu.exportMark = d.mqu.exportMark := by
  unfold Dev.setOcc; dsimp only; split <;> simp

@[simp] theorem Dev.orderLeft_cat (d : Dev) : d.orderLeft.cat = d.cat := by simp [Dev.orderLeft]
@[simp] theorem Dev.orderLeft_ch (d : Dev) : d.orderLeft.ch = d.ch := by simp [Dev.orderLeft]
@[simp] theorem Dev.orderLeft_mqu (d : Dev) : d.orderLeft.mqu = d.mqu := by simp [Dev.orderLeft]

@[simp] theorem Dev.dropOrder_cat (d : Dev) (o : Order) : (d.dropOrder o).cat = d.cat := by simp [Dev.dropOrder]
@[simp] theorem Dev.dropOrder_ch (d : Dev) (o : Order) : (d.dropOrder o).ch = d.ch := by simp [Dev.dropOrder]
@[simp] theorem Dev.dropOrder_queue (d : Dev) (o : Order) : (d.dropOrder o).mqu.queue = d.mqu.queue.erase o := by
  simp [Dev.dropOrder]
@[simp] theorem Dev.dropOrder_exportMark (d : Dev) (o : Order) : (d.dropOrder o).mqu.exportMark = d.mqu.exportMark := by
  simp [Dev.dropOrder]

/-- R101: the telling of an order's requesters answers ports alone. -/
theorem Dev.tell_frame (d : Dev) (o : Order) (st : Status) :
    (d.tell o st).cat = d.cat ∧ (d.tell o st).ch = d.ch ∧ (d.tell o st).mqu = d.mqu := by
  have told (l : List Requester) (d : Dev) :
      let e := l.foldl (fun d r => match r with
        | .panel q => if o.kind = .unload then d else d.answer q st
        | _ => d) d
      e.cat = d.cat ∧ e.ch = d.ch ∧ e.mqu = d.mqu := by
    induction l generalizing d with
    | nil => exact ⟨rfl, rfl, rfl⟩
    | cons r l ih =>
      obtain ⟨cat, ch, mqu⟩ := ih (match r with
        | .panel q => if o.kind = .unload then d else d.answer q st
        | _ => d)
      refine ⟨cat.trans ?_, ch.trans ?_, mqu.trans ?_⟩ <;> (split <;> [split; skip]) <;> simp
  obtain ⟨cat, ch, mqu⟩ := told o.reqs d
  exact ⟨(Dev.look_cat _).trans cat, (Dev.look_ch _).trans ch, (Dev.look_mqu _).trans mqu⟩

@[simp] theorem Dev.tell_cat (d : Dev) (o : Order) (st : Status) : (d.tell o st).cat = d.cat := (d.tell_frame o st).1
@[simp] theorem Dev.tell_ch (d : Dev) (o : Order) (st : Status) : (d.tell o st).ch = d.ch := (d.tell_frame o st).2.1
@[simp] theorem Dev.tell_mqu (d : Dev) (o : Order) (st : Status) : (d.tell o st).mqu = d.mqu := (d.tell_frame o st).2.2

@[simp] theorem Dev.markExport_cat (d : Dev) (p : Place) (k : Option CartIx) : (d.markExport p k).cat = d.cat := by
  cases p <;> simp [Dev.markExport]
@[simp] theorem Dev.markExport_ch (d : Dev) (p : Place) (k : Option CartIx) : (d.markExport p k).ch = d.ch := by
  cases p <;> simp [Dev.markExport]
@[simp] theorem Dev.markExport_queue (d : Dev) (p : Place) (k : Option CartIx) : (d.markExport p k).mqu.queue = d.mqu.queue := by
  cases p <;> simp [Dev.markExport]
/-- R98: the mark of the mail slot itself. -/
@[simp] theorem Dev.markExport_mail (d : Dev) (m : Fin 2) (k : Option CartIx) :
    (d.markExport (.mail m) k).mqu.exportMark.get (mailChan m) = k.map .cart := by
  simp [Dev.markExport, Pair.get_set]

@[simp] theorem Dev.cart_dropOrder (d : Dev) (o : Order) (i : CartIx) : (d.dropOrder o).cart i = d.cart i :=
  Dev.cart_congr (d.dropOrder_cat o) i
@[simp] theorem Dev.cart_tell (d : Dev) (o : Order) (st : Status) (i : CartIx) : (d.tell o st).cart i = d.cart i :=
  Dev.cart_congr (d.tell_cat o st) i
@[simp] theorem Dev.cart_markExport (d : Dev) (p : Place) (k : Option CartIx) (i : CartIx) : (d.markExport p k).cart i = d.cart i :=
  Dev.cart_congr (d.markExport_cat p k) i

/-! ### The home of a cartridge (R9) -/

theorem Dev.takeHome_frame (d : Dev) (i : CartIx) (n : Fin 24) : d.TablesOnly (d.takeHome i n) := by
  refine (Dev.TablesOnly.foldl (fun d j => ?_) allCarts d).trans ((Dev.TablesOnly.modCart ..).trans (.reselect _))
  split
  · exact .modCart ..
  · exact .refl d

theorem Dev.settleHome_frame (d : Dev) (i : CartIx) (p : Place) : d.TablesOnly (d.settleHome i p) := by
  unfold Dev.settleHome
  split
  · split
    · exact Dev.takeHome_frame ..
    · exact .refl d
  · exact .refl d

/-- R9: the cartridge that takes a home has it, and the pool of that slot in the live map. -/
theorem Dev.cart_takeHome (d : Dev) (i : CartIx) (n : Fin 24) : (d.takeHome i n).cart i =
    (d.cart i).map fun x => { x with home := some n, pool := d.cat.live.poolOf n.val } := by
  let step (d : Dev) (j : CartIx) : Dev :=
    if j ≠ i ∧ (d.cart j).any (fun x => x.home = some n) then d.modCart j fun x => { x with home := none } else d
  have frame (d : Dev) : d.TablesOnly (allCarts.foldl step d) := by
    refine .foldl (fun d j => ?_) _ d
    dsimp only [step]
    split
    · exact .modCart ..
    · exact .refl d
  have kept (l : List CartIx) (d : Dev) : (l.foldl step d).cart i = d.cart i := by
    induction l generalizing d with
    | nil => rfl
    | cons j l ih =>
      refine (ih _).trans ?_
      dsimp only [step]
      split
      · next h => exact Dev.cart_modCart_of_ne _ _ (Ne.symm h.1)
      · rfl
  change (((allCarts.foldl step d).modCart i fun x => { x with home := some n, pool := (allCarts.foldl step d).cat.live.poolOf n.val
    }).reselect).cart i = _
  rw [Dev.cart_reselect, Dev.cart_modCart_same, kept, (frame d).live]

/-- R9: what a cartridge's entry is when it has come to rest at a place. -/
def Cart.atRest (x : Cart) (m : PoolMap) (p : Place) : Cart :=
  match p, x.home with
  | .slot n, none => { x with home := some n, pool := m.poolOf n.val }
  | _, _ => x

theorem Dev.cart_settleHome {d : Dev} {i : CartIx} {x : Cart} (h : d.cart i = some x) (p : Place) :
    (d.settleHome i p).cart i = some (x.atRest d.cat.live p) := by
  cases p with
  | slot n =>
    cases hx : x.home with
    | none => simp [Dev.settleHome, h, hx, Dev.cart_takeHome, Cart.atRest]
    | some k => simp [Dev.settleHome, h, hx, Cart.atRest]
  | mail m => simp [Dev.settleHome, h, Cart.atRest]
  | drive c => simp [Dev.settleHome, h, Cart.atRest]

theorem Cart.atRest_location (x : Cart) (m : PoolMap) (p : Place) : (x.atRest m p).location = x.location := by
  unfold Cart.atRest; split <;> rfl

/-- R8: the RETIRED test sets a flag alone. -/
theorem Dev.retireTest_frame (d : Dev) (i : CartIx) : d.TablesOnly (d.retireTest i) := by
  unfold Dev.retireTest
  split
  · split
    · exact (Dev.TablesOnly.modCart ..).trans (.reselect _)
    · exact .refl d
  · exact .refl d

theorem Dev.cart_retireTest {d : Dev} {i : CartIx} {x : Cart} (h : d.cart i = some x) :
    ∃ r, (d.retireTest i).cart i = some { x with retired := r } := by
  unfold Dev.retireTest
  rw [h]
  dsimp only
  split
  · exact ⟨true, by simp [h]⟩
  · exact ⟨x.retired, by simp [h]⟩

/-! ### What follows an UNLOAD (R98, R101) -/

/-- The EXPORT request an order carries. -/
def Order.exportTag (o : Order) : Option ReqId :=
  o.reqs.findSome? fun r => match r with | .panel q => some q | _ => none

theorem Order.exportTag_single {o : Order} {q : ReqId} (h : o.reqs = [.panel q]) : o.exportTag = some q := by
  simp [Order.exportTag, h]
theorem Order.exportTag_none {o : Order} (h : ∀ r ∈ o.reqs, ∀ q, r ≠ .panel q) : o.exportTag = none := by
  refine List.findSome?_eq_none_iff.mpr fun r hr => ?_
  cases r with
  | panel q => exact absurd rfl (h _ hr q)
  | _ => rfl

/-- The EXPORT that takes the place of the UNLOAD it waited for. -/
def exportOf (i : CartIx) (p : Place) (q : ReqId) : Order := { kind := .exporting, cart := .cart i, src := p, reqs := [.panel q] }

theorem Dev.unloaded_untagged {o : Order} (h : o.exportTag = none) (d : Dev) (i : CartIx) (p : Place) :
    d.unloaded o (.cart i) p = (d.dropOrder o).look := by
  unfold Dev.unloaded
  dsimp only
  split
  case h_5 => rfl
  all_goals exact nomatch h.symm.trans ‹o.reqs.findSome? _ = some _›

theorem Dev.unloaded_slot {o : Order} {q : ReqId} (h : o.exportTag = some q) (d : Dev) (i : CartIx) (n : Fin 24) :
    d.unloaded o (.cart i) (.slot n) = (d.modMqu fun m =>
      { m with queue := m.queue.map fun x => if x = o then exportOf i (.slot n) q else x }).orderLeft.look := by
  unfold Dev.unloaded
  dsimp only
  split
  case h_1 hq hi hn => cases h.symm.trans hq; cases hi; cases hn; rfl
  case h_2 hq _ hn => exact absurd rfl (hn n)
  case h_3 hn _ => exact nomatch hn
  case h_4 hi _ _ => exact absurd rfl (hi i)
  case h_5 hq => exact nomatch h.symm.trans hq

theorem Dev.unloaded_elsewhere {o : Order} {q : ReqId} (h : o.exportTag = some q) (d : Dev) (i : CartIx) {p : Place}
    (hp : ∀ n, p ≠ .slot n) : d.unloaded o (.cart i) p = (((d.dropOrder o).markExport p (some i)).answer q .ok).look := by
  unfold Dev.unloaded
  dsimp only
  split
  case h_1 n _ _ => exact absurd rfl (hp n)
  case h_2 hq hi _ => cases h.symm.trans hq; cases hi; rfl
  case h_3 hi => exact absurd rfl (hi i)
  case h_4 hi _ => exact absurd rfl (hi i)
  case h_5 hq => exact nomatch h.symm.trans hq

theorem Dev.unloaded_frame (d : Dev) (o : Order) (i : CartIx) (p : Place) :
    (d.unloaded o (.cart i) p).cat = d.cat ∧ (d.unloaded o (.cart i) p).ch = d.ch := by
  cases h : o.exportTag with
  | none => simp [Dev.unloaded_untagged h]
  | some q =>
    cases p with
    | slot n => simp [Dev.unloaded_slot h]
    | _ => simp [Dev.unloaded_elsewhere h]

/-! ### The cartridge has moved (R98, R1, R96) -/

/-- An OK MOVE of a registered cartridge as R98 has it: the catalogue and the order agree on where it comes from. -/
structure Dev.Moves (d : Dev) (o : Order) (i : CartIx) (x : Cart) (p : Place) : Prop where
  noScan : o.kind ≠ .scan
  names : o.cart = .cart i
  leaves : o.src ≠ p
  entry : d.cart i = some x
  recorded : x.location = some o.src
  occupies : d.occ o.src = .cart i
  places : d.cat.places.length = 28

/-- R98: the cartridge's location has changed, and both places are confirmed when the order was not halted. -/
def Dev.cameTo (d : Dev) (o : Order) (i : CartIx) (p : Place) : Dev :=
  if o.halted then d.moveCart i (some p) else ((d.moveCart i (some p)).setConfirmed o.src true).setConfirmed p true

namespace Dev.Moves

variable {d : Dev} {o : Order} {i : CartIx} {x : Cart} {p : Place}

theorem place_moveCart (h : d.Moves o i x p) (q : Place) : (d.moveCart i (some p)).place q =
    if q = p then { d.place q with occ := .cart i } else if q = o.src then { d.place q with occ := .none } else d.place q := by
  have left : d.vacate i = d.setOcc o.src .none := Dev.vacate_of_recorded h.entry h.recorded h.occupies
  rw [Dev.place_of_places (Dev.moveCart_places d i (some p)), left, Dev.occupy,
    Dev.place_setOcc (by rw [Dev.setOcc_length, h.places]), Dev.place_setOcc h.places, Dev.place_setOcc h.places]
  split
  · next hq => subst hq; simp [h.leaves.symm]
  · split <;> simp_all

theorem place_cameTo (h : d.Moves o i x p) (q : Place) : (d.cameTo o i p).place q =
    if q = p then { occ := .cart i, confirmed := !o.halted || (d.place q).confirmed }
    else if q = o.src then { occ := .none, confirmed := !o.halted || (d.place q).confirmed } else d.place q := by
  have len : (d.moveCart i (some p)).cat.places.length = 28 := by rw [Dev.moveCart_length, h.places]
  unfold Dev.cameTo
  split
  · next hh => rw [h.place_moveCart]; simp [hh]
  · next hh =>
    rw [Dev.place_setConfirmed (by rw [Dev.setConfirmed_length, len]), Dev.place_setConfirmed len, Dev.place_setConfirmed len]
    simp only [h.place_moveCart]
    by_cases hp : q = p
    · subst hp; simp [hh, h.leaves.symm]
    · by_cases hs : q = o.src
      · subst hs; simp [hh, hp]
      · simp [hp, hs]

end Dev.Moves

@[simp] theorem Dev.moveCart_queue (d : Dev) (i : CartIx) (q : Option Place) : (d.moveCart i q).mqu.queue = d.mqu.queue := by
  have left : (d.vacate i).mqu.queue = d.mqu.queue := by
    rcases d.vacate_cases i with h | ⟨x, p, -, -, -, h⟩ <;> simp [h]
  rw [Dev.moveCart_eq, Dev.push_mqu, (Dev.TablesOnly.reselect _).mqu, (Dev.TablesOnly.modCart ..).mqu]
  cases q <;> simp [Dev.occupy, left]
@[simp] theorem Dev.moveCart_exportMark (d : Dev) (i : CartIx) (q : Option Place) :
    (d.moveCart i q).mqu.exportMark = d.mqu.exportMark := by
  have left : (d.vacate i).mqu.exportMark = d.mqu.exportMark := by
    rcases d.vacate_cases i with h | ⟨x, p, -, -, -, h⟩ <;> simp [h]
  rw [Dev.moveCart_eq, Dev.push_mqu, (Dev.TablesOnly.reselect _).mqu, (Dev.TablesOnly.modCart ..).mqu]
  cases q <;> simp [Dev.occupy, left]
@[simp] theorem Dev.moveCart_live (d : Dev) (i : CartIx) (q : Option Place) : (d.moveCart i q).cat.live = d.cat.live := by
  have left : (d.vacate i).cat.live = d.cat.live := by
    rcases d.vacate_cases i with h | ⟨x, p, -, -, -, h⟩ <;> simp [h]
  rw [Dev.moveCart_eq, Dev.push_cat, (Dev.TablesOnly.reselect _).live, (Dev.TablesOnly.modCart ..).live]
  cases q <;> simp [Dev.occupy, left]

@[simp] theorem Dev.cameTo_ch (d : Dev) (o : Order) (i : CartIx) (p : Place) : (d.cameTo o i p).ch = d.ch := by
  unfold Dev.cameTo; split <;> simp
@[simp] theorem Dev.cameTo_queue (d : Dev) (o : Order) (i : CartIx) (p : Place) : (d.cameTo o i p).mqu.queue = d.mqu.queue := by
  unfold Dev.cameTo; split <;> simp
@[simp] theorem Dev.cameTo_exportMark (d : Dev) (o : Order) (i : CartIx) (p : Place) :
    (d.cameTo o i p).mqu.exportMark = d.mqu.exportMark := by
  unfold Dev.cameTo; split <;> simp
@[simp] theorem Dev.cameTo_live (d : Dev) (o : Order) (i : CartIx) (p : Place) : (d.cameTo o i p).cat.live = d.cat.live := by
  unfold Dev.cameTo; split <;> simp
@[simp] theorem Dev.cameTo_length (d : Dev) (o : Order) (i : CartIx) (p : Place) :
    (d.cameTo o i p).cat.places.length = d.cat.places.length := by
  unfold Dev.cameTo; split <;> simp
theorem Dev.cart_cameTo (d : Dev) (o : Order) (i : CartIx) (p : Place) :
    (d.cameTo o i p).cart i = (d.cart i).map fun x => { x with location := some p } := by
  unfold Dev.cameTo; split <;> simp [Dev.cart_moveCart]

/-! ### An OK LOAD (R72, R98) -/

theorem Dev.loaded_busy {d : Dev} {c : Chan} (hs : (d.drive c).state ≠ .empty) (i : CartIx) : d.loaded i c =
    (d.modCart i fun x => { x with loads := satInc x.loads }).setConfirmed (.drive c) false := by
  simp [Dev.loaded, (Dev.TablesOnly.modCart ..).drive, hs]

/-- The drive that has taken its cartridge in. -/
def Drive.inserting (i : CartIx) (x : Drive) : Drive :=
  { x with state := .inserting, mounted := .cart i, pos := none, insertTimer := some Config.insertReadyMs }

/-- R11, log entry 47: the claim of the session whose session cartridge comes into the drive it claims. -/
def Dev.claimLoaded (d : Dev) (i : CartIx) (c : Chan) : Dev :=
  match (d.drive c).claim with
  | some h => if (d.sess c).any fun s => s.handle = h ∧ s.cart = some i then (d.setClaim i (some h)).look else d.look
  | none => d.look

theorem Dev.loaded_empty {d : Dev} {c : Chan} (hs : (d.drive c).state = .empty) (i : CartIx) : d.loaded i c =
    ((d.modCart i fun x => { x with loads := satInc x.loads }).modDrive c (Drive.inserting i)).claimLoaded i c := by
  rw [Dev.loaded, if_pos (by rw [(Dev.TablesOnly.modCart ..).drive, hs])]; rfl

theorem Dev.claimLoaded_frame (d : Dev) (i : CartIx) (c : Chan) : (d.claimLoaded i c).cat.places = d.cat.places ∧
    (d.claimLoaded i c).ch = d.ch ∧ (d.claimLoaded i c).mqu = d.mqu := by
  have claimed (h : Option Nat) := Dev.TablesOnly.setClaim d i h
  unfold Dev.claimLoaded
  split
  · split
    · simp [(claimed _).places]
    · simp
  · simp

theorem Dev.cart_claimLoaded {d : Dev} {i : CartIx} {x : Cart} (hx : d.cart i = some x) (c : Chan) :
    ∃ k, (d.claimLoaded i c).cart i = some { x with claim := k } ∧
      ∀ h s, (d.drive c).claim = some h → d.sess c = some s → s.handle = h → s.cart = some i → k = some h := by
  have looked (e : Dev) : e.look.cart i = e.cart i := by simp [Dev.cart]
  unfold Dev.claimLoaded
  split
  · next h hc =>
    split
    · exact ⟨some h, by simp [looked, Dev.cart_setClaim, hx], fun k s hk => by simp_all⟩
    · next hn => exact ⟨x.claim, by simp [looked, hx], fun k s hk hs hh hi => absurd (by simp_all) hn⟩
  · next hc => exact ⟨x.claim, by simp [looked, hx], fun k s hk => by simp_all⟩

/-! ### What the order's end leaves -/

/-- A LOAD whose drive is not EMPTY any more. -/
def Dev.MeetsBusy (d : Dev) (o : Order) (p : Place) : Prop := o.kind = .load ∧ ∃ c, p = .drive c ∧ (d.drive c).state ≠ .empty

namespace Dev.Moves

variable {d : Dev} {o : Order} {i : CartIx} {x : Cart} {p : Place}

theorem moved (h : d.Moves o i x p) : d.moved o = .cart i := by simp [Dev.moved, h.names, h.entry]

theorem cart_cameTo (h : d.Moves o i x p) : (d.cameTo o i p).cart i = some { x with location := some p } := by
  rw [Dev.cart_cameTo, h.entry]; rfl

theorem moveDone_load {c : Chan} (h : d.Moves o i x (.drive c)) (hk : o.kind = .load) :
    d.moveDone o (.drive c) = (((d.cameTo o i (.drive c)).dropOrder o).loaded i c).tell o .ok := by
  simp only [Dev.moveDone, h.moved, hk]; rfl
theorem moveDone_loadElsewhere (h : d.Moves o i x p) (hk : o.kind = .load) (hp : ∀ c, p ≠ .drive c) :
    d.moveDone o p = ((d.cameTo o i p).dropOrder o).tell o .ok := by
  cases p with
  | drive c => exact absurd rfl (hp c)
  | _ => simp only [Dev.moveDone, h.moved, hk]; rfl
theorem moveDone_unload (h : d.Moves o i x p) (hk : o.kind = .unload) :
    d.moveDone o p = ((((d.cameTo o i p).setOcc o.src .none).retireTest i).settleHome i p).unloaded o (.cart i) p := by
  simp only [Dev.moveDone, h.moved, hk]; rfl
theorem moveDone_inward (h : d.Moves o i x p) (hk : o.kind = .importing ∨ o.kind = .relocate) :
    d.moveDone o p = ((((d.cameTo o i p).settleHome i p).markExport o.src none).dropOrder o).tell o .ok := by
  rcases hk with hk | hk <;> (simp only [Dev.moveDone, h.moved, hk]; rfl)
theorem moveDone_export (h : d.Moves o i x p) (hk : o.kind = .exporting) :
    d.moveDone o p = (((d.cameTo o i p).markExport p (some i)).dropOrder o).tell o .ok := by
  simp only [Dev.moveDone, h.moved, hk]; rfl

/-- R91: the kinds an OK MOVE can be of. -/
theorem kinds (h : d.Moves o i x p) : o.kind = .load ∨ o.kind = .unload ∨ (o.kind = .importing ∨ o.kind = .relocate) ∨
    o.kind = .exporting := by
  have := h.noScan
  cases hk : o.kind <;> simp_all

/-! #### The places -/

theorem drive_before (d : Dev) (o : Order) (i : CartIx) (p : Place) (c : Chan) :
    ((d.cameTo o i p).dropOrder o).drive c = d.drive c := Dev.drive_of_ch (by simp) c

theorem place_moveDone (h : d.Moves o i x p) (q : Place) : (¬ d.MeetsBusy o p → (d.moveDone o p).place q = (d.cameTo o i p).place q) ∧
    (d.MeetsBusy o p → (d.moveDone o p).place q =
      if q = p then { (d.cameTo o i p).place p with confirmed := false } else (d.cameTo o i p).place q) := by
  have len : (d.cameTo o i p).cat.places.length = 28 := by rw [Dev.cameTo_length, h.places]
  have plain (hk : o.kind ≠ .load ∨ ∀ c, p ≠ .drive c) (hq : (d.moveDone o p).place q = (d.cameTo o i p).place q) :
      (¬ d.MeetsBusy o p → (d.moveDone o p).place q = (d.cameTo o i p).place q) ∧ (d.MeetsBusy o p → (d.moveDone o p).place q =
        if q = p then { (d.cameTo o i p).place p with confirmed := false } else (d.cameTo o i p).place q) :=
    ⟨fun _ => hq, fun ⟨hl, c, hc, _⟩ => (hk.elim (· hl) (· c hc)).elim⟩
  rcases h.kinds with hk | hk | hk | hk
  · cases p with
    | drive c =>
      rw [h.moveDone_load hk]
      by_cases hs : (d.drive c).state = .empty
      · refine ⟨fun _ => ?_, fun ⟨_, k, hc, hn⟩ => by cases hc; exact absurd hs hn⟩
        rw [Dev.loaded_empty (by rw [drive_before, hs])]
        refine Dev.place_of_places ?_ q
        rw [Dev.tell_cat, (Dev.claimLoaded_frame ..).1, Dev.modDrive_cat, Dev.modCart_places, Dev.dropOrder_cat]
      · refine ⟨fun hn => absurd ⟨hk, c, rfl, hs⟩ hn, fun _ => ?_⟩
        rw [Dev.loaded_busy (by rwa [drive_before]), Dev.place_of_cat (Dev.tell_cat ..),
          Dev.place_setConfirmed (by rw [Dev.modCart_places, Dev.dropOrder_cat, len])]
        have same (r : Place) : (((d.cameTo o i (.drive c)).dropOrder o).modCart i fun x => { x with loads := satInc x.loads }).place r =
            (d.cameTo o i (.drive c)).place r := Dev.place_of_places (by rw [Dev.modCart_places, Dev.dropOrder_cat]) r
        rw [same, same]
    | _ =>
      refine plain (.inr nofun) ?_
      rw [h.moveDone_loadElsewhere hk nofun]
      exact Dev.place_of_cat (by simp) q
  · refine plain (.inl (by simp [hk])) ?_
    rw [h.moveDone_unload hk, Dev.place_of_cat (Dev.unloaded_frame ..).1, (Dev.settleHome_frame ..).place,
      (Dev.retireTest_frame ..).place, Dev.place_setOcc len]
    split
    · next hq => simp [hq, h.place_cameTo, h.leaves]
    · rfl
  · refine plain (.inl (by rcases hk with hk | hk <;> simp [hk])) ?_
    rw [h.moveDone_inward hk, Dev.place_of_cat (by simp : _ = ((d.cameTo o i p).settleHome i p).cat), (Dev.settleHome_frame ..).place]
  · refine plain (.inl (by simp [hk])) ?_
    rw [h.moveDone_export hk]
    exact Dev.place_of_cat (by simp) q

/-! #### The cartridge -/

/-- R72: a LOAD into an EMPTY drive. -/
theorem cart_moveDone_load {c : Chan} (h : d.Moves o i x (.drive c)) (hk : o.kind = .load) (hs : (d.drive c).state = .empty) :
    ∃ k, (d.moveDone o (.drive c)).cart i = some { x with location := some (.drive c), loads := satInc x.loads, claim := k } ∧
      ∀ g s, (d.drive c).claim = some g → d.sess c = some s → s.handle = g → s.cart = some i → k = some g := by
  have entry : (((d.cameTo o i (.drive c)).dropOrder o).modCart i fun x => { x with loads := satInc x.loads }).cart i =
      some { x with location := some (.drive c), loads := satInc x.loads } := by
    rw [Dev.cart_modCart_same, Dev.cart_dropOrder, h.cart_cameTo]; rfl
  obtain ⟨k, hc, hk'⟩ := Dev.cart_claimLoaded (d := (((d.cameTo o i (.drive c)).dropOrder o).modCart i fun x =>
    { x with loads := satInc x.loads }).modDrive c (Drive.inserting i)) (i := i) ((Dev.cart_congr (Dev.modDrive_cat ..) i).trans entry) c
  refine ⟨k, ?_, fun g s hg hd hh hi => hk' g s ?_ ?_ hh hi⟩
  · rw [h.moveDone_load hk, Dev.loaded_empty (by rw [drive_before, hs]), Dev.cart_tell, hc]
  · rw [Dev.drive_modDrive, (Dev.TablesOnly.modCart ..).drive, drive_before]; exact hg
  · rw [Dev.sess_modDrive, (Dev.TablesOnly.modCart ..).sess, Dev.sess_of_ch (by simp : _ = d.ch)]; exact hd

/-- R9: a cartridge that comes to rest, the RETIRED test of an UNLOAD apart. -/
theorem cart_moveDone_atRest (h : d.Moves o i x p) (hk : o.kind = .unload ∨ o.kind = .importing ∨ o.kind = .relocate) :
    ∃ r, (d.moveDone o p).cart i = some (({ x with location := some p, retired := r } : Cart).atRest d.cat.live p) := by
  rcases hk with hk | hk
  · have entry : ((d.cameTo o i p).setOcc o.src .none).cart i = some { x with location := some p } := by
      rw [Dev.cart_setOcc, h.cart_cameTo]
    obtain ⟨r, hr⟩ := Dev.cart_retireTest entry
    refine ⟨r, ?_⟩
    rw [h.moveDone_unload hk, Dev.cart_congr (Dev.unloaded_frame ..).1, Dev.cart_settleHome hr,
      (Dev.retireTest_frame ..).live, Dev.setOcc_live, Dev.cameTo_live]
  · refine ⟨x.retired, ?_⟩
    rw [h.moveDone_inward hk, Dev.cart_tell, Dev.cart_dropOrder, Dev.cart_markExport,
      Dev.cart_settleHome h.cart_cameTo, Dev.cameTo_live]

theorem location_moveDone (h : d.Moves o i x p) : ((d.moveDone o p).cart i).bind (·.location) = some p := by
  rcases h.kinds with hk | hk | hk | hk
  · cases p with
    | drive c =>
      by_cases hs : (d.drive c).state = .empty
      · obtain ⟨k, hc, -⟩ := h.cart_moveDone_load hk hs
        rw [hc]; rfl
      · rw [h.moveDone_load hk, Dev.loaded_busy (by rwa [drive_before]), Dev.cart_tell,
          Dev.cart_setConfirmed, Dev.cart_modCart_same, Dev.cart_dropOrder, h.cart_cameTo]; rfl
    | _ =>
      rw [h.moveDone_loadElsewhere hk nofun, Dev.cart_tell, Dev.cart_dropOrder, h.cart_cameTo]; rfl
  · obtain ⟨r, hr⟩ := h.cart_moveDone_atRest (.inl hk)
    simp [hr, Cart.atRest_location]
  · obtain ⟨r, hr⟩ := h.cart_moveDone_atRest (.inr hk)
    simp [hr, Cart.atRest_location]
  · rw [h.moveDone_export hk, Dev.cart_tell, Dev.cart_dropOrder, Dev.cart_markExport, h.cart_cameTo]; rfl

theorem drive_moveDone_load {c : Chan} (h : d.Moves o i x (.drive c)) (hk : o.kind = .load) (hs : (d.drive c).state = .empty) :
    (d.moveDone o (.drive c)).drive c = (d.drive c).inserting i := by
  rw [h.moveDone_load hk, Dev.loaded_empty (by rw [drive_before, hs]), Dev.drive_of_ch (Dev.tell_ch ..),
    Dev.drive_of_ch (Dev.claimLoaded_frame ..).2.1, Dev.drive_modDrive, (Dev.TablesOnly.modCart ..).drive, drive_before]

/-! #### The marks and the queue -/

theorem queue_moveDone (h : d.Moves o i x p) (hu : o.kind ≠ .unload ∨ o.exportTag = none ∨ ∃ m, p = .mail m) :
    (d.moveDone o p).mqu.queue = d.mqu.queue.erase o := by
  rcases h.kinds with hk | hk | hk | hk
  · cases p with
    | drive c =>
      rw [h.moveDone_load hk, Dev.tell_mqu]
      by_cases hs : (d.drive c).state = .empty
      · rw [Dev.loaded_empty (by rw [drive_before, hs]), (Dev.claimLoaded_frame ..).2.2, Dev.modDrive_mqu,
          (Dev.TablesOnly.modCart ..).mqu, Dev.dropOrder_queue, Dev.cameTo_queue]
      · rw [Dev.loaded_busy (by rwa [drive_before]), Dev.setConfirmed_mqu, (Dev.TablesOnly.modCart ..).mqu, Dev.dropOrder_queue,
          Dev.cameTo_queue]
    | _ => rw [h.moveDone_loadElsewhere hk nofun, Dev.tell_mqu, Dev.dropOrder_queue, Dev.cameTo_queue]
  · have before : ((((d.cameTo o i p).setOcc o.src .none).retireTest i).settleHome i p).mqu.queue = d.mqu.queue := by
      rw [(Dev.settleHome_frame ..).mqu, (Dev.retireTest_frame ..).mqu, Dev.setOcc_queue, Dev.cameTo_queue]
    rw [h.moveDone_unload hk]
    cases ht : o.exportTag with
    | none => rw [Dev.unloaded_untagged ht, Dev.look_mqu, Dev.dropOrder_queue, before]
    | some q =>
      obtain ⟨m, rfl⟩ : ∃ m, p = .mail m := by simpa [hk, ht] using hu
      rw [Dev.unloaded_elsewhere ht _ _ (p := .mail m) nofun, Dev.look_mqu, Dev.answer_mqu, Dev.markExport_queue, Dev.dropOrder_queue, before]
  · rw [h.moveDone_inward hk, Dev.tell_mqu, Dev.dropOrder_queue, Dev.markExport_queue, (Dev.settleHome_frame ..).mqu,
      Dev.cameTo_queue]
  · rw [h.moveDone_export hk, Dev.tell_mqu, Dev.dropOrder_queue, Dev.markExport_queue, Dev.cameTo_queue]

/-- R98: the EXPORT an UNLOAD was for takes its place in the queue. -/
theorem export_mem_queue {q : ReqId} {n : Fin 24} (h : d.Moves o i x (.slot n)) (hk : o.kind = .unload) (ht : o.exportTag = some q)
    (ho : o ∈ d.mqu.queue) : exportOf i (.slot n) q ∈ (d.moveDone o (.slot n)).mqu.queue := by
  rw [h.moveDone_unload hk, Dev.unloaded_slot ht, Dev.look_mqu, Dev.orderLeft_mqu, Dev.modMqu_mqu, (Dev.settleHome_frame ..).mqu,
    (Dev.retireTest_frame ..).mqu]
  refine List.mem_map.mpr ⟨o, ?_, if_pos rfl⟩
  rwa [Dev.setOcc_queue, Dev.cameTo_queue]

end Dev.Moves

/-- Settles O34: each group of its clauses is one lemma about `Dev.moveDone` above. -/
theorem movedCartridgeIsAtItsDestination : Obligations.MovedCartridgeIsAtItsDestination := by
  intro d o i x p hkind hcart hsrc hx hloc hocc hplaces _ e busyDrive exports
  have h : d.Moves o i x p := ⟨hkind, hcart, hsrc, hx, hloc, hocc, hplaces⟩
  have place (q : Place) (hq : q ≠ p ∨ ¬ busyDrive) : e.place q = (d.cameTo o i p).place q := by
    by_cases hb : busyDrive
    · rw [(h.place_moveDone q).2 hb, if_neg (hq.resolve_right (not_not_intro hb))]
    · exact (h.place_moveDone q).1 hb
  have atP (hb : busyDrive) : e.place p = { (d.cameTo o i p).place p with confirmed := false } := by
    rw [(h.place_moveDone p).2 hb, if_pos rfl]
  have tag {q : ReqId} (hq : exports q) : o.exportTag = some q := Order.exportTag_single hq.2
  refine ⟨h.location_moveDone, ?_, ?_, fun hh => ⟨?_, fun hb => ?_⟩, fun hb => ?_, fun q hs hp => ?_, ?_, ?_, ?_, ?_, ?_, ?_, ?_⟩
  · rw [Dev.occ, place _ (.inl hsrc), h.place_cameTo]; simp [hsrc]
  · by_cases hb : busyDrive
    · rw [Dev.occ, atP hb, h.place_cameTo]; simp
    · rw [Dev.occ, place _ (.inr hb), h.place_cameTo]; simp
  · rw [Dev.confirmed, place _ (.inl hsrc), h.place_cameTo]; simp [hsrc, hh]
  · rw [Dev.confirmed, place _ (.inr hb), h.place_cameTo]; simp [hh]
  · rw [Dev.confirmed, atP hb]
  · rw [place _ (.inl hp), h.place_cameTo, if_neg hp, if_neg hs]
  · rintro c hk rfl hs
    obtain ⟨k, hc, hclaim⟩ := h.cart_moveDone_load hk hs
    refine ⟨?_, ?_, fun g s hg hd hh hi => ?_⟩
    · simp only [e, h.drive_moveDone_load hk hs]; exact ⟨rfl, rfl, rfl, rfl⟩
    · simp [e, hc]
    · simp [e, hc, hclaim g s hg hd hh hi]
  · rintro n rfl hk
    obtain ⟨r, hr⟩ := h.cart_moveDone_atRest hk
    refine ⟨fun hn => ?_, fun hn => ?_⟩
    · simp [e, hr, Cart.atRest, hn]
    · obtain ⟨n', hn'⟩ := Option.ne_none_iff_exists'.mp hn
      simp [e, hr, Cart.atRest, hn']
  · rintro m hk rfl
    simp only [e, h.moveDone_export hk, Dev.tell_mqu, Dev.dropOrder_exportMark, Dev.markExport_mail, Option.map_some]
  · rintro m hk hm
    simp only [e, h.moveDone_inward hk, hm, Dev.tell_mqu, Dev.dropOrder_exportMark, Dev.markExport_mail, Option.map_none]
  · rintro q m hq rfl
    simp only [e, h.moveDone_unload hq.1, Dev.unloaded_elsewhere (tag hq) _ _ (p := .mail m) nofun, Dev.look_mqu, Dev.answer_mqu,
      Dev.markExport_mail, Option.map_some]
  · rintro q n hq rfl ho
    exact h.export_mem_queue hq.1 (tag hq) ho
  · rintro hu
    refine h.queue_moveDone (hu.imp_right (Or.imp_left Order.exportTag_none))

end Sys2Proof.Machine
end

section
/-! WRITE and READ completions (R60, R63, R70, R127), and what a rebuild makes of records and groups (R165 to R167). -/

namespace Sys2Proof.Machine

/-! ### Completions (R69) -/

theorem exec_writeCompletion (c : Chan) (n : Nat) (k : DriveKind) (s : State) :
    exec (.writeCompletion c n k) s = execWriteCompletion c n k s := by rfl
theorem exec_readCompletion (c : Chan) (n : Nat) (k : DriveKind) (bytes : List Byte) (s : State) :
    exec (.readCompletion c n k bytes) s = execReadCompletion c n k bytes s := by rfl

/-- R69: the completion of the outstanding command leads to its own meaning. -/
theorem Dev.completion_awaited {d : Dev} {c : Chan} {o : Outstanding} (h : d.awaits c o) (k : Outstanding → Dev → Dev) :
    d.begin.completion c o.num k = (k o (d.begin.commandEnded c)).push (.command c) := by
  obtain ⟨hstale, hout⟩ := h
  have drive : d.begin.drive c = d.drive c := rfl
  simp [Dev.completion, drive, hstale, hout, Dev.commandEnded]

theorem exec_writeCompletion_awaited {s : State} {c : Chan} {o : Outstanding} {r : Record} {p : Nat} (h : s.dev.awaits c o)
    (hw : o.cmd = .write r p) (k : DriveKind) : exec (.writeCompletion c o.num k) s =
      .next { s with dev := (((s.dev.begin.commandEnded c).writeDone c o r p k).push (.command c)).finish } := by
  rw [exec_writeCompletion, execWriteCompletion, State.does, Dev.completion_awaited h]
  simp only [hw]

theorem exec_readCompletion_awaited {s : State} {c : Chan} {o : Outstanding} (h : s.dev.awaits c o) (hr : o.cmd = .read)
    (k : DriveKind) (bytes : List Byte) : exec (.readCompletion c o.num k bytes) s =
      .next { s with dev := (((s.dev.begin.commandEnded c).readDone c o k bytes).push (.command c)).finish } := by
  rw [exec_readCompletion, execReadCompletion, State.does, Dev.completion_awaited h]
  simp only [hr]

/-- R89: the session that sent a command still stands. -/
theorem Dev.ownerOf_isSome (d : Dev) (c : Chan) (o : Outstanding) :
    (d.ownerOf c o).isSome = true ↔ ∃ x, d.sess c = some x ∧ o.owner = some x.handle := by
  unfold Dev.ownerOf
  cases d.sess c with
  | none => simp
  | some x => by_cases ho : o.owner = some x.handle <;> simp [ho]

/-! ### The records of a rebuild (R165, R166) -/

@[simp] theorem Dev.modRebuild_cat (d : Dev) (c : Chan) (f : Rebuild → Rebuild) : (d.modRebuild c f).cat = d.cat := by
  simp [Dev.modRebuild]

/-- R165: the hard errors in a row are fewer than sixteen. -/
theorem Dev.rebuildHard_goesOn {d : Dev} {c : Chan} {s : Session} {b : Rebuild} (h : d.rebuild? c = some (s, b)) (skip : Bool)
    (hn : b.hardRun + 1 < 16) : d.rebuildHard c skip =
      d.modRebuild c fun b => { b with hardRun := b.hardRun + 1, skipped := if skip then b.skipped + 1 else b.skipped } := by
  rw [Dev.rebuildHard, Dev.rebuild?_modRebuild h]
  exact if_neg (Nat.not_le.mpr hn)

/-- R165: the sixteenth in a row ends the session. -/
theorem Dev.rebuildHard_ends {d : Dev} {c : Chan} {s : Session} {b : Rebuild} (h : d.rebuild? c = some (s, b)) (skip : Bool)
    (hn : 16 ≤ b.hardRun + 1) : (d.rebuildHard c skip).SessionOver c := by
  rw [Dev.rebuildHard, Dev.rebuild?_modRebuild h]
  dsimp only
  rw [if_pos (show Config.maxHardRun ≤ b.hardRun + 1 from hn)]
  exact (Dev.rebuildIncomplete_spec .damaged (by rw [Dev.rebuild?_modRebuild h]; rfl)).2

/-- What a rebuild has counted of a record it read with data. -/
def Rebuild.sized (pos size : Nat) (b : Rebuild) : Rebuild := { b with lastPos := pos + 1, storedSum := b.storedSum + size }

theorem Dev.rebuildRecord_bad {d : Dev} {c : Chan} {s : Session} {b : Rebuild} {r : ReadEntry} (h : d.rebuild? c = some (s, b))
    (hc : (readHeader r.bytes).check = false) (out : Option (List Byte)) :
    d.rebuildRecord c r out = (d.modRebuild c (Rebuild.sized r.pos r.bytes.length)).rebuildHard c true := by
  rw [Dev.rebuildRecord, h]
  simp only [hc, Bool.false_and, Bool.false_eq_true, if_false]
  rfl

/-- R166: the group a DATA record joins: the current one, or a new one while there is none. -/
def Rebuild.groupOf (b : Rebuild) (h : Header) (pos : Nat) : Group := b.group.getD (startGroup h pos)

/-- A change of the rebuild's own context is what it is on the context that stands. -/
theorem Dev.modRebuild_congr {d : Dev} {c : Chan} {s : Session} {b : Rebuild} (h : d.rebuild? c = some (s, b)) {f g : Rebuild → Rebuild}
    (hfg : f b = g b) : d.modRebuild c f = d.modRebuild c g := by
  obtain ⟨hs, hk⟩ := Dev.rebuild?_eq_some.mp h
  have chan : (d.chan c).sess = some s := hs
  simp [Dev.modRebuild, Dev.modSess, Dev.modChan, chan, hk, hfg]

theorem Dev.takeIntoGroup_data {d : Dev} {c : Chan} {s : Session} {b : Rebuild} (h : d.rebuild? c = some (s, b)) (k : Header)
    (pos : Nat) (payload : Option (List Byte)) (hg : ∀ g, b.group = some g → g.tape = k.tape ∧ g.ordinal = k.ordinal) :
    d.takeIntoGroup c k .data pos true payload = (d.modRebuild c fun x =>
      { x with anyHeader := true, group := some ((b.groupOf k pos).add k .data pos true) }, true) := by
  rw [Dev.takeIntoGroup, h]
  cases hb : b.group with
  | none => simp [Rebuild.groupOf, Dev.closeGroup, h, hb]
  | some g =>
    obtain ⟨ht, ho⟩ := hg g hb
    simp only [hb, Option.any_some, ht, ho, decide_true, Bool.and_self, if_true, Bool.not_true, Bool.false_eq_true, if_false, true_or]
    exact congrArg (·, true) (Dev.modRebuild_congr h rfl)

/-- R165, R166: a DATA record that passes, with its payload. -/
theorem Dev.rebuildRecord_data {d : Dev} {c : Chan} {s : Session} {b : Rebuild} {r : ReadEntry} {bs : List Byte}
    (h : d.rebuild? c = some (s, b)) (hc : (readHeader r.bytes).check = true) (hk : (readHeader r.bytes).kind = some .data)
    (hl : 1 ≤ (readHeader r.bytes).ordinal) (hu : (readHeader r.bytes).ordinal ≤ 4) (ht : (readHeader r.bytes).tape ≠ 0)
    (hcrc : crc32 bs = (readHeader r.bytes).rawCrc)
    (hg : ∀ g, b.group = some g → g.tape = (readHeader r.bytes).tape ∧ g.ordinal = (readHeader r.bytes).ordinal) :
    (d.rebuildRecord c r (some bs)).cat = d.cat ∧ ∃ s', (d.rebuildRecord c r (some bs)).rebuild? c = some (s',
      { b.sized r.pos (32 + (readHeader r.bytes).payloadLength) with
        hardRun := 0, anyHeader := true
        group := some ((b.groupOf (readHeader r.bytes) r.pos).add (readHeader r.bytes) .data r.pos true) }) := by
  have sized := Dev.rebuild?_modRebuild h (Rebuild.sized r.pos (32 + (readHeader r.bytes).payloadLength))
  have taken := Dev.takeIntoGroup_data sized (readHeader r.bytes) r.pos (some bs) hg
  have eq : d.rebuildRecord c r (some bs) = ((d.modRebuild c (Rebuild.sized r.pos (32 + (readHeader r.bytes).payloadLength))).modRebuild
      c fun x => { x with anyHeader := true, group := some ((b.groupOf (readHeader r.bytes) r.pos).add (readHeader r.bytes) .data r.pos
        true) }).modRebuild c fun x => { x with hardRun := 0 } := by
    rw [Dev.rebuildRecord, h]
    simp only [hc, hk, hl, hu, ht, hcrc, ne_eq, not_false_eq_true, decide_true, Bool.and_true, if_true, Option.bind_some,
      Option.isSome_some]
    rw [show (d.modRebuild c fun x => { x with lastPos := r.pos + 1, storedSum := x.storedSum + (32 + (readHeader r.bytes).payloadLength)
      }) = d.modRebuild c (Rebuild.sized r.pos (32 + (readHeader r.bytes).payloadLength)) from rfl, taken]
    rfl
  rw [eq]
  exact ⟨by simp, _, Dev.rebuild?_modRebuild (Dev.rebuild?_modRebuild sized _) _⟩

/-! ### A group joins an entry (R167) -/

/-- R167: the entry a group has joined, before its state is set. -/
def BackupSet.joined (y : BackupSet) (i : CartIx) (g : Group) : BackupSet :=
  { y.figures i g y.closeTaken (insertSegment ⟨g.ordinal, i, g.firstPos, g.firstSeq.getD 0, g.count⟩ y.segments) with
    ends := y.ends ++ [(g.ordinal, g.ended)] }

/-- R17, R167: and with its state. -/
def BackupSet.placed (y : BackupSet) (i : CartIx) (g : Group) (choice : Nat) : BackupSet :=
  (y.joined i g).inState ((y.joined i g).rebuiltState y.closeTaken choice)

theorem Dev.joinGroup_eq {d : Dev} {c : Chan} {k : SetIx} {y : BackupSet} {p : Session × Rebuild} (hy : d.set? k = some y)
    (hb : d.rebuild? c = some p) (i : CartIx) (g : Group) : ∃ choice n f, d.joinGroup c i k g =
      ((({ d with races := n } : Dev).putSet k (.holds (y.placed i g choice))).modRebuild c f).joinCart i (y.onCart i) := by
  rw [Dev.joinGroup, hy, hb]
  dsimp only
  split
  · exact ⟨_, _, _, rfl⟩
  · exact ⟨_, d.races, _, rfl⟩

namespace BackupSet

variable (y : BackupSet) (i : CartIx) (g : Group)

theorem figures_joined : (y.joined i g).segments = insertSegment ⟨g.ordinal, i, g.firstPos, g.firstSeq.getD 0, g.count⟩ y.segments ∧
    (y.joined i g).dataCount = narrow32 ((y.joined i g).segments.map Segment.count).sum ∧
    (y.joined i g).storedBytes = narrow64 (y.storedBytes + g.stored) ∧ (y.joined i g).number = y.number ∧
    (y.joined i g).tape = y.tape ∧ (y.joined i g).inUse = y.inUse ∧ (y.joined i g).ends = y.ends ++ [(g.ordinal, g.ended)] := by
  unfold joined figures
  cases g.close <;> exact ⟨rfl, rfl, rfl, rfl, rfl, rfl, rfl⟩

/-- R167: the figures a CLOSE trailer gives. -/
theorem closed_joined {t : CloseTrailer} (h : g.close = some t) : (y.joined i g).fileCount = t.fileCount ∧
    (y.joined i g).rawBytes = t.raw ∧ (y.joined i g).digest = (if t.digestMark = 1 then some t.digest else none) ∧
    (y.joined i g).digestOff = decide (t.digestMark = 0) ∧
    ((∀ k, k < t.indexCount → ∃ p ∈ g.indexes, p.1 = k) → (y.joined i g).closeLoc = some ⟨i, t.indexPos, t.indexCount⟩) := by
  unfold joined figures
  rw [h]
  refine ⟨rfl, rfl, rfl, rfl, fun whole => if_pos ?_⟩
  simpa using whole

theorem insertSegment_last {s : Segment} {l : List Segment} (h : ∀ t ∈ l, t.ordinal < s.ordinal) : insertSegment s l = l ++ [s] := by
  induction l with
  | nil => rfl
  | cons t l ih =>
    have ht := h t (by simp)
    rw [insertSegment, if_neg (by omega), ih fun u hu => h u (by simp [hu])]
    rfl

/-- R167: a group of the highest ordinal tells how the entry's highest-ordinal group ended. -/
theorem topEnd_joined (hs : ∀ s ∈ y.segments, s.ordinal < g.ordinal) (he : ∀ t ∈ y.ends, t.1 ≠ g.ordinal) (before : Bool) :
    (y.joined i g).topEnd before = some g.ended := by
  obtain ⟨segments, -, -, -, -, -, ends⟩ := y.figures_joined i g
  have last : (y.joined i g).lastSegment.map (·.ordinal) = some g.ordinal := by
    rw [lastSegment, segments, insertSegment_last hs]; simp
  have found : (y.joined i g).ends.find? (fun e => some e.1 = (y.joined i g).lastSegment.map (·.ordinal)) = some (g.ordinal, g.ended) := by
    rw [ends, last]
    simp only [List.find?_append]
    rw [List.find?_eq_none.mpr fun t ht => by simpa using he t ht]
    simp
  rw [topEnd, found]

theorem stateAfter_cases (x : BackupSet) (top : GroupEnd) : x.stateAfter top = .aborted ∨ x.stateAfter top = .recovered := by
  unfold stateAfter
  split
  · exact .inl rfl
  · exact .inr rfl

theorem stateAfter_eq_aborted (x : BackupSet) (top : GroupEnd) :
    x.stateAfter top = .aborted ↔ x.noGap = true ∧ (top = .abort ∨ top = .none) := by
  unfold stateAfter
  split <;> simp_all

end BackupSet

/-! ### Where a group joins -/

/-- R5: a SCRATCH cartridge a set joins becomes ACTIVE. -/
def Dev.entered (d : Dev) (i : CartIx) : Dev := if (d.cart i).any (·.state = .scratch) then d.setCartState i .active else d

theorem Dev.joinCart_eq (d : Dev) (i : CartIx) (named : Bool) :
    d.joinCart i named = (if named then d else d.raiseLive i).entered i := rfl

theorem Dev.entered_sets (d : Dev) (i : CartIx) : (d.entered i).cat.sets = d.cat.sets := by
  unfold Dev.entered; split <;> simp
theorem Dev.live_entered (d : Dev) (i : CartIx) : ((d.entered i).cart i).map (·.live) = (d.cart i).map (·.live) := by
  unfold Dev.entered
  split
  · rw [Dev.cart_setCartState, if_pos rfl, Option.map_map]; rfl
  · rfl

@[simp] theorem Dev.joinCart_sets (d : Dev) (i : CartIx) (named : Bool) : (d.joinCart i named).cat.sets = d.cat.sets := by
  rw [Dev.joinCart_eq, Dev.entered_sets]
  split
  · rfl
  · exact Dev.modCart_sets ..

/-- R10, R167: the live set count of the cartridge, one more unless the entry named it before. -/
theorem Dev.live_joinCart {d : Dev} {i : CartIx} {u : Cart} (h : d.cart i = some u) (named : Bool) :
    ((d.joinCart i named).cart i).map (·.live) = some (if named then u.live else u.live + 1) := by
  rw [Dev.joinCart_eq, Dev.live_entered]
  split
  · simp [h]
  · simp [Dev.raiseLive, h]

theorem Dev.joinGroup_tables {d : Dev} {c : Chan} {k : SetIx} {y : BackupSet} {p : Session × Rebuild} (hy : d.set? k = some y)
    (hb : d.rebuild? c = some p) (i : CartIx) (g : Group) :
    (∃ choice, (d.joinGroup c i k g).set? k = some (y.placed i g choice)) ∧
    (∀ j, j ≠ k → (d.joinGroup c i k g).set? j = d.set? j) ∧
    ∀ u, d.cart i = some u → ((d.joinGroup c i k g).cart i).map (·.live) = some (if y.onCart i then u.live else u.live + 1) := by
  obtain ⟨choice, n, f, eq⟩ := Dev.joinGroup_eq hy hb i g
  have raced : ({ d with races := n } : Dev).set? k = some y := hy
  have sets (j : SetIx) : (d.joinGroup c i k g).set? j =
      (({ d with races := n } : Dev).putSet k (.holds (y.placed i g choice))).set? j := by
    rw [eq]; exact Dev.set?_of_sets (by simp) j
  have carts : ((({ d with races := n } : Dev).putSet k (.holds (y.placed i g choice))).modRebuild c f).cart i = d.cart i :=
    Dev.cart_of_carts (by simp) i
  refine ⟨⟨choice, ?_⟩, fun j hj => ?_, fun u hu => ?_⟩
  · rw [sets, Dev.set?, Dev.entry_putSet_of_set raced, if_pos rfl]
  · rw [sets, Dev.set?, Dev.entry_putSet_of_set raced, if_neg hj]; rfl
  · rw [eq, Dev.live_joinCart (carts.trans hu)]

/-! ### The obligation -/

/-- Settles O43: the completions, the records of a rebuild, and the group that joins an entry. -/
theorem recordsAreWrittenAndRead : Obligations.RecordsAreWrittenAndRead := by
  refine ⟨fun s c o h => ?_, fun d c x b r hb => ?_, fun d c i k y x b g hy hb => ?_⟩
  · intro e gives mine after read
    have owner : ((s.dev.begin.commandEnded c).ownerOf c o).isSome = true ↔ mine := by
      rw [Dev.ownerOf_isSome, show (s.dev.begin.commandEnded c).sess c = s.dev.sess c from Dev.sess_modDrive ..]
    have pos : ((s.dev.begin.commandEnded c).drive c).pos = (s.dev.drive c).pos := by
      rw [Dev.commandEnded, Dev.drive_modDrive]; rfl
    refine ⟨fun r p hw hm => ?_, fun r p hw hm => ?_, fun hr hm bytes => ?_, fun hr hm bytes => ?_⟩
    · have held := owner.mpr hm
      refine ⟨?_, ?_, ?_, fun k hk => ?_⟩
      · exact (exec_writeCompletion_awaited h hw _).trans (by simp only [Dev.writeDone, held, if_true]; rfl)
      · exact (exec_writeCompletion_awaited h hw _).trans (by simp only [Dev.writeDone, held, if_true]; rfl)
      · exact (exec_writeCompletion_awaited h hw _).trans (by simp only [Dev.writeDone, held, if_true]; rfl)
      · rcases List.mem_pair.mp hk with rfl | rfl <;>
          exact (exec_writeCompletion_awaited h hw _).trans (by simp only [Dev.writeDone, held, if_true]; rfl)
    · have gone : ¬ ((s.dev.begin.commandEnded c).ownerOf c o).isSome = true := fun hs => hm (owner.mp hs)
      exact (exec_writeCompletion_awaited h hw _).trans (by simp only [Dev.writeDone, gone]; rfl)
    · have held := owner.mpr hm
      refine ⟨fun k hk => ?_, ?_, fun k hk => ?_⟩
      · rcases List.mem_pair.mp hk with rfl | rfl <;>
          exact (exec_readCompletion_awaited h hr _ _).trans (by simp only [Dev.readDone, held, if_true, pos, read]; rfl)
      · exact (exec_readCompletion_awaited h hr _ _).trans (by simp only [Dev.readDone, held, if_true, pos, read]; rfl)
      · rcases List.mem_pair.mp hk with rfl | rfl <;>
          exact (exec_readCompletion_awaited h hr _ _).trans (by simp only [Dev.readDone, held, if_true]; rfl)
    · have gone : ¬ ((s.dev.begin.commandEnded c).ownerOf c o).isSome = true := fun hs => hm (owner.mp hs)
      exact (exec_readCompletion_awaited h hr _ _).trans (by simp only [Dev.readDone, gone, pos, read]; rfl)
  · intro h now
    refine ⟨fun hc out => ⟨fun hn => ?_, fun hn => ?_⟩, fun bs hc hk hl hu ht hcrc => ⟨fun hg => ?_, fun g q hg hgt hgo hq => ?_⟩⟩
    · have sized := Dev.rebuild?_modRebuild hb (Rebuild.sized r.pos r.bytes.length)
      simp only [Dev.rebuildRecord_bad hb hc, Dev.rebuildHard_goesOn sized true hn]
      exact ⟨by simp, _, _, Dev.rebuild?_modRebuild sized _, rfl⟩
    · have sized := Dev.rebuild?_modRebuild hb (Rebuild.sized r.pos r.bytes.length)
      rw [Dev.rebuildRecord_bad hb hc]
      obtain ⟨sess, claim⟩ := Dev.rebuildHard_ends sized true hn
      exact ⟨sess, claim⟩
    · obtain ⟨cat, s', after⟩ := Dev.rebuildRecord_data hb hc hk hl hu ht hcrc (by simp [hg])
      refine ⟨cat, s', _, after, ?_⟩
      simp [Rebuild.sized, Rebuild.groupOf, hg, startGroup, Group.add, h]
    · obtain ⟨cat, s', after⟩ := Dev.rebuildRecord_data hb hc hk hl hu ht hcrc (by
        intro g' hg'; cases hg.symm.trans hg'; exact ⟨hgt, hgo⟩)
      refine ⟨cat, s', _, after, ?_⟩
      simp [Rebuild.sized, Rebuild.groupOf, hg, hq, Group.add, h]
  · obtain ⟨⟨choice, hz⟩, others, live⟩ := Dev.joinGroup_tables hy hb i g
    obtain ⟨segments, dataCount, stored, number, tape, inUse, -⟩ := y.figures_joined i g
    have state : (y.placed i g choice).state = (y.joined i g).rebuiltState y.closeTaken choice := rfl
    have locator : (y.placed i g choice).locator = if (y.placed i g choice).state = .aborted then none else (y.joined i g).closeLoc := rfl
    refine ⟨_, hz, segments, dataCount, stored, number, tape, inUse, ?_, fun t ht => ?_, fun ha => ?_, rfl, fun hs he => ?_, others, live⟩
    · exact BackupSet.stateAfter_cases ..
    · obtain ⟨files, raw, digest, off, whole⟩ := y.closed_joined i g ht
      refine ⟨files, raw, digest, off, fun hr hw => ?_⟩
      rw [locator, if_neg (by rw [hr]; nofun), whole hw]
    · rw [locator, if_pos ha]
    · rw [state, BackupSet.rebuiltState, y.topEnd_joined i g hs he]
      exact BackupSet.stateAfter_eq_aborted ..

end Sys2Proof.Machine
end

section
/-! The report of a write (R6) and a span, from its trigger to its end (R132 to R135). -/

namespace Sys2Proof.Machine

/-! ### The report of a write (R6) -/

theorem Dev.writeReport_frame (d : Dev) (i : CartIx) (p n : Nat) : d.TablesOnly (d.writeReport i p n) := by
  unfold Dev.writeReport
  dsimp only
  split
  · split
    · exact (Dev.TablesOnly.modCart ..).trans (.setCartState ..)
    · exact .modCart ..
  · exact .modCart ..

theorem Dev.writeReport_sets (d : Dev) (i : CartIx) (p n : Nat) : (d.writeReport i p n).cat.sets = d.cat.sets := by
  unfold Dev.writeReport
  dsimp only
  split
  · split <;> simp
  · simp

theorem Dev.cart_writeReport_of_ne (d : Dev) {i j : CartIx} (h : j ≠ i) (p n : Nat) : (d.writeReport i p n).cart j = d.cart j := by
  unfold Dev.writeReport
  dsimp only
  split
  · split
    · rw [Dev.cart_setCartState, if_neg h, Dev.cart_modCart_of_ne _ _ h]
    · rw [Dev.cart_modCart_of_ne _ _ h]
  · rw [Dev.cart_modCart_of_ne _ _ h]

/-- R6: a cartridge is ACTIVE and its written bytes reach its capacity. -/
def Cart.filled (x : Cart) : Bool := x.state = .active ∧ x.capacity.any fun c => c * Config.mib ≤ x.written

/-- R6: a cartridge's entry with the figures of a report. -/
def Cart.reported (p n : Nat) (x : Cart) : Cart := { x with endPos := narrow32 (p + 1), written := narrow64 n }

theorem Dev.cart_writeReport {d : Dev} {i : CartIx} {x : Cart} (h : d.cart i = some x) (p n : Nat) : (d.writeReport i p n).cart i =
    some (if (x.reported p n).filled then { x.reported p n with state := .full } else x.reported p n) := by
  have reported : (d.modCart i (Cart.reported p n)).cart i = some (x.reported p n) := by rw [Dev.cart_modCart_same, h]; rfl
  have eq : d.writeReport i p n =
      if (x.reported p n).filled then (d.modCart i (Cart.reported p n)).setCartState i .full else d.modCart i (Cart.reported p n) := by
    rw [Dev.writeReport, show (d.modCart i fun x => { x with endPos := narrow32 (p + 1), written := narrow64 n }) =
      d.modCart i (Cart.reported p n) from rfl, reported]
    simp [Cart.filled]
  rw [eq]
  split
  · rw [Dev.cart_setCartState, if_pos rfl, reported]; rfl
  · exact reported

/-- R6: with figures in their fields' ranges, the test of the capacity is on the figure reported. -/
theorem Cart.reported_eq {p n : Nat} (hp : p + 1 < 4294967296) (hn : n < 18446744073709551616) (x : Cart) :
    x.reported p n = { x with endPos := p + 1, written := n } := by
  rw [reported, narrow32, if_pos hp, narrow64, if_pos hn]

theorem any_capacity_iff (cap : Option Nat) (m n : Nat) :
    (cap.any fun c => c * m ≤ n) = true ↔ ∃ c, cap = some c ∧ c * m ≤ n := by
  cases cap <;> simp

theorem Cart.filled_iff (x : Cart) :
    x.filled = true ↔ x.state = .active ∧ ∃ cap, x.capacity = some cap ∧ cap * Config.mib ≤ x.written := by
  rw [filled, decide_eq_true_iff, any_capacity_iff]

/-! ### Selection looks at no session's own context (R23, R24) -/

theorem Dev.sess_modSess_ne (d : Dev) {c k : Chan} (f : Session → Session) (h : k ≠ c) : (d.modSess c f).sess k = d.sess k :=
  match c, k, h with
  | .ch0, .ch1, _ | .ch1, .ch0, _ => rfl
  | .ch0, .ch0, h | .ch1, .ch1, h => absurd rfl h

theorem Dev.sess_modSess_any (d : Dev) (c k : Chan) (f : Session → Session) (p : Session → Bool) (h : ∀ s, p (f s) = p s) :
    ((d.modSess c f).sess k).any p = (d.sess k).any p := by
  by_cases hk : k = c
  · subst hk; cases hs : d.sess k <;> simp [hs, h]
  · rw [Dev.sess_modSess_ne d f hk]

/-- A session with its backup context changed. -/
def Session.withBackup (f : Backup → Backup) (s : Session) : Session :=
  match s.kind with
  | .backup b => { s with kind := .backup (f b) }
  | _ => s

theorem Dev.modBackup_eq (d : Dev) (c : Chan) (f : Backup → Backup) : d.modBackup c f = d.modSess c (Session.withBackup f) := rfl
theorem Session.withBackup_cart (f : Backup → Backup) (s : Session) : (s.withBackup f).cart = s.cart := by
  unfold Session.withBackup; split <;> rfl
theorem Session.withBackup_handle (f : Backup → Backup) (s : Session) : (s.withBackup f).handle = s.handle := by
  unfold Session.withBackup; split <;> rfl

theorem Dev.sessionCartOf_modBackup (d : Dev) (c : Chan) (f : Backup → Backup) (i : CartIx) (but : Option Nat) :
    (d.modBackup c f).sessionCartOf i but = d.sessionCartOf i but := by
  have same (k : Chan) := d.sess_modSess_any c k (Session.withBackup f) (fun s => decide (s.cart = some i ∧ some s.handle ≠ but))
    fun s => by rw [Session.withBackup_cart, Session.withBackup_handle]
  rw [Dev.modBackup_eq]
  simp only [Dev.sessionCartOf, same]

theorem Dev.locationFits_modBackup (d : Dev) (c k : Chan) (f : Backup → Backup) (p : Option Place) :
    (d.modBackup c f).locationFits k p = d.locationFits k p := by
  rcases p with _ | ⟨_ | _ | _⟩ <;> simp [Dev.locationFits]

theorem Dev.pickTarget_modBackup (d : Dev) (c k : Chan) (f : Backup → Backup) (h n : Nat) :
    (d.modBackup c f).pickTarget k h n true = d.pickTarget k h n true := by
  have cart (i : CartIx) : (d.modBackup c f).cart i = d.cart i := rfl
  have candidate (i : CartIx) : (d.modBackup c f).candidate k h n i = d.candidate k h n i := by
    simp only [Dev.candidate, cart, Dev.locationFits_modBackup, Dev.sessionCartOf_modBackup]; rfl
  have recyclable (i : CartIx) : (d.modBackup c f).recyclable k n i = d.recyclable k n i := by
    simp only [Dev.recyclable, cart, Dev.locationFits_modBackup, Dev.sessionCartOf_modBackup]; rfl
  rw [Dev.pickTarget_continuation, Dev.pickTarget_continuation]
  have scratch : (d.modBackup c f).pickScratch k h n = d.pickScratch k h n := by
    simp only [Dev.pickScratch, candidate, cart]; rfl
  have recycle : (d.modBackup c f).pickRecycle k n = d.pickRecycle k n := by
    simp only [Dev.pickRecycle, funext recyclable]; rfl
  rw [scratch, recycle]; rfl

/-! ### The span trigger (R132) -/

/-- A change of a backup's own context is what it is on the context that stands. -/
theorem Dev.modBackup_congr {d : Dev} {c : Chan} {s : Session} {b : Backup} (h : d.backup? c = some (s, b)) {f g : Backup → Backup}
    (hfg : f b = g b) : d.modBackup c f = d.modBackup c g := by
  obtain ⟨hs, hk⟩ := Dev.backup?_eq_some.mp h
  have chan : (d.chan c).sess = some s := hs
  simp [Dev.modBackup, Dev.modSess, Dev.modChan, chan, hk, hfg]

/-- R132: the context of a backup whose SPAN trailer is to be written. -/
def Backup.spanning (b : Backup) : Backup :=
  { b with state := .spanning, returnClosing := decide (b.state = .closing), window := none, writer := .stream, span := .trailer }

/-- R132: what the trigger leads to: the SPAN trailer heads the write queue with its page, or the segment closes without it. -/
def Dev.spanTrailer (d : Dev) (c : Chan) (i : SetIx) : Dev :=
  match d.takePage c with
  | some d => (d.modChan c fun x => { x with wq := .trailer .span :: x.wq }).push (.command c)
  | none => (d.modSet i fun x => { x with noSpanMark := true }).closeSegment c

@[simp] theorem Dev.modBackup_cat (d : Dev) (c : Chan) (f : Backup → Backup) : (d.modBackup c f).cat = d.cat := rfl
@[simp] theorem Dev.modBackup_cfg (d : Dev) (c : Chan) (f : Backup → Backup) : (d.modBackup c f).cfg = d.cfg := rfl
@[simp] theorem Dev.modBackup_smc (d : Dev) (c : Chan) (f : Backup → Backup) : (d.modBackup c f).smc = d.smc := rfl
theorem Dev.chan_of_ch {d e : Dev} (h : e.ch = d.ch) (c : Chan) : e.chan c = d.chan c := by simp [Dev.chan, h]

theorem Dev.spanTrailer_queued {d : Dev} {c : Chan} (h : d.smc.mayTake c = true) (i : SetIx) : let e := d.spanTrailer c i
    e.cat = d.cat ∧ e.smc = d.smc.take c ∧ (e.chan c).wq = .trailer .span :: (d.chan c).wq ∧ e.sess c = d.sess c := by
  have eq : d.spanTrailer c i = ((({ d with smc := d.smc.take c } : Dev).modChan c fun x =>
      { x with wq := .trailer .span :: x.wq }).push (.command c)) := by
    rw [Dev.spanTrailer, Dev.takePage, if_pos h]
  rw [eq]
  refine ⟨by simp, by simp, ?_, ?_⟩
  · rw [Dev.chan_of_ch (Dev.push_ch ..), Dev.chan_modChan]; rfl
  · rw [Dev.sess_of_ch (Dev.push_ch ..)]
    exact Dev.sess_modChan _ c c _ fun _ => rfl

theorem Dev.spanTrailer_refused {d : Dev} {c : Chan} (h : d.smc.mayTake c = false) (i : SetIx) :
    d.spanTrailer c i = (d.modSet i fun x => { x with noSpanMark := true }).closeSegment c := by
  rw [Dev.spanTrailer, Dev.takePage, if_neg (by simp [h])]

theorem Dev.beginSpan_eq {d : Dev} {c : Chan} {s : Session} {b : Backup} {i : SetIx} {y : BackupSet} {g : Segment}
    (hb : d.backup? c = some (s, b)) (hi : d.setOf s = some (i, y)) (hg : y.lastSegment = some g)
    (hs : b.state = .active ∨ b.state = .closing) : d.beginSpan c =
      if 4 ≤ g.ordinal then d.backupAbort c .spanLimit none else (d.modBackup c Backup.spanning).spanTrailer c i := by
  rw [Dev.beginSpan, hb]
  simp only [hi, Option.bind_some, hg, Option.map_some]
  rw [if_neg (by rcases hs with hs | hs <;> simp [hs])]
  rfl

theorem Dev.abortSession_backup {d : Dev} {c : Chan} {s : Session} {b : Backup} (h : d.backup? c = some (s, b)) (why : Reason) :
    d.abortSession c why = d.backupAbort c why none := by
  obtain ⟨hs, hk⟩ := Dev.backup?_eq_some.mp h
  simp [Dev.abortSession, hs, hk]

/-! ### The unload and the choice of the continuation (R86, R133, R134) -/

/-- R86: a READY drive that begins to unload. -/
def Drive.ejecting (q : Option Requester) (x : Drive) : Drive :=
  { x with state := .ejecting, unload := some ⟨.rewind, q⟩, idleTimer := none, rate := none, speed := none, speedPending := false }

theorem Dev.beginUnload_ready {d : Dev} {c : Chan} (hs : (d.drive c).state = .ready) (hu : (d.drive c).unload = none)
    (q : Option Requester) : d.beginUnload c q = (d.modDrive c (Drive.ejecting q)).look := by
  simp only [Dev.beginUnload, hu, hs]; rfl

/-- R133: the full cartridge is FULL, and the continuation is chosen. -/
def Dev.closing (d : Dev) (c : Chan) (i : CartIx) : Dev :=
  (d.setCartState i .full).modBackup c fun b => { b with span := .choosing }

theorem Dev.closeSegment_goesOn {d : Dev} {c : Chan} {s s' : Session} {b b' : Backup} {i : SetIx} {y : BackupSet} {g : Segment}
    (hb : d.backup? c = some (s, b)) (hi : d.setOf s = some (i, y)) (hg : y.lastSegment = some g)
    (ha : ((d.closing c g.cart).chooseContinuation c).backup? c = some (s', b')) (hs : b'.state = .spanning) :
    d.closeSegment c = ((d.closing c g.cart).chooseContinuation c).beginUnload c (some (.session s.handle)) := by
  rw [Dev.closeSegment, hb]
  simp only [hi, Option.bind_some, hg]
  rw [show ((d.setCartState g.cart .full).modBackup c fun b => { b with span := .choosing }) = d.closing c g.cart from rfl, ha]
  exact if_pos hs

theorem Dev.cart_unclaim (d : Dev) (k i : CartIx) (h : Nat) : (d.unclaim k h).cart i =
    if i = k then (d.cart k).map fun x => { x with claim := if x.claim = some h then none else x.claim } else d.cart i := by
  unfold Dev.unclaim
  cases hx : d.cart k with
  | none => by_cases hi : i = k <;> simp_all
  | some x =>
    by_cases hc : x.claim = some h
    · simp [hc, Dev.cart_setClaim, hx]
    · by_cases hi : i = k <;> simp_all

theorem Dev.unclaim_frame (d : Dev) (k : CartIx) (h : Nat) : d.TablesOnly (d.unclaim k h) := by
  unfold Dev.unclaim
  split
  · exact .setClaim ..
  · exact .refl d
theorem Dev.unclaim_sets (d : Dev) (k : CartIx) (h : Nat) : (d.unclaim k h).cat.sets = d.cat.sets := by
  unfold Dev.unclaim; split <;> simp

@[simp] theorem Dev.cartReleased_cat (d : Dev) : d.cartReleased.cat = d.cat := by simp [Dev.cartReleased]
@[simp] theorem Dev.cartReleased_ch (d : Dev) : d.cartReleased.ch = d.ch := by simp [Dev.cartReleased]

/-- R79: a session whose session cartridge changes to one that is not mounted in its drive. -/
theorem Dev.setSessCart_moves {d : Dev} {c : Chan} {s : Session} {j k : CartIx} (hs : d.sess c = some s) (hk : s.cart = some k)
    (hne : k ≠ j) (hm : (d.drive c).mounted ≠ .cart j) : ∃ y, d.setSessCart c j =
      ((((d.unclaim k s.handle).modSess c fun s => { s with cart := some j, yields := y, noted := none }).cartReleased).look) := by
  refine ⟨(d.unclaim k s.handle).sessionCartOf j (some s.handle), ?_⟩
  rw [Dev.setSessCart, hs]
  simp only [hk, Option.some.injEq, hne, if_false]
  rw [if_neg]
  rintro ⟨⟨mounted, -⟩, -⟩
  rw [Dev.drive_of_ch (Dev.cartReleased_ch _), Dev.drive_modSess, (Dev.unclaim_frame ..).drive] at mounted
  exact hm mounted

/-- R134: a set with one more segment, on its continuation. -/
def BackupSet.continued (j : CartIx) (y : BackupSet) : BackupSet :=
  { y with segments := y.segments ++ [{ ordinal := y.segments.length + 1, cart := j, firstPos := 0, firstSeq := y.dataCount, count := 0 }] }

theorem Dev.cart_entered (d : Dev) (i j : CartIx) : (d.entered i).cart j =
    if j = i then (d.cart i).map fun x => { x with state := if x.state = .scratch then .active else x.state } else d.cart j := by
  unfold Dev.entered
  cases hx : d.cart i with
  | none => by_cases hj : j = i <;> simp_all
  | some x =>
    by_cases hs : x.state = .scratch
    · simp [hs, Dev.cart_setCartState, hx]
    · by_cases hj : j = i <;> simp_all

/-- R5, R10: what a SCRATCH cartridge is when a set has gained a segment on it. -/
theorem Dev.cart_joinCart_scratch {d : Dev} {j : CartIx} {v : Cart} (hv : d.cart j = some v) (hs : v.state = .scratch)
    (named : Bool) : (d.joinCart j named).cart j =
      some { v with state := .active, live := if named then v.live else v.live + 1 } := by
  rw [Dev.joinCart_eq, Dev.cart_entered, if_pos rfl]
  cases named <;> simp [Dev.raiseLive, hv, hs]
theorem Dev.cart_joinCart_of_ne (d : Dev) {j k : CartIx} (h : k ≠ j) (named : Bool) : (d.joinCart j named).cart k = d.cart k := by
  rw [Dev.joinCart_eq, Dev.cart_entered, if_neg h]
  split
  · rfl
  · exact Dev.cart_modCart_of_ne _ _ h

@[simp] theorem Dev.wq_modSess (d : Dev) (c k : Chan) (f : Session → Session) : ((d.modSess c f).chan k).wq = (d.chan k).wq := by
  cases c <;> cases k <;> rfl
@[simp] theorem Dev.wq_modBackup (d : Dev) (c k : Chan) (f : Backup → Backup) : ((d.modBackup c f).chan k).wq = (d.chan k).wq :=
  Dev.wq_modSess ..
@[simp] theorem Dev.wq_modDrive (d : Dev) (c k : Chan) (f : Drive → Drive) : ((d.modDrive c f).chan k).wq = (d.chan k).wq := by
  cases c <;> cases k <;> rfl
@[simp] theorem Dev.cart_modSess (d : Dev) (c : Chan) (f : Session → Session) (i : CartIx) : (d.modSess c f).cart i = d.cart i := rfl
@[simp] theorem Dev.cart_modBackup (d : Dev) (c : Chan) (f : Backup → Backup) (i : CartIx) : (d.modBackup c f).cart i = d.cart i := rfl
@[simp] theorem Dev.set?_modSess (d : Dev) (c : Chan) (f : Session → Session) (k : SetIx) : (d.modSess c f).set? k = d.set? k := rfl
@[simp] theorem Dev.set?_modBackup (d : Dev) (c : Chan) (f : Backup → Backup) (k : SetIx) : (d.modBackup c f).set? k = d.set? k := rfl
theorem Dev.modSess_ch_congr {d e : Dev} (h : e.ch = d.ch) (c : Chan) (f : Session → Session) :
    (e.modSess c f).ch = (d.modSess c f).ch := by
  simp [Dev.modSess, Dev.modChan, Dev.chan, Dev.setChan, h]

/-- R134: the set and the cartridge have joined, and the cartridge is the session's. -/
def Dev.continuedOn (d : Dev) (c : Chan) (i : SetIx) (y : BackupSet) (j : CartIx) : Dev :=
  ((d.modSet i (BackupSet.continued j)).joinCart j (y.onCart j)).setSessCart c j

theorem Dev.takeContinuation_eq {d : Dev} {c : Chan} {s : Session} {b : Backup} {i : SetIx} {y : BackupSet} {j : CartIx} {v : Cart}
    (hb : d.backup? c = some (s, b)) (hi : d.setOf s = some (i, y)) (hv : d.cart j = some v) (hs : v.state = .scratch) :
    d.takeContinuation c j = (((d.continuedOn c i y j).modBackup c fun b =>
      { b with span := .loading, written := (((d.continuedOn c i y j).cart j).map (·.written)).getD 0 }).modSess c fun s =>
        { s with mediaTimer := none, noted := none }).push (.bring c) := by
  rw [Dev.takeContinuation, hb]
  simp only [hi, hv, Option.any_some, hs, decide_true, if_true]
  rfl

/-- R134: what taking a SCRATCH continuation leaves. -/
structure Dev.Continues (c : Chan) (s : Session) (b : Backup) (i : SetIx) (y : BackupSet) (k j : CartIx) (u v : Cart) (d e : Dev) :
    Prop where
  full : e.cart k = some { u with claim := if u.claim = some s.handle then none else u.claim }
  next : e.cart j = some { v with state := .active, live := if y.onCart j then v.live else v.live + 1 }
  set : e.set? i = some (y.continued j)
  others : ∀ l, l ≠ i → e.set? l = d.set? l
  drive : e.drive c = d.drive c
  queue : (e.chan c).wq = (d.chan c).wq
  context : ∃ s', e.backup? c = some (s', { b with span := .loading, written := v.written }) ∧ s'.handle = s.handle ∧
    s'.cart = some j ∧ s'.mediaTimer = none

theorem Dev.setOf_eq_some {d : Dev} {s : Session} {i : SetIx} {y : BackupSet} :
    d.setOf s = some (i, y) ↔ s.set = some i ∧ d.set? i = some y := by
  unfold Dev.setOf
  cases s.set with
  | none => simp
  | some k => by_cases hk : k = i <;> simp_all

theorem Dev.takeContinuation_spec {d : Dev} {c : Chan} {s : Session} {b : Backup} {i : SetIx} {y : BackupSet} {j k : CartIx} {u v : Cart}
    (hb : d.backup? c = some (s, b)) (hi : d.setOf s = some (i, y)) (hk : s.cart = some k) (hm : (d.drive c).mounted = .cart k)
    (hu : d.cart k = some u) (hv : d.cart j = some v) (hs : v.state = .scratch) (hne : k ≠ j) :
    Dev.Continues c s b i y k j u v d (d.takeContinuation c j) := by
  have joined := (Dev.TablesOnly.modSet d i (BackupSet.continued j)).trans (Dev.TablesOnly.joinCart _ j (y.onCart j))
  have sess : ((d.modSet i (BackupSet.continued j)).joinCart j (y.onCart j)).sess c = some s :=
    (joined.sess c).trans (Dev.backup?_eq_some.mp hb).1
  have mounted : (((d.modSet i (BackupSet.continued j)).joinCart j (y.onCart j)).drive c).mounted ≠ .cart j := by
    rw [joined.drive, hm]; simpa using hne
  have kept (l : CartIx) : (d.modSet i (BackupSet.continued j)).cart l = d.cart l := Dev.cart_of_carts (by simp) l
  obtain ⟨n, moved⟩ := Dev.setSessCart_moves sess hk hne mounted
  have unclaimed := Dev.unclaim_frame ((d.modSet i (BackupSet.continued j)).joinCart j (y.onCart j)) k s.handle
  have cart (l : CartIx) : (d.continuedOn c i y j).cart l =
      (((d.modSet i (BackupSet.continued j)).joinCart j (y.onCart j)).unclaim k s.handle).cart l := by
    rw [Dev.continuedOn, moved]; exact Dev.cart_congr (by simp) l
  have sets (l : SetIx) : (d.continuedOn c i y j).set? l = (d.modSet i (BackupSet.continued j)).set? l := by
    rw [Dev.continuedOn, moved]; exact Dev.set?_of_sets (by simp [Dev.unclaim_sets]) l
  have ch : (d.continuedOn c i y j).ch = (d.modSess c fun s => { s with cart := some j, yields := n, noted := none }).ch := by
    rw [Dev.continuedOn, moved, Dev.look_ch, Dev.cartReleased_ch]
    exact Dev.modSess_ch_congr (unclaimed.ch.trans joined.ch) ..
  have nextCart : (d.continuedOn c i y j).cart j = some { v with state := .active, live := if y.onCart j then v.live else v.live + 1 } := by
    rw [cart, Dev.cart_unclaim, if_neg hne.symm, Dev.cart_joinCart_scratch ((kept j).trans hv) hs]
  have context : (d.continuedOn c i y j).backup? c = some ({ s with cart := some j, yields := n, noted := none }, b) :=
    (Dev.backup?_of_sess (Dev.sess_of_ch ch c)).trans (Dev.backup?_modSess hb _ rfl)
  have setI := (Dev.setOf_eq_some.mp hi).2
  rw [Dev.takeContinuation_eq hb hi hv hs, nextCart]
  generalize d.continuedOn c i y j = e at *
  constructor
  case full =>
    rw [Dev.cart_push, Dev.cart_modSess, Dev.cart_modBackup, cart, Dev.cart_unclaim, if_pos rfl, Dev.cart_joinCart_of_ne _ hne, kept, hu]
    rfl
  case next => rw [Dev.cart_push]; exact nextCart
  case set => rw [Dev.set?_push, Dev.set?_modSess, Dev.set?_modBackup, sets, Dev.set?_modSet_same, setI]; rfl
  case others =>
    intro l hl
    rw [Dev.set?_push, Dev.set?_modSess, Dev.set?_modBackup, sets, Dev.set?_modSet, if_neg hl]
  case drive => simp [Dev.drive_of_ch ch]
  case queue =>
    rw [Dev.chan_of_ch (Dev.push_ch ..), Dev.wq_modSess, Dev.wq_modBackup, Dev.chan_of_ch ch, Dev.wq_modSess]
  case context =>
    have after := Dev.backup?_modSess (Dev.backup?_modBackup context fun b => { b with span := .loading, written := v.written })
      (fun s => { s with mediaTimer := none, noted := none }) rfl
    exact ⟨_, (Dev.backup?_of_sess (Dev.sess_of_ch (Dev.push_ch ..) c)).trans after, rfl, rfl, rfl⟩

/-! ### No continuation is found (R134) -/

/-- R177: a notice for a session's owner reaches its port and port P, each that has room for it. -/
theorem Dev.mem_noticeOwner {d : Dev} {p q : Port} {n : Notice} (hq : q = p ∨ q = .P) (h : d.roomFor q n) (hn : n.isCredit = false) :
    n ∈ ((d.noticeOwner p n).port q).notices := by
  have joins {e : Dev} (he : e.roomFor q n) : n ∈ ((e.notice q n).port q).notices := by rw [Dev.notice_joins he hn]; simp
  unfold Dev.noticeOwner
  by_cases hp : p = .P
  · subst hp
    obtain rfl := hq.elim id id
    rw [if_pos rfl]
    exact joins h
  · rw [if_neg hp]
    by_cases hqp : q = p
    · subst hqp
      exact Dev.mem_notices_notice hn (joins h)
    · obtain rfl := hq.resolve_left hqp
      exact joins ((Dev.roomFor_congr n (Dev.port_notice_of_ne d n hqp) (by simp)).2 h)

/-- R134: what MEDIA_NEEDED for a pool leaves: the need is noted, and it goes out when it was not noted before. -/
structure Dev.Needs (c : Chan) (s : Session) (b : Backup) (p : Nat) (d e : Dev) : Prop where
  cat : e.cat = d.cat
  cfg : e.cfg = d.cfg
  drive : e.drive c = d.drive c
  queue : (e.chan c).wq = (d.chan c).wq
  context : e.backup? c = some ({ s with noted := some (.pool p) }, b)
  told : s.noted ≠ some (.pool p) → ∀ q, q = s.owner ∨ q = .P → d.roomFor q (.mediaNeeded s.handle (.pool p) none) →
    .mediaNeeded s.handle (.pool p) none ∈ (e.port q).notices

theorem Dev.mediaNeeded_pool {d : Dev} {c : Chan} {s : Session} {b : Backup} (hb : d.backup? c = some (s, b)) (p : Nat) :
    Dev.Needs c s b p d (d.mediaNeeded c (.pool p)) := by
  have hs := (Dev.backup?_eq_some.mp hb).1
  by_cases hn : s.noted = some (.pool p)
  · have eq : d.mediaNeeded c (.pool p) = d := by simp [Dev.mediaNeeded, hs, hn]
    rw [eq]
    exact ⟨rfl, rfl, rfl, rfl, by rw [hb, ← hn], fun h => absurd hn h⟩
  · have eq : d.mediaNeeded c (.pool p) =
        (d.noticeOwner s.owner (.mediaNeeded s.handle (.pool p) none)).modSess c fun s => { s with noted := some (.pool p) } := by
      simp [Dev.mediaNeeded, hs, hn]
    rw [eq]
    have ch : (d.noticeOwner s.owner (.mediaNeeded s.handle (.pool p) none)).ch = d.ch := by simp
    exact ⟨by simp, by simp, by rw [Dev.drive_modSess, Dev.drive_of_ch ch], by rw [Dev.wq_modSess, Dev.chan_of_ch ch],
      Dev.backup?_modSess ((Dev.backup?_of_sess (Dev.sess_of_ch ch c)).trans hb) _ rfl,
      fun _ q hq hr => by rw [Dev.port_modSess]; exact Dev.mem_noticeOwner hq hr rfl⟩

theorem Dev.chooseContinuation_found {d : Dev} {c : Chan} {s : Session} {b : Backup} {i : SetIx} {y : BackupSet} {j : CartIx}
    (hb : d.backup? c = some (s, b)) (hi : d.setOf s = some (i, y)) (hp : d.pickTarget c s.handle y.pool true = some j) :
    d.chooseContinuation c = d.takeContinuation c j := by
  rw [Dev.chooseContinuation, hb]
  simp only [hi, hp]

theorem Dev.chooseContinuation_waits {d : Dev} {c : Chan} {s : Session} {b : Backup} {i : SetIx} {y : BackupSet}
    (hb : d.backup? c = some (s, b)) (hi : d.setOf s = some (i, y)) (hp : d.pickTarget c s.handle y.pool true = none)
    (hm : s.mediaTimer = none) (hw : d.cfg.openWait ≠ 0) : d.chooseContinuation c =
      (d.mediaNeeded c (.pool y.pool)).modSess c fun s => { s with mediaTimer := some (d.cfg.openWait * 1000) } := by
  have cfg := (Dev.mediaNeeded_pool hb y.pool).cfg
  rw [Dev.chooseContinuation, hb]
  simp [hi, hp, hm, cfg, hw]

/-! ### The segment closes (R133) -/

theorem Dev.pickTarget_closing (d : Dev) (c : Chan) (i : CartIx) (h n : Nat) :
    (d.closing c i).pickTarget c h n true = (d.setCartState i .full).pickTarget c h n true :=
  Dev.pickTarget_modBackup ..

/-- R133: what the closing of a segment leaves before the continuation is chosen. -/
theorem Dev.closing_context {d : Dev} {c : Chan} {s : Session} {b : Backup} {i : SetIx} {y : BackupSet} (hb : d.backup? c = some (s, b))
    (hi : d.setOf s = some (i, y)) (k : CartIx) :
    (d.closing c k).backup? c = some ({ s with kind := .backup { b with span := .choosing } }, { b with span := .choosing }) ∧
    (d.closing c k).setOf { s with kind := .backup { b with span := .choosing } } = some (i, y) := by
  have full : (d.setCartState k .full).backup? c = some (s, b) :=
    (Dev.backup?_of_sess ((Dev.TablesOnly.setCartState ..).sess c)).trans hb
  obtain ⟨hset, hy⟩ := Dev.setOf_eq_some.mp hi
  refine ⟨Dev.backup?_modBackup full _, Dev.setOf_eq_some.mpr ⟨hset, ?_⟩⟩
  exact (Dev.set?_of_sets (Dev.setCartState_sets ..) i).trans hy

theorem Dev.drive_closing (d : Dev) (c : Chan) (k : CartIx) : (d.closing c k).drive c = d.drive c := by
  rw [Dev.closing, Dev.drive_modBackup, (Dev.TablesOnly.setCartState ..).drive]
theorem Dev.wq_closing (d : Dev) (c : Chan) (k : CartIx) : ((d.closing c k).chan c).wq = (d.chan c).wq := by
  rw [Dev.closing, Dev.wq_modBackup, Dev.chan_of_ch (Dev.TablesOnly.setCartState ..).ch]
theorem Dev.closing_cfg (d : Dev) (c : Chan) (k : CartIx) : (d.closing c k).cfg = d.cfg :=
  (Dev.TablesOnly.setCartState d k .full).cfg
theorem Dev.port_closing (d : Dev) (c : Chan) (k : CartIx) (p : Port) : (d.closing c k).port p = d.port p := by
  rw [Dev.closing, Dev.modBackup_eq, Dev.port_modSess, (Dev.TablesOnly.setCartState ..).port]
theorem Dev.set?_closing (d : Dev) (c : Chan) (k : CartIx) (j : SetIx) : (d.closing c k).set? j = d.set? j := by
  rw [Dev.closing, Dev.set?_modBackup, Dev.set?_of_sets (Dev.setCartState_sets ..)]

/-- R133, R86: what a closed segment's unload leaves. -/
theorem Dev.unloading_spec {d e : Dev} {c : Chan} (hd : e.drive c = d.drive c) (hs : (d.drive c).state = .ready)
    (hu : (d.drive c).unload = none) (q : Option Requester) :
    (((e.beginUnload c q).drive c).state = .ejecting ∧ ((e.beginUnload c q).drive c).unload = some ⟨.rewind, q⟩) ∧
    (e.beginUnload c q).cat = e.cat ∧ ((e.beginUnload c q).chan c).wq = (e.chan c).wq ∧
    (e.beginUnload c q).backup? c = e.backup? c ∧ ∀ p, (e.beginUnload c q).port p = e.port p := by
  rw [Dev.beginUnload_ready (by rw [hd, hs]) (by rw [hd, hu])]
  refine ⟨?_, by simp, by rw [Dev.chan_of_ch (Dev.look_ch _), Dev.wq_modDrive],
    Dev.backup?_of_sess (by rw [Dev.sess_of_ch (Dev.look_ch _), Dev.sess_modDrive]), fun p => ?_⟩
  · rw [Dev.drive_look, Dev.drive_modDrive]
    exact ⟨rfl, rfl⟩
  · cases p
    · exact Dev.look_pa _
    · exact Dev.look_pb _
    · exact Dev.look_pp _

/-! ### The end of a span (R135) -/

/-- R135: SPANNED goes out, and no need is noted. -/
def Dev.spanned (d : Dev) (c : Chan) (p : Port) (n : Notice) : Dev := (d.notice p n).modSess c fun s => { s with noted := none }

theorem Dev.spanEnd_eq {d : Dev} {c : Chan} {s : Session} {b : Backup} {i : SetIx} {y : BackupSet} {g : Segment}
    (hb : d.backup? c = some (s, b)) (hi : d.setOf s = some (i, y)) (hg : y.lastSegment = some g) :
    let e := d.spanned c s.owner (.spanned y.number g.ordinal (d.cartLabel g.cart))
    d.spanEnd c = if b.returnClosing then
        ((e.modBackup c fun b => { b with state := .closing, span := .none, writer := .stream }).push (.build c)).push (.command c)
      else (e.modBackup c fun b => { b with state := .active, span := .none, writer := .refill, window := some 0 }).writerTest c := by
  intro e
  rw [Dev.spanEnd, hb]
  simp only [hi, hg]
  rfl

/-- R135: what the end of a span leaves before the writer goes on. -/
theorem Dev.spanned_spec {d : Dev} {c : Chan} {s : Session} {b : Backup} (hb : d.backup? c = some (s, b)) {n : Notice}
    (hn : n.isCredit = false) : let e := d.spanned c s.owner n
    e.cat = d.cat ∧ e.smc = d.smc ∧ e.cfg = d.cfg ∧ (e.chan c).wq = (d.chan c).wq ∧
      e.backup? c = some ({ s with noted := none }, b) ∧ (d.roomFor s.owner n → n ∈ (e.port s.owner).notices) := by
  have ch : (d.notice s.owner n).ch = d.ch := by simp
  refine ⟨by simp [Dev.spanned], by simp [Dev.spanned], by simp [Dev.spanned], ?_, ?_, fun h => ?_⟩
  · rw [Dev.spanned, Dev.wq_modSess, Dev.chan_of_ch ch]
  · exact Dev.backup?_modSess ((Dev.backup?_of_sess (Dev.sess_of_ch ch c)).trans hb) _ rfl
  · rw [Dev.spanned, Dev.port_modSess, Dev.notice_joins h hn]; simp

/-! ### The obligation -/

/-- Settles O44: the report of a write, the span trigger, the closing of a segment with and without a continuation, and the span's end. -/
theorem writeReportMovesTheEndPosition : Obligations.WriteReportMovesTheEndPosition := by
  refine ⟨fun d i x p n hx hp hn => ?_, fun d c x b i y g hb hi hg => ?_⟩
  · intro full e
    have reported : e.cart i = _ := Dev.cart_writeReport hx p n
    have test : (x.reported p n).filled = true ↔ full := by rw [Cart.reported_eq hp hn]; exact Cart.filled_iff _
    have frame : d.TablesOnly e := Dev.writeReport_frame d i p n
    refine ⟨fun hf => ?_, fun hf => ?_, fun j hj => Dev.cart_writeReport_of_ne d hj p n, Dev.writeReport_sets d i p n, frame.places,
      frame.ch, frame.mqu, frame.pa, frame.pb, frame.pp⟩
    · rw [reported, if_pos (test.mpr hf), Cart.reported_eq hp hn]
    · rw [reported, if_neg (fun h => hf (test.mp h)), Cart.reported_eq hp hn]
  intro has
  refine ⟨fun hs => ?_, fun u hs hu hcart hm hd hun => ?_, ?_⟩
  · intro e spanning
    have begun : e = _ := Dev.beginSpan_eq hb hi hg hs
    have set : (d.modBackup c Backup.spanning) = d.modBackup c fun _ => spanning := Dev.modBackup_congr hb rfl
    refine ⟨fun hl => ?_, fun hl ht => ?_, fun hl ht => ?_⟩
    · rw [begun, if_pos hl, Dev.abortSession_backup hb]
    · obtain ⟨cat, smc, wq, sess⟩ := Dev.spanTrailer_queued (d := d.modBackup c Backup.spanning) (c := c) ht i
      have begun' : e = (d.modBackup c Backup.spanning).spanTrailer c i := by rw [begun, if_neg (Nat.not_le.mpr hl)]
      rw [begun']
      exact ⟨cat, smc, by rw [wq, Dev.wq_modBackup], _, _,
        (Dev.backup?_of_sess sess).trans (Dev.backup?_modBackup hb Backup.spanning), rfl, rfl⟩
    · rw [begun, if_neg (Nat.not_le.mpr hl), Dev.spanTrailer_refused (d := d.modBackup c Backup.spanning) ht, set]
  · intro e full leaves
    obtain ⟨context, closed⟩ := Dev.closing_context hb hi g.cart
    have drive := Dev.drive_closing d c g.cart
    have cartFull : (d.closing c g.cart).cart g.cart = some { u with state := .full } := by
      rw [Dev.closing, Dev.cart_modBackup, Dev.cart_setCartState, if_pos rfl, hu]; rfl
    refine ⟨fun j v hp hv hsc => ?_, fun hp hw hmt => ?_⟩
    · have hne : g.cart ≠ j := by
        rintro rfl
        have : some v = some { u with state := .full } := hv.symm.trans cartFull
        cases this
        exact nomatch hsc
      have cont := Dev.takeContinuation_spec context closed hcart (by rw [drive, hm]) cartFull hv hsc hne
      have found := Dev.chooseContinuation_found context closed ((Dev.pickTarget_closing ..).trans hp)
      obtain ⟨s', hs', handle, cart, timer⟩ := cont.context
      have closes : e = _ := Dev.closeSegment_goesOn hb hi hg (by rw [found, hs']) (by exact hs)
      rw [found] at closes
      obtain ⟨ejects, cat, wq, backup, -⟩ := Dev.unloading_spec (cont.drive.trans drive) hd hun (some (.session x.handle))
      rw [← closes] at ejects cat wq backup
      refine ⟨⟨ejects.1, ejects.2, fun k hk => ?_, ?_⟩, ?_, ?_, ?_, s', _, backup.trans hs', handle, cart, timer, rfl⟩
      · rw [Dev.set?_congr cat, cont.others k hk, Dev.set?_closing]
      · rw [wq, cont.queue, Dev.wq_closing]
      · rw [Dev.set?_congr cat, cont.set]; rfl
      · rw [Dev.cart_congr cat, cont.full]
      · rw [Dev.cart_congr cat, cont.next]
    · have waits := Dev.chooseContinuation_waits context closed ((Dev.pickTarget_closing ..).trans hp) hmt
        (by rwa [Dev.closing_cfg])
      have needs := Dev.mediaNeeded_pool context y.pool
      have timed := Dev.backup?_modSess needs.context
        (fun s => { s with mediaTimer := some ((d.closing c g.cart).cfg.openWait * 1000) }) rfl
      have closes : e = _ := Dev.closeSegment_goesOn hb hi hg (by rw [waits, timed]) (by exact hs)
      rw [waits] at closes
      obtain ⟨ejects, cat, wq, backup, port⟩ := Dev.unloading_spec (d := d) ((Dev.drive_modSess ..).trans (needs.drive.trans drive)) hd hun
        (some (.session x.handle))
      rw [← closes] at ejects cat wq backup port
      have cat' : e.cat = (d.closing c g.cart).cat := cat.trans needs.cat
      refine ⟨⟨ejects.1, ejects.2, fun k hk => ?_, ?_⟩, ?_, ?_, ⟨_, _, backup.trans timed, rfl, rfl, ?_, rfl⟩, fun hn q hq hr => ?_⟩
      · rw [Dev.set?_congr cat', Dev.set?_closing]
      · rw [wq, Dev.wq_modSess, needs.queue, Dev.wq_closing]
      · rw [Dev.set?_congr cat', Dev.set?_closing, (Dev.setOf_eq_some.mp hi).2]
      · rw [Dev.cart_congr cat', cartFull]
      · rw [Dev.closing_cfg]
      · rw [port, Dev.port_modSess]
        exact needs.told hn q hq ((Dev.roomFor_congr _ (Dev.port_closing ..) (Dev.closing_cfg ..)).2 hr)
  · intro e n
    obtain ⟨cat, smc, cfg, wq, context, told⟩ := Dev.spanned_spec hb (n := n) rfl
    have ends : e = _ := Dev.spanEnd_eq hb hi hg
    rw [show Notice.spanned y.number g.ordinal (d.cartLabel g.cart) = n from rfl] at ends
    generalize d.spanned c x.owner n = f at cat smc cfg wq context told ends
    rcases Bool.eq_false_or_eq_true b.returnClosing with hr | hr
    · rw [ends, if_pos hr]
      refine ⟨by simpa using cat, by simpa using smc, ?_, fun h => ?_, fun _ => ?_, fun h => absurd h (by simp [hr])⟩
      · rw [Dev.chan_of_ch (Dev.push_ch ..), Dev.chan_of_ch (Dev.push_ch ..), Dev.wq_modBackup, wq]
      · rw [Dev.port_push, Dev.port_push, Dev.modBackup_eq, Dev.port_modSess]; exact told h
      · exact ⟨_, _, (Dev.backup?_of_sess (by rw [Dev.sess_push, Dev.sess_push])).trans (Dev.backup?_modBackup context _), rfl, rfl⟩
    · rw [ends, if_neg (by simp [hr])]
      have active := Dev.backup?_modBackup context fun b => { b with state := .active, span := .none, writer := .refill, window := some 0 }
      refine ⟨by simpa [Dev.writerTest] using cat, by simpa [Dev.writerTest] using smc, ?_, fun h => ?_, fun h => absurd h (by simp [hr]), fun _ => ?_⟩
      · rw [Dev.writerTest, Dev.chan_of_ch (Dev.push_ch ..), Dev.wq_modBackup, Dev.wq_modBackup, wq]
      · rw [Dev.writerTest, Dev.port_push, Dev.modBackup_eq, Dev.modBackup_eq, Dev.port_modSess, Dev.port_modSess]; exact told h
      · refine ⟨_, _, (Dev.backup?_of_sess (Dev.sess_push ..)).trans (Dev.backup?_modBackup active _), rfl, ?_⟩
        simp only [Dev.watermarkMet, Dev.wq_modBackup, wq, Dev.modBackup_cfg, cfg, true_and, decide_eq_true_eq]
        by_cases hw : d.cfg.watermark ≤ (d.chan c).wq.length <;> simp [hw]

end Sys2Proof.Machine
end

section
/-! Start-up (R194): what it leaves of the catalogue the store held (R2, R4, R10, R30), and of what stands outside it. -/

namespace Sys2Proof.Machine

/-! ### What stands outside the catalogue -/

/-- The second device differs from the first in the catalogue, the ports, the drives, the marks and the follow-ups alone, the holds
being as they were. -/
structure Dev.Outside (d e : Dev) : Prop where
  phase : e.phase = d.phase
  cfg : e.cfg = d.cfg
  smc : e.smc = d.smc
  sess : ∀ c, e.sess c = d.sess c
  waitList : e.waitList = d.waitList
  holdDoor : e.mqu.holdDoor = d.mqu.holdDoor
  holdStop : e.mqu.holdStop = d.mqu.holdStop
  holdPower : e.mqu.holdPower = d.mqu.holdPower
  holdFault : e.mqu.holdFault = d.mqu.holdFault
  lines : e.lines = d.lines
  doorOpen : e.doorOpen = d.doorOpen
  slots : e.cst.slots = d.cst.slots
  newest : e.cst.newest = d.cst.newest
  resetReq : d.resetReq = none → e.resetReq = none

namespace Dev.Outside

theorem refl (d : Dev) : d.Outside d := by constructor <;> simp

theorem trans {d e g : Dev} (h : d.Outside e) (k : e.Outside g) : d.Outside g where
  phase := k.phase.trans h.phase
  cfg := k.cfg.trans h.cfg
  smc := k.smc.trans h.smc
  sess := fun c => (k.sess c).trans (h.sess c)
  waitList := k.waitList.trans h.waitList
  holdDoor := k.holdDoor.trans h.holdDoor
  holdStop := k.holdStop.trans h.holdStop
  holdPower := k.holdPower.trans h.holdPower
  holdFault := k.holdFault.trans h.holdFault
  lines := k.lines.trans h.lines
  doorOpen := k.doorOpen.trans h.doorOpen
  slots := k.slots.trans h.slots
  newest := k.newest.trans h.newest
  resetReq := fun hr => k.resetReq (h.resetReq hr)

theorem of_tables {d e : Dev} (h : d.TablesOnly e) : d.Outside e where
  phase := h.phase
  cfg := h.cfg
  smc := h.smc
  sess := h.sess
  waitList := h.waitList
  holdDoor := by rw [h.mqu]
  holdStop := by rw [h.mqu]
  holdPower := by rw [h.mqu]
  holdFault := by rw [h.mqu]
  lines := h.lines
  doorOpen := h.doorOpen
  slots := h.slots
  newest := h.newest
  resetReq := h.resetReq.trans

theorem foldl {α : Type} {step : Dev → α → Dev} (h : ∀ (d : Dev) (a : α), d.Outside (step d a)) (l : List α) (d : Dev) :
    d.Outside (l.foldl step d) := by
  induction l generalizing d with
  | nil => exact refl d
  | cons a l ih => exact (h d a).trans (ih _)

theorem push (d : Dev) (t : Todo) : d.Outside (d.push t) := of_tables (.push d t)
theorem modDrive (d : Dev) (c : Chan) (f : Drive → Drive) : d.Outside (d.modDrive c f) := by constructor <;> simp
theorem setPlace (d : Dev) (p : Place) (x : PlaceRec) : d.Outside (d.setPlace p x) := by
  constructor
  case sess => exact fun c => rfl
  all_goals simp
theorem setConfirmed (d : Dev) (p : Place) (v : Bool) : d.Outside (d.setConfirmed p v) := by
  constructor
  case sess => exact fun c => Dev.sess_of_ch (by simp) c
  all_goals simp
theorem noticeAll (d : Dev) (n : Notice) : d.Outside (d.noticeAll n) := by
  constructor
  case sess => exact fun c => Dev.sess_of_ch (by simp) c
  all_goals simp
theorem emit (d : Dev) (m : LinkMsg) : d.Outside (d.emit m) := by
  constructor
  case sess => exact fun c => rfl
  all_goals simp
theorem modMqu (d : Dev) (f : Mover → Mover) (h : ∀ m, (f m).holdDoor = m.holdDoor ∧ (f m).holdStop = m.holdStop ∧
    (f m).holdPower = m.holdPower ∧ (f m).holdFault = m.holdFault) : d.Outside (d.modMqu f) := by
  obtain ⟨hd, hs, hp, hf⟩ := h d.mqu
  constructor
  case sess => exact fun c => rfl
  all_goals simp [hd, hs, hp, hf]

theorem doorLevel {d e : Dev} (h : d.Outside e) : e.doorLevel = d.doorLevel := by
  simp [Dev.doorLevel, Dev.line, h.cfg, h.lines]

end Dev.Outside

/-! ### Walks along a table -/

theorem foldl_keeps {α : Type} {P : Dev → Prop} {step : Dev → α → Dev} (keep : ∀ d a, P d → P (step d a)) (l : List α)
    {d : Dev} (h : P d) : P (l.foldl step d) := by
  induction l generalizing d with
  | nil => exact h
  | cons a l ih => exact ih (keep d a h)

/-- What each step of a walk brings about for its own entry, and no step undoes, holds of every entry at the end. -/
theorem foldl_establishes {α : Type} {P : α → Dev → Prop} {step : Dev → α → Dev} (bring : ∀ d a, P a (step d a))
    (keep : ∀ d a b, P b d → P b (step d a)) (l : List α) (d : Dev) : ∀ a ∈ l, P a (l.foldl step d) := by
  induction l generalizing d with
  | nil => exact nofun
  | cons a l ih =>
    intro b hb
    rcases List.mem_cons.mp hb with rfl | hb
    · exact foldl_keeps (fun d c => keep d c b) l (bring d b)
    · exact ih (step d a) b hb

/-! ### The sets of the store (R194, steps 1 to 3) -/

/-- R4: a set that is not EXPIRED and has a segment on a free cartridge entry. -/
def Dev.dangling (d : Dev) (y : BackupSet) : Prop := y.state ≠ .expired ∧ ∃ g ∈ y.segments, d.cart g.cart = none

/-- What counts of a set for the live set counts. -/
def BackupSet.shape (y : BackupSet) : List Segment × Bool := (y.segments, y.isLive)

/-- R194, step 1, for one entry. -/
def Dev.loseSet (d : Dev) (k : SetIx) : Dev :=
  match d.set? k with
  | some x => if x.state ≠ .expired ∧ (x.segments.any fun g => (d.cart g.cart).isNone) then d.putSet k .lost else d
  | none => d

theorem Dev.loseSets_eq (d : Dev) : d.loseSets = allSets.foldl Dev.loseSet d := rfl

theorem Dev.loseSet_cases (d : Dev) (k : SetIx) : (∃ y, d.set? k = some y ∧ d.loseSet k = d.putSet k .lost) ∨
    d.loseSet k = d ∧ ∀ y, d.set? k = some y → ¬ d.dangling y := by
  unfold Dev.loseSet
  split
  · next x hx =>
    split
    · exact .inl ⟨x, hx, rfl⟩
    · next hn =>
      refine .inr ⟨rfl, fun y hy hd => hn ?_⟩
      obtain ⟨hs, g, hg, hc⟩ := hd
      cases hx.symm.trans hy
      exact ⟨hs, List.any_eq_true.mpr ⟨g, hg, by simp [hc]⟩⟩
  · next hx => exact .inr ⟨rfl, fun y hy => nomatch hx.symm.trans hy⟩

theorem Dev.loseSet_frame (d : Dev) (k : SetIx) : d.TablesOnly (d.loseSet k) := by
  rcases d.loseSet_cases k with ⟨-, -, h⟩ | ⟨h, -⟩
  · rw [h]; exact .putSet ..
  · rw [h]; exact .refl d
theorem Dev.loseSet_carts (d : Dev) (k : SetIx) : (d.loseSet k).cat.carts = d.cat.carts := by
  rcases d.loseSet_cases k with ⟨-, -, h⟩ | ⟨h, -⟩ <;> simp [h]
theorem Dev.set?_loseSet {d : Dev} {k j : SetIx} {y : BackupSet} (h : (d.loseSet k).set? j = some y) :
    d.set? j = some y ∧ (j = k → ¬ d.dangling y) := by
  rcases d.loseSet_cases k with ⟨x, hx, eq⟩ | ⟨eq, hn⟩
  · rw [eq, Dev.set?, Dev.entry_putSet_of_set hx] at h
    by_cases hj : j = k
    · simp [hj] at h
    · rw [if_neg hj] at h; exact ⟨h, fun hk => absurd hk hj⟩
  · rw [eq] at h
    exact ⟨h, fun hj => hn y (hj ▸ h)⟩

/-- R194, step 1: no set names a free entry. -/
theorem Dev.loseSets_spec (d : Dev) (k : SetIx) (y : BackupSet) (h : d.loseSets.set? k = some y) : ¬ d.loseSets.dangling y := by
  have same (e : Dev) (i : SetIx) (x : BackupSet) : (e.loseSet i).dangling x ↔ e.dangling x := by
    simp only [Dev.dangling, Dev.cart_of_carts (e.loseSet_carts i)]
  rw [Dev.loseSets_eq] at *
  refine foldl_establishes (step := Dev.loseSet) (P := fun k e => ∀ y, e.set? k = some y → ¬ e.dangling y)
    (fun e i x hx => ?_) (fun e i j hj x hx => ?_) allSets d k (mem_allSets k) y h
  · rw [same]; exact (Dev.set?_loseSet hx).2 rfl
  · rw [same]; exact hj x (Dev.set?_loseSet hx).1

/-- R194, step 3, for one entry. -/
def Dev.abortOpen (d : Dev) (k : SetIx) : Dev :=
  if (d.set? k).any fun x => x.state = .opened then
    d.modSet k fun x => { x with state := .aborted, digest := none, locator := none }
  else d

theorem Dev.abortOpenSets_eq (d : Dev) : d.abortOpenSets = allSets.foldl Dev.abortOpen d := rfl

theorem Dev.abortOpen_frame (d : Dev) (k : SetIx) : d.TablesOnly (d.abortOpen k) := by
  unfold Dev.abortOpen
  split
  · exact .modSet ..
  · exact .refl d
theorem Dev.abortOpen_carts (d : Dev) (k : SetIx) : (d.abortOpen k).cat.carts = d.cat.carts := by
  unfold Dev.abortOpen; split <;> simp

theorem Dev.set?_abortOpen (d : Dev) (k j : SetIx) : (d.abortOpen k).set? j =
    if j = k then (d.set? k).map fun y => if y.state = .opened then { y with state := .aborted, digest := none, locator := none } else y
    else d.set? j := by
  unfold Dev.abortOpen
  cases hy : d.set? k with
  | none => by_cases hj : j = k <;> simp [hj, hy]
  | some y =>
    by_cases ho : y.state = .opened
    · simp [ho, Dev.set?_modSet, hy]
    · by_cases hj : j = k <;> simp [hj, hy, ho]

theorem Dev.shape_abortOpen (d : Dev) (k j : SetIx) :
    ((d.abortOpen k).set? j).map BackupSet.shape = (d.set? j).map BackupSet.shape := by
  rw [Dev.set?_abortOpen]
  split
  · next hj =>
    subst hj
    cases d.set? j with
    | none => rfl
    | some y => by_cases ho : y.state = .opened <;> simp [ho, BackupSet.shape, BackupSet.isLive]
  · rfl

/-- R194, step 3: no set is OPEN. -/
theorem Dev.abortOpenSets_spec (d : Dev) (k : SetIx) (y : BackupSet) (h : d.abortOpenSets.set? k = some y) : y.state ≠ .opened := by
  refine foldl_establishes (step := Dev.abortOpen) (P := fun k e => ∀ y, e.set? k = some y → y.state ≠ .opened)
    (fun e i x hx => ?_) (fun e i j hj x hx => ?_) allSets d k (mem_allSets k) y h
  · rw [Dev.set?_abortOpen, if_pos rfl] at hx
    obtain ⟨z, -, rfl⟩ := Option.map_eq_some_iff.mp hx
    split
    · simp
    · assumption
  · rw [Dev.set?_abortOpen] at hx
    split at hx
    · next hji =>
      obtain ⟨z, hz, rfl⟩ := Option.map_eq_some_iff.mp hx
      split
      · simp
      · assumption
    · exact hj x hx

/-! ### The live set counts (R194, step 2) -/

/-- R194, step 2, for one cartridge. -/
def Dev.recount (d : Dev) (i : CartIx) : Dev :=
  match d.cart i with
  | some x => if x.live = d.liveCount i then d else d.modCart i fun x => { x with live := d.liveCount i }
  | none => d

theorem Dev.recountLive_eq (d : Dev) : d.recountLive = allCarts.foldl Dev.recount d := rfl

theorem Dev.recount_frame (d : Dev) (i : CartIx) : d.TablesOnly (d.recount i) := by
  unfold Dev.recount
  split
  · split
    · exact .refl d
    · exact .modCart ..
  · exact .refl d
theorem Dev.recount_sets (d : Dev) (i : CartIx) : (d.recount i).cat.sets = d.cat.sets := by
  unfold Dev.recount
  split
  · split <;> simp
  · rfl
theorem Dev.cart_recount (d : Dev) (i j : CartIx) :
    (d.recount i).cart j = if j = i then (d.cart i).map fun x => { x with live := d.liveCount i } else d.cart j := by
  unfold Dev.recount
  cases hx : d.cart i with
  | none => by_cases hj : j = i <;> simp_all
  | some x =>
    by_cases hl : x.live = d.liveCount i
    · by_cases hj : j = i
      · subst hj; simp [hl.symm, hx]
      · simp [hl, hj]
    · simp [hl, Dev.cart_modCart, hx]

theorem Dev.liveCount_of_sets {d e : Dev} (h : e.cat.sets = d.cat.sets) (i : CartIx) : e.liveCount i = d.liveCount i := by
  rw [Dev.liveCount, Dev.liveCount, Dev.liveSetsOn_of_sets h]

/-- R194, step 2: every live set count is the number of sets counted. -/
theorem Dev.recountLive_spec (d : Dev) (i : CartIx) (x : Cart) (h : d.recountLive.cart i = some x) :
    x.live = d.recountLive.liveCount i := by
  refine foldl_establishes (step := Dev.recount) (P := fun i e => ∀ x, e.cart i = some x → x.live = e.liveCount i) (fun e j y hy => ?_)
    (fun e j k hk y hy => ?_) allCarts d i (mem_allCarts i) x h
  · rw [Dev.cart_recount, if_pos rfl] at hy
    obtain ⟨z, -, rfl⟩ := Option.map_eq_some_iff.mp hy
    exact (Dev.liveCount_of_sets (e.recount_sets j) j).symm
  · rw [Dev.liveCount_of_sets (e.recount_sets j)]
    rw [Dev.cart_recount] at hy
    split at hy
    · next hkj =>
      obtain ⟨z, -, rfl⟩ := Option.map_eq_some_iff.mp hy
      rw [hkj]
    · exact hk y hy

/-! ### The sets and the counts in order -/

/-- R4, R10: no set names a free entry, and every live set count is right. -/
structure Dev.Counted (d : Dev) : Prop where
  named : ∀ k y, d.set? k = some y → ¬ d.dangling y
  counts : ∀ i x, d.cart i = some x → x.live = d.liveCount i

theorem Dev.counted_recountLive {d : Dev} (h : ∀ k y, d.set? k = some y → ¬ d.dangling y) : d.recountLive.Counted := by
  have kept : d.recountLive.cat.sets = d.cat.sets ∧ ∀ i, d.recountLive.cart i = none ↔ d.cart i = none := by
    rw [Dev.recountLive_eq]
    refine foldl_keeps (P := fun e => e.cat.sets = d.cat.sets ∧ ∀ i, e.cart i = none ↔ d.cart i = none) (step := Dev.recount)
      (fun e j ⟨hs, hc⟩ => ⟨(e.recount_sets j).trans hs, fun i => ?_⟩) allCarts ⟨rfl, fun _ => Iff.rfl⟩
    rw [← hc i, Dev.cart_recount]
    split
    · next hi => rw [hi, Option.map_eq_none_iff]
    · rfl
  refine ⟨fun k y hy hd => ?_, d.recountLive_spec⟩
  rw [Dev.set?_of_sets kept.1] at hy
  obtain ⟨hs, g, hg, hc⟩ := hd
  exact h k y hy ⟨hs, g, hg, (kept.2 _).mp hc⟩

/-- A change that leaves of every set what the counts count, and every count. -/
structure Dev.Alike (d e : Dev) : Prop where
  sets : ∀ k, (e.set? k).map BackupSet.shape = (d.set? k).map BackupSet.shape
  counts : ∀ i, (e.cart i).map (·.live) = (d.cart i).map (·.live)

theorem Dev.liveCount_alike {d e : Dev} (h : d.Alike e) (i : CartIx) : e.liveCount i = d.liveCount i := by
  have same (f : Dev) (k : SetIx) : (f.set? k).any (fun x => x.isLive && x.onCart i) =
      ((f.set? k).map BackupSet.shape).any fun q => q.2 && q.1.any fun s => s.cart = i := by
    cases f.set? k <;> rfl
  simp only [Dev.liveCount, Dev.liveSetsOn, same, h.sets]

theorem Dev.Counted.alike {d e : Dev} (h : d.Counted) (k : d.Alike e) : e.Counted where
  named j y hy := by
    rintro ⟨hs, g, hg, hc⟩
    have hsets := k.sets j
    rw [hy, Option.map_some] at hsets
    obtain ⟨z, hz, hzy⟩ := Option.map_eq_some_iff.mp hsets.symm
    obtain ⟨hseg, hlive⟩ := Prod.ext_iff.mp hzy
    have hcart := k.counts g.cart
    rw [hc, Option.map_none] at hcart
    exact h.named j z hz ⟨by simpa [BackupSet.shape, BackupSet.isLive, hs] using hlive, g, by
      rw [show z.segments = y.segments from hseg]; exact hg, Option.map_eq_none_iff.mp hcart.symm⟩
  counts i x hx := by
    have hcart := k.counts i
    rw [hx, Option.map_some] at hcart
    obtain ⟨z, hz, hzx⟩ := Option.map_eq_some_iff.mp hcart.symm
    rw [Dev.liveCount_alike k, ← h.counts i z hz]
    exact hzx.symm

theorem Dev.abortOpenSets_alike (d : Dev) : d.Alike d.abortOpenSets := by
  rw [Dev.abortOpenSets_eq]
  refine foldl_keeps (P := fun e => d.Alike e) (step := Dev.abortOpen) (fun e k h => ⟨fun j => ?_, fun i => ?_⟩) allSets
    ⟨fun _ => rfl, fun _ => rfl⟩
  · rw [Dev.shape_abortOpen, h.sets]
  · rw [Dev.cart_of_carts (e.abortOpen_carts k), h.counts]

/-! ### The uses and the claims (R194, step 4) -/

theorem getD_map_of_fixed {α : Type} (l : List α) (f : α → α) (n : Nat) {x : α} (h : f x = x) : (l.map f).getD n x = f (l.getD n x) := by
  by_cases hn : n < l.length
  · simp [List.getD, hn]
  · simp [List.getD, List.getElem?_eq_none (Nat.le_of_not_lt hn), h]

theorem Dev.cart_clearUses (d : Dev) (i : CartIx) : d.clearUses.cart i = (d.cart i).map fun x => { x with claim := none } :=
  getD_map_of_fixed (x := none) d.cat.carts (fun x => x.map fun c : Cart => ({ c with claim := none } : Cart)) i.val rfl

theorem Dev.set?_clearUses (d : Dev) (k : SetIx) : d.clearUses.set? k = (d.set? k).map fun y => { y with inUse := none } := by
  have entry : d.clearUses.entry k = _ :=
    getD_map_of_fixed d.cat.sets (fun x => match x with | .holds y => .holds { y with inUse := none } | z => z) k.val rfl
  rw [Dev.set?, entry, Dev.set?, show d.cat.sets.getD k.val .free = d.entry k from rfl]
  cases d.entry k <;> rfl

theorem Dev.clearUses_frame (d : Dev) : d.TablesOnly d.clearUses := by
  constructor <;> simp [Dev.clearUses]

theorem Dev.clearUses_alike (d : Dev) : d.Alike d.clearUses := by
  refine ⟨fun k => ?_, fun i => ?_⟩
  · rw [Dev.set?_clearUses, Option.map_map]; rfl
  · rw [Dev.cart_clearUses, Option.map_map]; rfl

/-! ### The place table (R2, R194 step 5) -/

/-- R2: one cartridge's location in the table of places: of two that name one place the first keeps it. -/
def Dev.derive (d : Dev) (i : CartIx) : Dev :=
  match (d.cart i).bind (·.location) with
  | some p => if d.occ p = .none then d.setPlace p { occ := .cart i } else d.modCart i fun x => { x with location := none }
  | none => d

/-- The table of places before a cartridge has been taken. -/
def Dev.noPlaces (d : Dev) : Dev := d.modCat fun k => { k with places := List.replicate 28 {} }

theorem Dev.derivePlaces_eq (d : Dev) : d.derivePlaces = allCarts.foldl Dev.derive d.noPlaces := rfl

/-- R1, R2: the places and the cartridges taken so far agree. -/
structure Dev.Derived (done : List CartIx) (d : Dev) : Prop where
  length : d.cat.places.length = 28
  unconfirmed : ∀ p, d.confirmed p = false
  located : ∀ i ∈ done, ∀ x p, d.cart i = some x → x.location = some p → d.occ p = .cart i
  occupied : ∀ p i, d.occ p = .cart i → i ∈ done ∧ ∃ x, d.cart i = some x ∧ x.location = some p

theorem Dev.derived_noPlaces (d : Dev) : d.noPlaces.Derived [] := by
  have fresh (p : Place) : d.noPlaces.place p = {} := by
    have hp := placeCode_lt p
    simp only [Dev.place, Dev.noPlaces, Dev.modCat_cat, List.getD_eq_getElem?_getD, List.getElem?_replicate, if_pos hp]
    rfl
  exact ⟨by simp [Dev.noPlaces], fun p => by rw [Dev.confirmed, fresh], nofun, fun p i h => by simp [Dev.occ, fresh] at h⟩

theorem Dev.Derived.step {done : List CartIx} {d : Dev} (h : d.Derived done) {i : CartIx} (hi : i ∉ done) :
    (d.derive i).Derived (i :: done) := by
  unfold Dev.derive
  split
  · next p hp =>
    obtain ⟨x, hx, hl⟩ := Option.bind_eq_some_iff.mp hp
    split
    · next ho =>
      have place (q : Place) : (d.setPlace p { occ := .cart i }).place q = if q = p then { occ := .cart i } else d.place q :=
        Dev.place_setPlace_eq h.length p q _
      have cart (j : CartIx) : (d.setPlace p { occ := .cart i }).cart j = d.cart j := rfl
      refine ⟨by simpa using h.length, fun q => ?_, fun j hj y q hy hq => ?_, fun q j hq => ?_⟩
      · rw [Dev.confirmed, place]
        split
        · rfl
        · exact h.unconfirmed q
      · rw [cart] at hy
        rw [Dev.occ, place]
        rcases List.mem_cons.mp hj with rfl | hj
        · cases hx.symm.trans hy
          cases hl.symm.trans hq
          rw [if_pos rfl]
        · have hocc := h.located j hj y q hy hq
          rw [if_neg (by rintro rfl; simp [ho] at hocc)]
          exact hocc
      · rw [Dev.occ, place] at hq
        rw [cart]
        split at hq
        · next hqp =>
          cases hq
          exact ⟨List.mem_cons_self, x, hx, hqp ▸ hl⟩
        · obtain ⟨hj, y, hy⟩ := h.occupied q j hq
          exact ⟨List.mem_cons_of_mem _ hj, y, hy⟩
    · have place (q : Place) : (d.modCart i fun x => { x with location := none }).place q = d.place q :=
        (Dev.TablesOnly.modCart ..).place q
      have cart (j : CartIx) := Dev.cart_modCart d i j fun x => { x with location := none }
      refine ⟨by rw [Dev.modCart_places, h.length], fun q => by rw [Dev.confirmed, place]; exact h.unconfirmed q,
        fun j hj y q hy hq => ?_, fun q j hq => ?_⟩
      · rw [cart] at hy
        rw [Dev.occ, place]
        by_cases hji : j = i
        · rw [if_pos hji, hx] at hy
          cases hy
          cases hq
        · rw [if_neg hji] at hy
          exact h.located j (List.mem_of_ne_of_mem hji hj) y q hy hq
      · rw [Dev.occ, place] at hq
        obtain ⟨hj, y, hy⟩ := h.occupied q j hq
        refine ⟨List.mem_cons_of_mem _ hj, y, ?_⟩
        rwa [cart, if_neg (by rintro rfl; exact hi hj)]
  · next hn =>
    refine ⟨h.length, h.unconfirmed, fun j hj y q hy hq => ?_, fun q j hq => ?_⟩
    · rcases List.mem_cons.mp hj with rfl | hj
      · simp [hy, hq] at hn
      · exact h.located j hj y q hy hq
    · obtain ⟨hj, y, hy⟩ := h.occupied q j hq
      exact ⟨List.mem_cons_of_mem _ hj, y, hy⟩

theorem Dev.Derived.foldl {l done : List CartIx} {d : Dev} (h : d.Derived done) (hl : (l ++ done).Nodup) :
    (l.foldl Dev.derive d).Derived (l.reverse ++ done) := by
  induction l generalizing d done with
  | nil => exact h
  | cons i l ih =>
    obtain ⟨hi, hl⟩ := List.nodup_cons.mp hl
    have hnd : (l ++ i :: done).Nodup := List.nodup_middle.mpr (List.nodup_cons.mpr ⟨hi, hl⟩)
    have next := ih (h.step fun hd => hi (List.mem_append_right _ hd)) hnd
    simpa using next

theorem Dev.derivePlaces_derived (d : Dev) : d.derivePlaces.Derived allCarts.reverse := by
  rw [Dev.derivePlaces_eq]
  simpa using d.derived_noPlaces.foldl (l := allCarts) (by simpa using allCarts_nodup)

/-- R2: the derivation changes of a cartridge its location alone. -/
theorem Dev.derive_tables (d : Dev) (i : CartIx) : (d.derive i).cat.sets = d.cat.sets ∧ d.Outside (d.derive i) ∧
    ∀ j, ((d.derive i).cart j).map (fun x => (x.claim, x.live)) = (d.cart j).map fun x => (x.claim, x.live) := by
  unfold Dev.derive
  split
  · split
    · exact ⟨rfl, .setPlace .., fun _ => rfl⟩
    · refine ⟨by simp, .of_tables (.modCart ..), fun j => ?_⟩
      rw [Dev.cart_modCart]
      split
      · next hj => rw [hj, Option.map_map]; rfl
      · rfl
  · exact ⟨rfl, .refl d, fun _ => rfl⟩

theorem Dev.derivePlaces_tables (d : Dev) : d.derivePlaces.cat.sets = d.cat.sets ∧ d.Outside d.derivePlaces ∧
    ∀ j, (d.derivePlaces.cart j).map (fun x => (x.claim, x.live)) = (d.cart j).map fun x => (x.claim, x.live) := by
  rw [Dev.derivePlaces_eq]
  refine foldl_keeps (step := Dev.derive) (P := fun e => e.cat.sets = d.cat.sets ∧ d.Outside e ∧
    ∀ j, (e.cart j).map (fun x => (x.claim, x.live)) = (d.cart j).map fun x => (x.claim, x.live))
    (fun e i ⟨hs, ho, hc⟩ => ?_) allCarts (d := d.noPlaces) ⟨rfl, ?_, fun _ => rfl⟩
  · obtain ⟨sets, outside, carts⟩ := e.derive_tables i
    exact ⟨sets.trans hs, ho.trans outside, fun j => (carts j).trans (hc j)⟩
  · constructor
    case sess => exact fun c => rfl
    all_goals simp [Dev.noPlaces]

/-! ### The catalogue in order -/

/-- R2, R10, R182, R194: the catalogue as start-up leaves it. -/
structure Dev.InOrder (d : Dev) : Prop where
  length : d.cat.places.length = 28
  sets : ∀ k y, d.set? k = some y → y.state ≠ .opened ∧ y.inUse = none
  named : ∀ k y, d.set? k = some y → y.state ≠ .expired → ∀ g ∈ y.segments, d.cart g.cart ≠ none
  carts : ∀ i x, d.cart i = some x → x.claim = none ∧ x.live = (d.liveSetsOn i).length
  unconfirmed : ∀ p, d.confirmed p = false
  located : ∀ i x p, d.cart i = some x → x.location = some p → d.occ p = .cart i
  occupied : ∀ p i, d.occ p = .cart i → ∃ x, d.cart i = some x ∧ x.location = some p

/-- R194, steps 1 to 5: the device with its catalogue in order. -/
def Dev.ordered (d : Dev) : Dev := d.loseSets.recountLive.abortOpenSets.clearUses.derivePlaces

theorem Dev.ordered_inOrder (d : Dev) : d.ordered.InOrder := by
  have counted : (d.loseSets.recountLive.abortOpenSets.clearUses).Counted :=
    ((Dev.counted_recountLive d.loseSets_spec).alike (Dev.abortOpenSets_alike _)).alike (Dev.clearUses_alike _)
  have aborted := Dev.abortOpenSets_spec d.loseSets.recountLive
  unfold Dev.ordered
  generalize d.loseSets.recountLive.abortOpenSets = e at counted aborted
  obtain ⟨sets, -, carts⟩ := Dev.derivePlaces_tables e.clearUses
  have derived := Dev.derivePlaces_derived e.clearUses
  have set (k : SetIx) : e.clearUses.derivePlaces.set? k = (e.set? k).map fun y => { y with inUse := none } := by
    rw [Dev.set?_of_sets sets, Dev.set?_clearUses]
  have cart (i : CartIx) (x : Cart) (hx : e.clearUses.derivePlaces.cart i = some x) :
      ∃ z, e.clearUses.cart i = some z ∧ z.claim = x.claim ∧ z.live = x.live := by
    have hc := carts i
    rw [hx, Option.map_some] at hc
    obtain ⟨z, hz, hzx⟩ := Option.map_eq_some_iff.mp hc.symm
    exact ⟨z, hz, Prod.ext_iff.mp hzx⟩
  refine ⟨derived.length, fun k y hy => ?_, fun k y hy hs g hg hn => ?_, fun i x hx => ?_, derived.unconfirmed,
    fun i x p => derived.located i (by simpa using mem_allCarts i) x p, fun p i hp => (derived.occupied p i hp).2⟩
  · rw [set] at hy
    obtain ⟨z, hz, rfl⟩ := Option.map_eq_some_iff.mp hy
    exact ⟨aborted k z hz, rfl⟩
  · have hc := carts g.cart
    rw [hn, Option.map_none] at hc
    rw [Dev.set?_of_sets sets] at hy
    exact counted.named k y hy ⟨hs, g, hg, Option.map_eq_none_iff.mp hc.symm⟩
  · obtain ⟨z, hz, hclaim, hlive⟩ := cart i x hx
    refine ⟨?_, ?_⟩
    · rw [Dev.cart_clearUses] at hz
      obtain ⟨w, -, rfl⟩ := Option.map_eq_some_iff.mp hz
      exact hclaim.symm
    · rw [← hlive, counted.counts i z hz, Dev.liveCount, Dev.liveSetsOn_of_sets sets]

theorem Dev.ordered_outside (d : Dev) : d.Outside d.ordered := by
  have lost : d.TablesOnly d.loseSets := .foldl Dev.loseSet_frame allSets d
  have counted (e : Dev) : e.TablesOnly e.recountLive := .foldl Dev.recount_frame allCarts e
  have aborted (e : Dev) : e.TablesOnly e.abortOpenSets := .foldl Dev.abortOpen_frame allSets e
  exact (Dev.Outside.of_tables (((lost.trans (counted _)).trans (aborted _)).trans (Dev.clearUses_frame _))).trans
    (Dev.derivePlaces_tables _).2.1

/-! ### What keeps the order -/

namespace Dev.InOrder

/-- The order is of the sets, the places, and of each cartridge its claim, its count and its location. -/
theorem congr {d e : Dev} (h : d.InOrder) (places : e.cat.places = d.cat.places) (sets : e.cat.sets = d.cat.sets)
    (f : Cart → Cart) (hf : ∀ x, (f x).claim = x.claim ∧ (f x).live = x.live ∧ (f x).location = x.location)
    (carts : ∀ i, e.cart i = (d.cart i).map f) : e.InOrder := by
  have place (p : Place) : e.place p = d.place p := Dev.place_of_places places p
  have back {i : CartIx} {x : Cart} (hx : e.cart i = some x) : ∃ z, d.cart i = some z ∧ f z = x :=
    Option.map_eq_some_iff.mp ((carts i).symm.trans hx)
  refine ⟨by rw [places, h.length], fun k y hy => h.sets k y (by rwa [Dev.set?_of_sets sets] at hy), fun k y hy hs g hg hn => ?_,
    fun i x hx => ?_, fun p => ?_, fun i x p hx hl => ?_, fun p i hp => ?_⟩
  · rw [Dev.set?_of_sets sets] at hy
    exact h.named k y hy hs g hg (Option.map_eq_none_iff.mp ((carts g.cart).symm.trans hn))
  · obtain ⟨z, hz, rfl⟩ := back hx
    obtain ⟨claim, live, -⟩ := hf z
    rw [claim, live, Dev.liveSetsOn_of_sets sets]
    exact h.carts i z hz
  · rw [Dev.confirmed, place]; exact h.unconfirmed p
  · obtain ⟨z, hz, rfl⟩ := back hx
    rw [Dev.occ, place]
    exact h.located i z p hz ((hf z).2.2.symm.trans hl)
  · rw [Dev.occ, place] at hp
    obtain ⟨z, hz, hl⟩ := h.occupied p i hp
    exact ⟨f z, by rw [carts, hz]; rfl, (hf z).2.2.trans hl⟩

theorem of_cat {d e : Dev} (h : d.InOrder) (cat : e.cat = d.cat) : e.InOrder :=
  h.congr (by rw [cat]) (by rw [cat]) id (fun _ => ⟨rfl, rfl, rfl⟩) fun i => by rw [Dev.cart_congr cat, Option.map_id]; rfl

theorem setConfirmed {d : Dev} (h : d.InOrder) (p : Place) : (d.setConfirmed p false).InOrder := by
  have place (q : Place) : (d.setConfirmed p false).place q = d.place q := by
    rw [Dev.place_setConfirmed h.length]
    split
    · next hq =>
      have := h.unconfirmed p
      rw [Dev.confirmed] at this
      rw [hq, ← this]
    · rfl
  have cart (i : CartIx) := Dev.cart_setConfirmed d p false i
  have sets := Dev.setConfirmed_sets d p false
  refine ⟨by rw [Dev.setConfirmed_length, h.length], fun k y hy => h.sets k y (by rwa [Dev.set?_of_sets sets] at hy),
    fun k y hy => ?_, fun i x hx => ?_, fun q => ?_, fun i x q hx => ?_, fun q i hq => ?_⟩
  · rw [Dev.set?_of_sets sets] at hy
    simpa only [cart] using h.named k y hy
  · rw [cart] at hx
    rw [Dev.liveSetsOn_of_sets sets]
    exact h.carts i x hx
  · rw [Dev.confirmed, place]; exact h.unconfirmed q
  · rw [cart] at hx
    rw [Dev.occ, place]
    exact h.located i x q hx
  · rw [Dev.occ, place] at hq
    simpa only [cart] using h.occupied q i hq

/-- R14: the application of a staged map changes pools alone. -/
theorem applyPools {d : Dev} (h : d.InOrder) : d.applyPools.InOrder := by
  cases hs : d.cat.staged with
  | none => rwa [Dev.applyPools_unstaged hs]
  | some m =>
    have live : (d.mapLive m).InOrder := h.congr (by simp [Dev.mapLive, Dev.dirty]) (by simp [Dev.mapLive, Dev.dirty]) id
      (fun _ => ⟨rfl, rfl, rfl⟩) fun i => by rw [Option.map_id]; exact Dev.cart_of_carts (by simp [Dev.mapLive, Dev.dirty]) i
    have pools := live.congr ((Dev.TablesOnly.foldl (Dev.TablesOnly.poolAgain m) allCarts _).places)
      (Dev.foldl_poolAgain_sets m allCarts _) (fun x => { x with pool := m.poolFor x }) (fun _ => ⟨rfl, rfl, rfl⟩)
      fun i => by rw [Dev.cart_foldl _ (Dev.cart_poolAgain m) allCarts allCarts_nodup, if_pos (mem_allCarts i)]
    rw [Dev.applyPools_eq hs]
    exact pools.of_cat (by simp)

end Dev.InOrder

/-! ### What follows the ordering (R194, steps 6 to 9) -/

/-- A step of start-up after the ordering: what stands outside the catalogue is as it was, and the catalogue stays in order. -/
structure Dev.Ensues (d e : Dev) : Prop where
  outside : d.Outside e
  order : d.InOrder → e.InOrder

namespace Dev.Ensues

theorem refl (d : Dev) : d.Ensues d := ⟨.refl d, id⟩
theorem trans {d e g : Dev} (h : d.Ensues e) (k : e.Ensues g) : d.Ensues g :=
  ⟨h.outside.trans k.outside, fun hd => k.order (h.order hd)⟩
theorem of_cat {d e : Dev} (h : d.Outside e) (cat : e.cat = d.cat) : d.Ensues e := ⟨h, fun hd => hd.of_cat cat⟩
theorem foldl {α : Type} {step : Dev → α → Dev} (h : ∀ (d : Dev) (a : α), d.Ensues (step d a)) (l : List α) (d : Dev) :
    d.Ensues (l.foldl step d) :=
  foldl_keeps (P := fun e => d.Ensues e) (fun e a he => he.trans (h e a)) l (refl d)

theorem push (d : Dev) (t : Todo) : d.Ensues (d.push t) := of_cat (.push d t) (by simp)

theorem applyPools (d : Dev) : d.Ensues d.applyPools := by
  refine ⟨?_, fun h => h.applyPools⟩
  cases hs : d.cat.staged with
  | none => rw [Dev.applyPools_unstaged hs]; exact .refl d
  | some m =>
    have live : d.Outside (d.mapLive m) := by
      refine Dev.Outside.trans (e := d.modCat fun k => { k with live := m, staged := none }) ?_ (.of_tables (.dirty ..))
      constructor
      case sess => exact fun c => rfl
      all_goals simp
    rw [Dev.applyPools_eq hs]
    exact ((live.trans (.of_tables (.foldl (Dev.TablesOnly.poolAgain m) allCarts _))).trans (.noticeAll ..)).trans (.push ..)

theorem poolsTest (d : Dev) : d.Ensues d.poolsTest := by
  unfold Dev.poolsTest
  split
  · exact applyPools d
  · exact refl d

theorem answerReset (d : Dev) : d.Ensues d.answerReset := by
  unfold Dev.answerReset
  split
  · refine of_cat ?_ (by simp)
    constructor
    case sess => exact fun c => Dev.sess_of_ch (by simp) c
    all_goals simp
  · exact refl d

theorem noticeBad (d : Dev) : d.Ensues d.noticeBad := by
  unfold Dev.noticeBad
  split
  · exact refl d
  · exact of_cat (.noticeAll ..) (by simp)

theorem modMqu (d : Dev) (f : Mover → Mover) (h : ∀ m, (f m).holdDoor = m.holdDoor ∧ (f m).holdStop = m.holdStop ∧
    (f m).holdPower = m.holdPower ∧ (f m).holdFault = m.holdFault) : d.Ensues (d.modMqu f) := of_cat (.modMqu d f h) (by simp)

theorem wantStatus (d : Dev) (c : Chan) (w : Wants) : d.Ensues (d.wantStatus c w) := by
  refine of_cat ?_ (by simp)
  unfold Dev.wantStatus
  split
  · exact .refl d
  · exact (Dev.Outside.modDrive ..).trans (.push ..)

theorem sendCmd (d : Dev) (c : Chan) (k : DriveCmd) (o : Option Nat) : d.Ensues (d.sendCmd c k o) :=
  of_cat ((Dev.Outside.modDrive ..).trans (.emit ..)) (by simp)

/-- R69, R90: a drive that no session claims is sent a STATUS or a command of its unload procedure. -/
theorem nextCommand (d : Dev) (c : Chan) (x : Drive) (here : Bool) : d.Ensues (d.nextCommand c x here none) := by
  unfold Dev.nextCommand
  split
  · exact refl d
  split
  · exact (of_cat (.modDrive ..) (by simp)).trans (sendCmd ..)
  split
  · exact sendCmd ..
  · exact sendCmd ..
  · exact refl d

theorem command {d : Dev} {c : Chan} (h : d.sess c = none) : d.Ensues (d.command c) := by
  unfold Dev.command
  rw [h]
  dsimp only
  split
  · exact refl d
  · exact nextCommand ..

theorem sendChangerStatus (d : Dev) : d.Ensues d.sendChangerStatus := by
  unfold Dev.sendChangerStatus
  split
  · refine trans ?_ (of_cat (.emit ..) (by simp))
    exact modMqu _ _ fun _ => ⟨rfl, rfl, rfl, rfl⟩
  · exact refl d

theorem setConfirmed (d : Dev) (p : Place) : d.Ensues (d.setConfirmed p false) := ⟨.setConfirmed .., fun h => h.setConfirmed p⟩

theorem joinScan (d : Dev) (fresh : Bool) (p : Place) : d.Ensues (d.joinScan fresh p) := by
  unfold Dev.joinScan
  dsimp only
  split
  · exact setConfirmed d p
  · refine trans ?_ (push ..)
    exact trans (setConfirmed d p) (modMqu _ _ fun _ => ⟨rfl, rfl, rfl, rfl⟩)

theorem startInventory (d : Dev) : d.Ensues d.startInventory := by
  have unconfirm (e : Dev) (p : Place) : e.Ensues (if e.placeExists p then e.setConfirmed p false else e) := by
    split
    · exact setConfirmed e p
    · exact refl e
  unfold Dev.startInventory
  refine trans (trans (trans (trans (trans ?_ (foldl unconfirm allPlaces _)) (foldl (fun e p => joinScan e false p) allSlots _))
    (wantStatus ..)) (wantStatus ..)) (push ..)
  exact modMqu _ _ fun _ => ⟨rfl, rfl, rfl, rfl⟩

/-- R194, steps 7 and 9, with no session on either channel. -/
theorem askLibrary {d : Dev} (h : ∀ c, d.sess c = none) : d.Ensues d.askLibrary := by
  have wanted := (wantStatus d .ch0 { startUp := true }).trans (wantStatus _ .ch1 { startUp := true })
  have first := wanted.trans (command (c := .ch0) ((wanted.outside.sess _).trans (h _)))
  have second := first.trans (command (c := .ch1) ((first.outside.sess _).trans (h _)))
  unfold Dev.askLibrary
  refine trans (trans ?_ (sendChangerStatus _)) (startInventory _)
  exact trans second (modMqu _ _ fun _ => ⟨rfl, rfl, rfl, rfl⟩)

end Dev.Ensues

/-! ### The obligation -/

theorem Dev.resetReq_answerReset (d : Dev) : d.answerReset.resetReq = none := by
  unfold Dev.answerReset
  split
  · simp
  · assumption

theorem Dev.startUp_eq {d : Dev} (h : d.phase = .loaded) :
    d.startUp = (d.freshBlocks.setDoor.ordered.poolsTest.answerReset.noticeBad).askLibrary := by
  rw [Dev.startUp, if_neg (not_not_intro h)]; rfl

/-- Settles O53: the catalogue is put in order (`Dev.ordered_inOrder`), and what follows keeps it so (`Dev.Ensues`). -/
theorem startUpOrdersTheCatalogue : Obligations.StartUpOrdersTheCatalogue := by
  intro d h e
  have ordered := d.freshBlocks.setDoor.ordered_outside
  have answered := (Dev.Ensues.poolsTest d.freshBlocks.setDoor.ordered).trans (.answerReset _)
  have noticed := answered.trans (.noticeBad _)
  have asked := Dev.Ensues.askLibrary fun c => ((ordered.trans noticed.outside).sess c).trans (by cases c <;> rfl)
  have all := noticed.trans asked
  rw [← Dev.startUp_eq h] at all
  have outside : d.freshBlocks.setDoor.Outside e := ordered.trans all.outside
  have order : e.InOrder := all.order (Dev.ordered_inOrder _)
  have reset : e.resetReq = none := by
    rw [show e = _ from Dev.startUp_eq h]
    exact asked.outside.resetReq ((Dev.Ensues.noticeBad _).outside.resetReq (Dev.resetReq_answerReset _))
  exact ⟨outside.phase, outside.sess _, outside.sess _, outside.waitList, outside.smc, order.sets, order.named, order.carts,
    order.unconfirmed, order.located, order.occupied, outside.holdStop, outside.holdPower, outside.holdFault,
    outside.holdDoor.trans outside.doorLevel.symm, outside.doorOpen.trans outside.doorLevel.symm, reset, outside.slots, outside.newest⟩

end Sys2Proof.Machine
end

section
/-! The shrink coding (R33 to R40): every item the encoder chooses describes the bytes of the block at its position, and the decoder,
reading the groups the items were packed in, writes the block item by item. -/

namespace Sys2Proof.Machine

/-! ### The hash table names earlier positions (R33, R35) -/

/-- Every entry of the table names a position before `p`. -/
def TableBefore (table : List HashEntry) (p : Nat) : Prop := ∀ e ∈ table, e.pos < p

theorem hashGet_mem {table : List HashEntry} {h q : Nat} (hq : hashGet table h = some q) : ∃ e ∈ table, e.pos = q := by
  induction table with
  | nil => simp [hashGet] at hq
  | cons e t ih =>
    unfold hashGet at hq
    split at hq
    · exact ⟨e, by simp, by simpa using hq⟩
    split at hq
    · simp at hq
    · obtain ⟨e', he', hpos⟩ := ih hq
      exact ⟨e', by simp [he'], hpos⟩

theorem mem_hashSet {table : List HashEntry} {h q : Nat} {e : HashEntry} (he : e ∈ hashSet table h q) : e ∈ table ∨ e.pos = q := by
  induction table with
  | nil => simp_all [hashSet]
  | cons x t ih =>
    unfold hashSet at he
    split at he
    · grind
    split at he <;> grind

theorem TableBefore.coverTable {table : List HashEntry} {p : Nat} (ht : TableBefore table p) (k : Nat) (here : List Byte) :
    TableBefore (coverTable table k p here) (p + k) := by
  induction k generalizing table p here with
  | zero => exact fun e he => ht e (by simpa [Machine.coverTable] using he)
  | succ k ih =>
    match here with
    | a :: b :: c :: rest =>
      have set : TableBefore (hashSet table (hash3 a b c) p) (p + 1) := fun e he =>
        (mem_hashSet he).elim (fun hm => Nat.lt_succ_of_lt (ht e hm)) (fun hp => by omega)
      have next := ih set (b :: c :: rest)
      rwa [Nat.add_right_comm] at next
    | [] | [_] | [_, _] => exact fun e he => Nat.lt_add_right _ (ht e (by simpa [Machine.coverTable] using he))

/-! ### Items that describe the block (R34) -/

/-- R39: what the decoder makes of an item; the output is kept newest first. -/
def Item.onto : Item → List Byte → List Byte
  | .lit b, out => b :: out
  | .mtch o l, out => copyBack l o out

/-- Section 2.2: the offsets and lengths a match at position `p` can have. -/
def Item.inRange (p : Nat) : Item → Prop
  | .lit _ => True
  | .mtch o l => (1 ≤ o ∧ o ≤ 4096 ∧ o ≤ p) ∧ 3 ≤ l ∧ l ≤ 18

/-- The item describes the bytes of the block from position `p` on: the decoder makes them of it and of what stands before them. -/
structure Item.Describes (block : List Byte) (p : Nat) (it : Item) : Prop where
  inRange : it.inRange p
  within : p + it.covers ≤ block.length
  onto : it.onto (block.take p).reverse = (block.take (p + it.covers)).reverse

theorem Item.inRange.covers_pos {it : Item} {p : Nat} (h : it.inRange p) : 1 ≤ it.covers := by
  cases it with
  | lit b => exact le_rfl
  | mtch o l => exact le_trans (by decide) h.2.1

theorem reverse_take_succ {α : Type} {l : List α} {p : Nat} (h : p < l.length) :
    (l.take (p + 1)).reverse = l[p] :: (l.take p).reverse := by
  rw [List.take_succ_eq_append_getElem h, List.reverse_append]; rfl

theorem Item.Describes.lit {block : List Byte} {p : Nat} (h : p < block.length) : (Item.lit block[p]).Describes block p :=
  ⟨trivial, h, (reverse_take_succ h).symm⟩

/-- R34: the pairs compared lie in the block and are equal. -/
theorem equalPairs_spec (n : Nat) (as bs : List Byte) :
    equalPairs n as bs ≤ n ∧ equalPairs n as bs ≤ bs.length ∧ ∀ i < equalPairs n as bs, as[i]? = bs[i]? := by
  fun_induction equalPairs n as bs with
  | case1 n as b bs ih =>
    obtain ⟨hn, hlen, heq⟩ := ih
    refine ⟨by omega, by simpa using hlen, fun i hi => ?_⟩
    cases i with
    | zero => rfl
    | succ i => simpa using heq i (by omega)
  | case2 | case3 => simp

/-- R39: bytes that equal those `o` positions before them are made of these, the copied ones among them. -/
theorem copyBack_eq {block : List Byte} {o : Nat} (ho : 1 ≤ o) (l : Nat) {p : Nat} (hop : o ≤ p) (hpl : p + l ≤ block.length)
    (heq : ∀ i < l, block[p - o + i]? = block[p + i]?) :
    copyBack l o (block.take p).reverse = (block.take (p + l)).reverse := by
  induction l generalizing p with
  | zero => rfl
  | succ l ih =>
    have hp : p < block.length := by omega
    have first : (block.take p).reverse.getD (o - 1) 0 = block[p] := by
      have index : (block.take p).length - 1 - (o - 1) = p - o := by rw [List.length_take]; omega
      have same : block[p - o]? = block[p]? := heq 0 (by omega)
      rw [List.getD_eq_getElem?_getD, List.getElem?_reverse (by rw [List.length_take]; omega), index,
        List.getElem?_take_of_lt (by omega), same, List.getElem?_eq_getElem hp]; rfl
    have rest := ih (p := p + 1) (by omega) (by omega) fun i hi => by
      have := heq (i + 1) (by omega)
      rwa [show p - o + (i + 1) = p + 1 - o + i by omega, show p + (i + 1) = p + 1 + i by omega] at this
    rw [copyBack, first, ← reverse_take_succ hp, rest, show p + 1 + l = p + (l + 1) by omega]

/-- R34: a match found at an earlier position within the window describes the block. -/
theorem Item.Describes.mtch {block : List Byte} {p e l : Nat} (he : e < p) (hw : p - e ≤ 4096) (hl : 3 ≤ l ∧ l ≤ 18)
    (hpl : p + l ≤ block.length) (heq : ∀ i < l, block[e + i]? = block[p + i]?) : (Item.mtch (p - e) l).Describes block p :=
  ⟨⟨⟨by omega, hw, by omega⟩, hl⟩, hpl,
    copyBack_eq (by omega) l (by omega) hpl (by rwa [show p - (p - e) = e by omega])⟩

/-- R34: the item chosen at a position of the block describes it. -/
theorem chooseItem_describes {block : List Byte} {table : List HashEntry} {p : Nat} (ht : TableBefore table p) (hp : p < block.length) :
    (chooseItem block table p (block.drop p)).Describes block p := by
  have lit (a : Byte) (rest : List Byte) (h : block.drop p = a :: rest) : (Item.lit a).Describes block p := by
    rw [List.drop_eq_getElem_cons hp] at h
    obtain ⟨rfl, -⟩ := List.cons.inj h
    exact .lit hp
  unfold chooseItem
  split
  · next a b c rest here =>
    split
    · exact lit _ _ here
    · next e he =>
      obtain ⟨x, hx, rfl⟩ := hashGet_mem he
      obtain ⟨short, within, equal⟩ := equalPairs_spec 18 (block.drop x.pos) (block.drop p)
      rw [List.length_drop] at within
      split
      · exact lit _ _ here
      dsimp only
      split
      · exact .mtch (ht x hx) (by omega) ⟨by assumption, short⟩ (by omega) (by simpa using equal)
      · exact lit _ _ here
  · next a _ _ here => exact lit _ _ here
  · next here => simp [Nat.not_le.mpr hp] at here

/-- The items describe the block from position `p` to its end, one after another. -/
inductive ItemsDescribe (block : List Byte) : Nat → List Item → Prop
  | nil : ItemsDescribe block block.length []
  | cons {p : Nat} {it : Item} {items : List Item} : it.Describes block p → ItemsDescribe block (p + it.covers) items →
      ItemsDescribe block p (it :: items)

theorem encodeFrom_describes {block : List Byte} (fuel : Nat) {table : List HashEntry} {p : Nat} (ht : TableBefore table p)
    (hp : p ≤ block.length) (hf : block.length ≤ p + fuel) :
    ItemsDescribe block p (encodeFrom block fuel table p (block.drop p)).1 := by
  induction fuel generalizing table p with
  | zero =>
    obtain rfl : p = block.length := by omega
    exact .nil
  | succ fuel ih =>
    rcases Nat.lt_or_eq_of_le hp with hlt | rfl
    · have item := chooseItem_describes ht hlt
      have covered := item.inRange.covers_pos
      have rest := ih (ht.coverTable (chooseItem block table p (block.drop p)).covers (block.drop p)) item.within (by omega)
      have eq : (encodeFrom block (fuel + 1) table p (block.drop p)).1 = chooseItem block table p (block.drop p) ::
          (encodeFrom block fuel (coverTable table (chooseItem block table p (block.drop p)).covers p (block.drop p))
            (p + (chooseItem block table p (block.drop p)).covers)
            (block.drop (p + (chooseItem block table p (block.drop p)).covers))).1 := by
        rw [← List.drop_drop, List.drop_eq_getElem_cons hlt]; rfl
      rw [eq]
      exact .cons item rest
    · rw [List.drop_length]
      exact .nil

/-- R35: the items of a block describe every byte of it, once. -/
theorem encodeItems_describe (block : List Byte) : ItemsDescribe block 0 (encodeItems block) :=
  encodeFrom_describes (p := 0) block.length (fun _ h => absurd h (by simp)) (Nat.zero_le _) (by omega)

/-! ### Groups (R36, R39) -/

theorem toNat_byte (n : Nat) : (byte n).toNat = n % 256 := BitVec.toNat_ofNat n 8

theorem groupFlags_lt (items : List Item) : groupFlags items < 2 ^ items.length := by
  induction items with
  | nil => decide
  | cons it items ih => cases it <;> simp [groupFlags, Nat.pow_succ] <;> omega

/-- R36, R39: the two bytes of a match give its offset and length back. -/
theorem match_fields {o l : Nat} (ho : 1 ≤ o ∧ o ≤ 4096) (hl : 3 ≤ l ∧ l ≤ 18) :
    let x := byte ((o - 1) % 256)
    let y := byte (16 * ((o - 1) / 256) + (l - 3))
    x.toNat + 256 * (y.toNat / 16) + 1 = o ∧ y.toNat % 16 + 3 = l := by
  simp only [toNat_byte]
  omega

/-- R39: the decoder takes an item whose flag bit and bytes come next. -/
theorem decodeGroup_item {block : List Byte} {p : Nat} {it : Item} (h : it.Describes block p) (k : Nat) (items : List Item)
    (rest : List Byte) : decodeGroup block.length (k + 1) (groupFlags (it :: items)) (block.take p).reverse (it.bytes ++ rest) =
      decodeGroup block.length k (groupFlags items) (block.take (p + it.covers)).reverse rest := by
  have more : ¬ block.length ≤ (block.take p).reverse.length := by
    have := h.within; have := h.inRange.covers_pos
    rw [List.length_reverse, List.length_take]; omega
  rw [← h.onto]
  cases it with
  | lit b =>
    rw [Item.bytes, List.singleton_append, decodeGroup, if_neg more, if_pos (by simp [groupFlags]),
      show groupFlags (.lit b :: items) / 2 = groupFlags items by simp [groupFlags]]
    rfl
  | mtch o l =>
    obtain ⟨⟨ho, hwindow, hop⟩, hl⟩ := h.inRange
    have hwithin : p + l ≤ block.length := h.within
    obtain ⟨offset, length⟩ := match_fields ⟨ho, hwindow⟩ hl
    have written : (block.take p).reverse.length = p := by rw [List.length_reverse, List.length_take]; omega
    rw [Item.bytes, List.cons_append, List.singleton_append, decodeGroup, if_neg more, if_neg (by simp only [groupFlags]; omega),
      show groupFlags (.mtch o l :: items) / 2 = groupFlags items by simp only [groupFlags]; omega]
    simp only [offset, length, written]
    rw [if_neg (by omega), if_neg (by omega)]
    rfl

/-- R39, R40: the decoder takes the items of a group, and is done with the last item of the block. -/
theorem decodeGroup_items {block : List Byte} {p : Nat} {items : List Item} (h : ItemsDescribe block p items) (k : Nat)
    (rest : List Byte) : ∃ q, ItemsDescribe block q (items.drop k) ∧
      decodeGroup block.length k (groupFlags (items.take k)) (block.take p).reverse ((items.take k).flatMap Item.bytes ++ rest) =
        if items.drop k = [] then .done block.reverse rest else .more (block.take q).reverse rest := by
  induction k generalizing p items with
  | zero =>
    refine ⟨p, h, ?_⟩
    cases h with
    | nil => simp [decodeGroup]
    | cons item items =>
      have := item.within; have := item.inRange.covers_pos
      simp only [List.take_zero, List.flatMap_nil, List.nil_append, decodeGroup, List.length_reverse, List.length_take, List.drop_zero]
      rw [if_pos (by omega), if_neg (List.cons_ne_nil _ _)]
  | succ k ih =>
    cases h with
    | nil => exact ⟨_, .nil, by simp [decodeGroup]⟩
    | @cons _ it items item hitems =>
      obtain ⟨q, hq, eq⟩ := ih hitems
      refine ⟨q, hq, ?_⟩
      rw [List.take_succ_cons, List.flatMap_cons, List.append_assoc, decodeGroup_item item, eq]
      rfl

/-- R39, R40: the decoder, reading the groups that items were packed in, writes the rest of the block and ends OK. -/
theorem decodeGroups_packGroups {block : List Byte} (fuel : Nat) {p : Nat} {items : List Item} (h : ItemsDescribe block p items)
    (hne : items ≠ []) (hf : items.length ≤ fuel) (n : Nat) (hn : (packGroups fuel items).length < n) :
    decodeGroups block.length n (block.take p).reverse (packGroups fuel items) = (block, true) := by
  induction fuel generalizing p items n with
  | zero => exact absurd (List.length_eq_zero_iff.mp (Nat.le_zero.mp hf)) hne
  | succ fuel ih =>
    have pack : packGroups (fuel + 1) items = byte (groupFlags (items.take 8)) ::
        ((items.take 8).flatMap Item.bytes ++ packGroups fuel (items.drop 8)) := by
      cases items with
      | nil => exact absurd rfl hne
      | cons it items => rfl
    rw [pack, List.length_cons, List.length_append] at hn
    obtain ⟨n, rfl⟩ : ∃ m, n = m + 1 := ⟨n - 1, by omega⟩
    have flags : (byte (groupFlags (items.take 8))).toNat = groupFlags (items.take 8) := by
      have lt := groupFlags_lt (items.take 8)
      have le : 2 ^ (items.take 8).length ≤ 2 ^ 8 := Nat.pow_le_pow_right (by decide) (List.length_take_le ..)
      rw [toNat_byte]; omega
    obtain ⟨q, hq, group⟩ := decodeGroup_items h 8 (packGroups fuel (items.drop 8))
    rw [pack, decodeGroups, flags, group]
    by_cases last : items.drop 8 = []
    · have none : packGroups fuel [] = [] := by cases fuel <;> rfl
      simp [last, none]
    · have left := ih hq last (by rw [List.length_drop]; have := List.length_pos_of_ne_nil hne; omega) n (by omega)
      rw [if_neg last]
      exact left

/-- R36, R39: the coded form of a block that is not empty decodes to the block. -/
theorem decodeGroups_codedForm {block : List Byte} (h : block ≠ []) :
    decodeGroups block.length ((codedForm block).length + 1) [] (codedForm block) = (block, true) := by
  have items := encodeItems_describe block
  have hne : encodeItems block ≠ [] := fun hnil => by
    rw [hnil] at items
    generalize hp : 0 = p at items
    cases items
    exact h (List.length_eq_zero_iff.mp hp.symm)
  exact decodeGroups_packGroups (p := 0) _ items hne le_rfl _ (Nat.lt_succ_self _)

/-- R37: which coding a block gets. -/
theorem shrinkBlock_of_shorter {block : List Byte} (h : (codedForm block).length < block.length) :
    shrinkBlock block = (true, codedForm block) := if_pos h
theorem shrinkBlock_of_not_shorter {block : List Byte} (h : ¬ (codedForm block).length < block.length) :
    shrinkBlock block = (false, block) := if_neg h

/-- Settles O55: a SHRUNK payload is the coded form, which decodes to the block (`decodeGroups_codedForm`); a STORED one is the block. -/
theorem shrinkDecodesToTheSameBlock : Obligations.ShrinkDecodesToTheSameBlock := by
  intro block hpos hmax
  have hne : block ≠ [] := List.ne_nil_of_length_pos hpos
  by_cases short : (codedForm block).length < block.length
  · have able : decodable 1 block.length (codedForm block).length (codedForm block) = true := by
      simp only [decodable, Bool.and_eq_true, decide_eq_true_eq]; omega
    simp only [shrinkBlock_of_shorter short, short, decodePayload, decodeInto, if_true, able, one_ne_zero, if_false, List.take_length,
      decodeGroups_codedForm hne, true_and, implies_true, reduceCtorEq, false_implies]
  · have able : decodable 0 block.length block.length block = true := by
      simp only [decodable, Bool.and_eq_true, decide_eq_true_eq, and_true]; omega
    simp [shrinkBlock_of_not_shorter short, short, decodePayload, decodeInto, able]

end Sys2Proof.Machine
end

section
/-! The coding engines (R47, R48) and the checks of a verify session (R145 to R150): what an encode leaves, and what a record leaves of
the session, its index area and its set, to the session's end. -/

namespace Sys2Proof.Machine

/-! ### The end of an encode (R47) -/

/-- What a step leaves as it was of a channel that codes: its write queue, raw halves, encoder and set digest; and of the device the page
counts, the catalogue and the move queue. -/
structure Dev.KeepsCoding (c : Chan) (d e : Dev) : Prop where
  wq : (e.chan c).wq = (d.chan c).wq
  half : ∀ b, (e.chan c).half b = (d.chan c).half b
  enc : (e.chan c).enc = (d.chan c).enc
  digest : (e.backup? c).map (fun p => p.2.digest) = (d.backup? c).map fun p => p.2.digest
  smc : e.smc = d.smc
  cat : e.cat = d.cat
  mqu : e.mqu = d.mqu

namespace Dev.KeepsCoding

variable {c : Chan}

theorem of_ch {d e : Dev} (ch : e.ch = d.ch) (smc : e.smc = d.smc) (cat : e.cat = d.cat) (mqu : e.mqu = d.mqu) : d.KeepsCoding c e := by
  have chan := Dev.chan_of_ch ch c
  exact ⟨by rw [chan], by simp [chan], by rw [chan], by rw [Dev.backup?_of_sess (Dev.sess_of_ch ch c)], smc, cat, mqu⟩

theorem refl (d : Dev) : d.KeepsCoding c d := of_ch rfl rfl rfl rfl

theorem trans {d e g : Dev} (h : d.KeepsCoding c e) (k : e.KeepsCoding c g) : d.KeepsCoding c g where
  wq := k.wq.trans h.wq
  half b := (k.half b).trans (h.half b)
  enc := k.enc.trans h.enc
  digest := k.digest.trans h.digest
  smc := k.smc.trans h.smc
  cat := k.cat.trans h.cat
  mqu := k.mqu.trans h.mqu

theorem push (d : Dev) (t : Todo) : d.KeepsCoding c (d.push t) := of_ch (by simp) (by simp) (by simp) (by simp)

end Dev.KeepsCoding

/-- A change of a backup's own context is no change of its channel's queues and engines, and is seen in the digest. -/
theorem Dev.digest_modBackup (d : Dev) (c : Chan) (f : Backup → Backup) : ((d.modBackup c f).backup? c).map (fun p => p.2.digest) =
    (d.backup? c).map fun p => (f p.2).digest := by
  cases h : d.backup? c with
  | some p => rw [Dev.backup?_modBackup h]; rfl
  | none =>
    have none : (d.modBackup c f).backup? c = none := by
      unfold Dev.backup? at h ⊢
      rw [Dev.modBackup, Dev.sess_modSess]
      cases hs : d.sess c with
      | none => rfl
      | some s => cases hk : s.kind <;> simp_all
    rw [none]; rfl

theorem Dev.KeepsCoding.modBackup (d : Dev) (c : Chan) {f : Backup → Backup} (h : ∀ b, (f b).digest = b.digest) :
    d.KeepsCoding c (d.modBackup c f) where
  wq := by simp
  half b := by simp [Dev.modBackup, Dev.modSess, Channel.half]
  enc := by simp [Dev.modBackup, Dev.modSess]
  digest := by simp only [Dev.digest_modBackup, h]
  smc := rfl
  cat := rfl
  mqu := rfl

/-- R55, R56: a grant by notice changes the credits of the session and its port alone. -/
theorem Dev.KeepsCoding.grantByNotice (d : Dev) (c : Chan) : d.KeepsCoding c (d.grantByNotice c) := by
  unfold Dev.grantByNotice
  split
  next s b _ =>
    dsimp only
    split
    · exact .refl d
    have offered := Dev.KeepsCoding.of_ch (c := c) (d.offer_ch s.owner (.credit s.handle (creditsDue (d.chan c) b) false))
      (by simp) (by simp) (by simp)
    split
    · next e eq =>
      rw [eq] at offered
      exact offered.trans (.modBackup _ c fun _ => rfl)
    · next e eq =>
      rw [eq] at offered
      exact offered.trans (.modBackup _ c fun _ => rfl)
  · exact .refl d

/-- R61: a record that joins the write queue may start the writer, which changes nothing of the coding. -/
theorem Dev.KeepsCoding.writerTest (d : Dev) (c : Chan) : d.KeepsCoding c (d.writerTest c) := by
  refine .trans (.modBackup d c fun b => ?_) (.push ..)
  split <;> rfl

/-- R32, R47: the record of an encode that ends. -/
def Block.record (b : Block) (block : List Byte) : Record :=
  { kind := b.kind, shrunk := (shrinkBlock block).1, rawLength := block.length, payload := (shrinkBlock block).2
    rawCrc := crc32 block, tape := b.tape, seq := b.seq }

/-- R44, R65: the context of a backup one of whose records has been coded. -/
def Backup.recordCoded (r : Record) (q : Backup) : Backup :=
  { q with digest := if r.kind = .data then q.digest.map fun g => crc32Extend g (crc32Bytes r.rawCrc) else q.digest
           window := q.window.map (· + r.stored) }

/-- R47, step 4 and 5: the source block is released, and the encoder is IDLE. -/
def Channel.encoded (b : Block) (e : Encoder) (block : List Byte) (x : Channel) : Channel :=
  { x.setHalf b.fromB {} with
    enc := { e with state := .idle, desc := none, hash := (encodeFrom block block.length [] 0 block).2 } }

/-- R47: the record is in the write queue, and the encoder IDLE. -/
def Dev.encoded (d : Dev) (c : Chan) (b : Block) (block : List Byte) : Dev :=
  ((d.modBackup c (Backup.recordCoded (b.record block))).enqueue c (.item (b.record block))).modChan c
    (Channel.encoded b (d.chan c).enc block)

theorem Dev.encodeDone_eq {d : Dev} {c : Chan} {b : Block} (hs : (d.chan c).enc.state = .coding) (hb : (d.chan c).enc.desc = some b) :
    let e := d.encoded c b ((d.chan c).half b.fromB).bytes
    d.encodeDone c = ((if b.kind = .data then e.grantByNotice c else e).push (.encoder c)).push (.build c) := by
  rw [Dev.encodeDone]
  simp only [hs, hb]
  rfl

theorem Dev.encodeDone_keeps {d : Dev} {c : Chan} {b : Block} (hs : (d.chan c).enc.state = .coding) (hb : (d.chan c).enc.desc = some b) :
    (d.encoded c b ((d.chan c).half b.fromB).bytes).KeepsCoding c (d.encodeDone c) := by
  rw [Dev.encodeDone_eq hs hb]
  refine .trans ?_ ((Dev.KeepsCoding.push ..).trans (.push ..))
  split
  · exact .grantByNotice ..
  · exact .refl _

@[simp] theorem Channel.half_setHalf (x : Channel) (b : Bool) (h : RawHalf) : (x.setHalf b h).half b = h := by cases b <;> rfl
@[simp] theorem Channel.half_setHalf_other (x : Channel) (b : Bool) (h : RawHalf) : (x.setHalf b h).half (!b) = x.half (!b) := by
  cases b <;> rfl
@[simp] theorem Channel.wq_setHalf (x : Channel) (b : Bool) (h : RawHalf) : (x.setHalf b h).wq = x.wq := by cases b <;> rfl

/-- R47: the steps of an encode's end, before the grant it may lead to. -/
theorem Dev.encoded_spec (d : Dev) (c : Chan) (b : Block) (block : List Byte) : let e := d.encoded c b block
    (e.chan c).wq = (d.chan c).wq ++ [.item (b.record block)] ∧ (e.chan c).half b.fromB = {} ∧
      (e.chan c).half (!b.fromB) = (d.chan c).half (!b.fromB) ∧
      ((e.chan c).enc.state = .idle ∧ (e.chan c).enc.desc = none ∧ (e.chan c).enc.work = (d.chan c).enc.work) ∧
      (e.backup? c).map (fun p => p.2.digest) = (d.backup? c).map (fun p => (p.2.recordCoded (b.record block)).digest) ∧
      e.smc = d.smc ∧ e.cat = d.cat ∧ e.mqu = d.mqu := by
  have before (x : Dev) (y : Channel → Channel) (hy : ∀ z, (y z).sess = z.sess) : (x.modChan c y).backup? c = x.backup? c :=
    Dev.backup?_of_sess (Dev.sess_modChan x c c y hy)
  have test := Dev.KeepsCoding.writerTest ((d.modBackup c (Backup.recordCoded (b.record block))).modChan c fun x =>
    { x with wq := x.wq ++ [.item (b.record block)] }) c
  have kept := Dev.chan_modChan ((d.modBackup c (Backup.recordCoded (b.record block))).enqueue c (.item (b.record block))) c
    (Channel.encoded b (d.chan c).enc block)
  have other : ((d.modBackup c (Backup.recordCoded (b.record block))).chan c).half (!b.fromB) = (d.chan c).half (!b.fromB) := by
    simp [Dev.modBackup, Dev.modSess, Channel.half]
  dsimp only
  unfold Dev.encoded
  refine ⟨?_, ?_, ?_, ?_, ?_, test.smc, test.cat, test.mqu⟩
  · rw [kept]
    exact (Channel.wq_setHalf ..).trans (test.wq.trans (by simp))
  · rw [kept]
    exact Channel.half_setHalf ..
  · rw [kept]
    exact (Channel.half_setHalf_other ..).trans ((test.half _).trans (by rw [← other, Dev.chan_modChan]; rfl))
  · rw [kept]
    exact ⟨rfl, rfl, rfl⟩
  · rw [before _ _ fun x => by cases hb : b.fromB <;> simp [Channel.encoded, Channel.setHalf, hb]]
    refine test.digest.trans ?_
    rw [before, Dev.digest_modBackup]
    exact fun _ => rfl

/-! ### The checks of a record (R145) -/

theorem checkRecord_eq (h : Header) (k : RecKind) (tape seq : Nat) (out : Option (List Byte)) : checkRecord h k tape seq out =
    if h.check = false then some .headerFault
    else if ¬ (h.kind = some k ∧ h.tape = tape ∧ h.seq = seq) then some .sequenceFault
    else (out.map fun bs => if crc32 bs = h.rawCrc then none else some Cause.crcFault).getD (some .decodeFault) := by
  have order : (h.kind ≠ some k ∨ h.tape ≠ tape ∨ h.seq ≠ seq) = ¬ (h.kind = some k ∧ h.tape = tape ∧ h.seq = seq) := by
    simp only [not_and_or, ne_eq]
  unfold checkRecord
  simp only [order, Bool.not_eq_true']
  cases out <;> simp

theorem checkRecord_none_isSome {h : Header} {k : RecKind} {tape seq : Nat} {out : Option (List Byte)}
    (hc : checkRecord h k tape seq out = none) : out.isSome = true := by
  rw [checkRecord_eq] at hc
  cases out <;> grind

/-- 00_scope 5.2: the count of a 16-bit field stays at its greatest value. -/
theorem satInc_eq {n : Nat} (h : n ≤ 65535) : satInc n = min 65535 (n + 1) := by
  unfold satInc; split <;> omega

theorem VerifyRec.hardError_eq {v : VerifyRec} (h : v.hard ≤ 65535) (o n : Nat) (cause : Cause) : v.hardError o n cause =
    { v with hard := min 65535 (v.hard + 1), locator := if v.hard = 0 then some ⟨o, n, cause⟩ else v.locator } := by
  rw [VerifyRec.hardError, satInc_eq h]

/-! ### A verify session at its work: what it is on a device that has come of `d₀` -/

/-- The verify session `s` on a channel, with its context `v`, the set `y` it works on in entry `i`, and its index area; the day and the
settings are those of `d₀`. -/
structure Dev.Verifies (d₀ : Dev) (c : Chan) (s : Session) (i : SetIx) (v : Verify) (y : BackupSet) (index : List IndexEntry) (d : Dev) :
    Prop where
  sess : d.sess c = some { s with kind := .verify v }
  names : s.set = some i
  set : d.set? i = some y
  index : (d.chan c).index = index
  day : d.cat.day = d₀.cat.day
  cfg : d.cfg = d₀.cfg

namespace Dev.Verifies

variable {d₀ d : Dev} {c : Chan} {s : Session} {i : SetIx} {v : Verify} {y : BackupSet} {index : List IndexEntry}

theorem start (hv : d.verify? c = some (s, v)) (hi : d.setOf s = some (i, y)) : Verifies d c s i v y (d.chan c).index d := by
  obtain ⟨hs, hk⟩ := Dev.verify?_eq_some.mp hv
  obtain ⟨names, set⟩ := Dev.setOf_eq_some.mp hi
  exact ⟨by rw [hs, ← hk], names, set, rfl, rfl, rfl⟩

theorem verify? (h : Verifies d₀ c s i v y index d) : d.verify? c = some ({ s with kind := .verify v }, v) :=
  Dev.verify?_eq_some.mpr ⟨h.sess, rfl⟩

theorem setOf (h : Verifies d₀ c s i v y index d) : d.setOf { s with kind := .verify v } = some (i, y) :=
  Dev.setOf_eq_some.mpr ⟨h.names, h.set⟩

/-- What changes neither the channel nor the sets, the day and the settings changes nothing of the session. -/
theorem same (h : Verifies d₀ c s i v y index d) {e : Dev} (ch : e.ch = d.ch) (sets : e.cat.sets = d.cat.sets)
    (day : e.cat.day = d.cat.day) (cfg : e.cfg = d.cfg) : Verifies d₀ c s i v y index e where
  sess := (Dev.sess_of_ch ch c).trans h.sess
  names := h.names
  set := (Dev.set?_of_sets sets i).trans h.set
  index := (congrArg Channel.index (Dev.chan_of_ch ch c)).trans h.index
  day := day.trans h.day
  cfg := cfg.trans h.cfg

theorem push (h : Verifies d₀ c s i v y index d) (t : Todo) : Verifies d₀ c s i v y index (d.push t) :=
  h.same (by simp) (by simp) (by simp) (by simp)

/-- A change of the session that leaves it a verify session of its set. -/
theorem modSess (h : Verifies d₀ c s i v y index d) {f : Session → Session} {t : Session} {w : Verify}
    (hf : f { s with kind := .verify v } = { t with kind := .verify w }) (ht : t.set = s.set) :
    Verifies d₀ c t i w y index (d.modSess c f) where
  sess := by rw [Dev.sess_modSess, h.sess, Option.map_some, hf]
  names := ht.trans h.names
  set := h.set
  index := by rw [Dev.modSess, Dev.chan_modChan]; exact h.index
  day := h.day
  cfg := h.cfg

theorem modVerify (h : Verifies d₀ c s i v y index d) (f : Verify → Verify) : Verifies d₀ c s i (f v) y index (d.modVerify c f) :=
  h.modSess rfl rfl

theorem setIndex (h : Verifies d₀ c s i v y index d) (area : List IndexEntry) :
    Verifies d₀ c s i v y area (d.modChan c fun x => { x with index := area }) where
  sess := by
    refine (Dev.sess_modChan d c c _ ?_).trans h.sess
    exact fun _ => rfl
  names := h.names
  set := h.set
  index := by rw [Dev.chan_modChan]
  day := h.day
  cfg := h.cfg

theorem modSet (h : Verifies d₀ c s i v y index d) (f : BackupSet → BackupSet) : Verifies d₀ c s i v (f y) index (d.modSet i f) where
  sess := ((Dev.TablesOnly.modSet d i f).sess c).trans h.sess
  names := h.names
  set := by rw [Dev.set?_modSet_same, h.set, Option.map_some]
  index := by rw [Dev.chan_of_ch (Dev.modSet_ch ..)]; exact h.index
  day := (Dev.TablesOnly.modSet d i f).day.trans h.day
  cfg := (Dev.modSet_cfg ..).trans h.cfg

theorem countHard (h : Verifies d₀ c s i v y index d) (o n : Nat) (cause : Cause) :
    Verifies d₀ c s i v { y with verify := y.verify.hardError o n cause } index (d.countHard i o n cause) :=
  h.modSet fun y => { y with verify := y.verify.hardError o n cause }

theorem countSoft (h : Verifies d₀ c s i v y index d) :
    Verifies d₀ c s i v { y with verify := { y.verify with soft := satInc y.verify.soft } } index (d.countSoft i) :=
  h.modSet fun y => { y with verify := { y.verify with soft := satInc y.verify.soft } }

end Dev.Verifies

/-- R79: a session with another session cartridge. -/
def Session.movedTo (j : CartIx) (yields : Bool) (s : Session) : Session := { s with cart := some j, yields := yields, noted := none }

/-- R142: a session whose media-wait timer runs. -/
def Session.waitsFor (ms : Nat) (s : Session) : Session := { s with mediaTimer := some ms }

/-! ### The record a verify has read (R145 to R148) -/

/-- R146: the verify record once a record has been read, which counts as a soft error when it was recovered. -/
def VerifyRec.softMet (r : ReadEntry) (t : VerifyRec) : VerifyRec :=
  { t with soft := if r.kind = some .softRecovered then min 65535 (t.soft + 1) else t.soft }

/-- R146, R147: the session once a record of a kind has failed. -/
def Verify.failed (k : RecKind) (v : Verify) : Verify :=
  { v with dataClean := v.dataClean && decide (k ≠ .data), indexWhole := v.indexWhole && decide (k ≠ .index)
           indexCounted := v.indexCounted || decide (k = .index) }

/-- R147, R148: the session once a record has passed, by its kind. -/
def Verify.dataPassed (bs : List Byte) (stored : Nat) (v : Verify) : Verify :=
  { v with digest := crc32Extend v.digest (crc32Bytes (crc32 bs)), storedTotal := v.storedTotal + stored }
def Verify.indexPassed (whole : Bool) (v : Verify) : Verify := { v with indexWhole := v.indexWhole && whole }
def Verify.closePassed (bs : List Byte) (v : Verify) : Verify := { v with trailer := some (readCloseTrailer bs) }

/-- R146: the device once a record has been read. -/
def Dev.softMet (d : Dev) (i : SetIx) (r : ReadEntry) : Dev := if r.kind = some .softRecovered then d.countSoft i else d

theorem Dev.softMet_chan (d : Dev) (i : SetIx) (r : ReadEntry) (c : Chan) : (d.softMet i r).chan c = d.chan c := by
  unfold Dev.softMet
  split
  · exact Dev.chan_of_ch (Dev.modSet_ch ..) c
  · rfl

/-- The kinds of record a run holds. -/
theorem BackupSet.expected_kind (y : BackupSet) (g : Segment) (k : Nat) :
    (y.expected g k).1 = .data ∨ (y.expected g k).1 = .index ∨ (y.expected g k).1 = .close := by
  unfold BackupSet.expected
  dsimp only
  split
  · exact .inl rfl
  split
  · exact .inr (.inl rfl)
  · exact .inr (.inr rfl)

namespace Dev.Verifies

variable {d₀ d : Dev} {c : Chan} {s : Session} {i : SetIx} {v : Verify} {y : BackupSet} {index : List IndexEntry} {g : Segment}
  {r : ReadEntry} {out : Option (List Byte)} {k : RecKind} {q n : Nat}

theorem softMet (h : Verifies d₀ c s i v y index d) (hsoft : y.verify.soft ≤ 65535) (r : ReadEntry) :
    Verifies d₀ c s i v { y with verify := y.verify.softMet r } index (d.softMet i r) := by
  unfold Dev.softMet VerifyRec.softMet
  split
  · rw [← satInc_eq hsoft]
    exact h.countSoft
  · exact h

section
variable (h : Verifies d₀ c s i v y index d) (hg : y.segment v.segment = some g) (hp : y.expected g v.at_ = (k, q, n))
include h hg hp

theorem verifyRecord_failed {cause : Cause} (hc : checkRecord (readHeader r.bytes) k y.tape q out = some cause) : d.verifyRecord c r out =
    (((d.softMet i r).countHard i g.ordinal n cause).modVerify c (Verify.failed k)).verifyAdvance c := by
  rw [Dev.verifyRecord, h.verify?]
  simp only [h.setOf, Option.bind_some, hg, Option.map_some, hp, hc]
  rfl

theorem verifyRecord_data {bs : List Byte} (hk : k = .data) (hc : checkRecord (readHeader r.bytes) k y.tape q (some bs) = none) :
    d.verifyRecord c r (some bs) = 
      ((d.softMet i r).modVerify c (Verify.dataPassed bs (readHeader r.bytes).payloadLength)).verifyAdvance c := by
  subst hk
  rw [Dev.verifyRecord, h.verify?]
  simp only [h.setOf, Option.bind_some, hg, Option.map_some, hp, hc]
  rfl

theorem verifyRecord_index {bs : List Byte} (hk : k = .index) (hc : checkRecord (readHeader r.bytes) k y.tape q (some bs) = none) :
    d.verifyRecord c r (some bs) =
      (((d.softMet i r).modChan c fun x => { x with index := (unpackEntries bs.length bs index).1 }).modVerify c
        (Verify.indexPassed (unpackEntries bs.length bs index).2)).verifyAdvance c := by
  subst hk
  rw [Dev.verifyRecord, h.verify?]
  simp only [h.setOf, Option.bind_some, hg, Option.map_some, hp, hc]
  rw [← h.index, ← Dev.softMet_chan d i r c]
  rfl

theorem verifyRecord_close {bs : List Byte} (hk : k = .close) (hc : checkRecord (readHeader r.bytes) k y.tape q (some bs) = none) :
    d.verifyRecord c r (some bs) =
      ((d.softMet i r).modVerify c (Verify.closePassed bs)).verifyAdvance c := by
  subst hk
  rw [Dev.verifyRecord, h.verify?]
  simp only [h.setOf, Option.bind_some, hg, Option.map_some, hp, hc]
  rfl

/-- R145 to R148: what a record leaves of the session before its run advances, by whether it passes and by its kind. -/
theorem verifyRecord_leaves (hsoft : y.verify.soft ≤ 65535) {w : Verify} {t : VerifyRec} {area : List IndexEntry}
    (failed : ∀ cause, checkRecord (readHeader r.bytes) k y.tape q out = some cause →
      area = index ∧ t = (y.verify.softMet r).hardError g.ordinal n cause ∧ w = v.failed k)
    (passed : ∀ bs, out = some bs → checkRecord (readHeader r.bytes) k y.tape q out = none → t = y.verify.softMet r ∧
      (k = .data → area = index ∧ w = v.dataPassed bs (readHeader r.bytes).payloadLength) ∧
      (k = .index → area = (unpackEntries bs.length bs index).1 ∧ w = v.indexPassed (unpackEntries bs.length bs index).2) ∧
      (k = .close → area = index ∧ w = v.closePassed bs)) :
    ∃ e, d.verifyRecord c r out = e.verifyAdvance c ∧ Verifies d₀ c s i w { y with verify := t } area e ∧ w.at_ = v.at_ ∧
      w.segment = v.segment := by
  have met := h.softMet hsoft r
  cases hc : checkRecord (readHeader r.bytes) k y.tape q out with
  | some cause =>
    obtain ⟨rfl, rfl, rfl⟩ := failed cause hc
    exact ⟨_, h.verifyRecord_failed hg hp hc, (met.countHard ..).modVerify (Verify.failed k), rfl, rfl⟩
  | none =>
    obtain ⟨bs, rfl⟩ := Option.isSome_iff_exists.mp (checkRecord_none_isSome hc)
    obtain ⟨rfl, data, ofIndex, close⟩ := passed bs rfl hc
    have kinds := y.expected_kind g v.at_
    rw [hp] at kinds
    rcases kinds with hk | hk | hk
    · obtain ⟨rfl, rfl⟩ := data hk
      exact ⟨_, h.verifyRecord_data hg hp hk hc, met.modVerify (Verify.dataPassed bs _), rfl, rfl⟩
    · obtain ⟨rfl, rfl⟩ := ofIndex hk
      exact ⟨_, h.verifyRecord_index hg hp hk hc, (met.setIndex _).modVerify (Verify.indexPassed _), rfl, rfl⟩
    · obtain ⟨rfl, rfl⟩ := close hk
      exact ⟨_, h.verifyRecord_close hg hp hk hc, met.modVerify (Verify.closePassed bs), rfl, rfl⟩
end

/-! ### The run advances (R144) -/

theorem verifyAdvance_eq (h : Verifies d₀ c s i v y index d) (hg : y.segment v.segment = some g) : d.verifyAdvance c =
    if y.runCount g ≤ v.at_ + 1 then (d.modVerify c fun v => { v with at_ := v.at_ + 1 }).segmentDone c
    else d.modVerify c fun v => { v with at_ := v.at_ + 1 } := by
  have next := h.modVerify fun v => { v with at_ := v.at_ + 1 }
  rw [Dev.verifyAdvance]
  simp only [next.verify?, next.setOf, Option.bind_some, hg, Option.map_some]

theorem segmentDone_eq (h : Verifies d₀ c s i v y index d) : d.segmentDone c =
    if v.segment < y.segments.length then (d.modVerify c fun v => { v with segment := v.segment + 1 }).verifyWait c
    else (d.finalChecks c).verifyEnd c := by
  rw [Dev.segmentDone, h.verify?]
  simp only [h.setOf]

/-! ### The next segment's cartridge is waited for (R142) -/

/-- R79: the session cartridge changes, and the session is otherwise what it was. -/
theorem setSessCart (h : Verifies d₀ c s i v y index d) (j : CartIx) :
    ∃ t, Verifies d₀ c t i v y index (d.setSessCart c j) ∧ t.handle = s.handle ∧ t.cart = some j := by
  rw [Dev.setSessCart, h.sess]
  dsimp only
  split
  · next hj => exact ⟨s, h, rfl, hj⟩
  have unclaimed : Verifies d₀ c s i v y index (d.cartUnclaimed s) := by
    unfold Dev.cartUnclaimed
    split
    · next k _ => exact h.same (d.unclaim_frame k _).ch (d.unclaim_sets k _) (d.unclaim_frame k _).day (d.unclaim_frame k _).cfg
    · exact h
  have left (t : Session) {e : Dev} (he : Verifies d₀ c t i v y index e) : Verifies d₀ c t i v y index (e.cartLeft s) := by
    unfold Dev.cartLeft
    split
    · exact he.same (by simp) (by simp) (by simp) (by simp [Dev.cartReleased])
    · exact he
  have claimed (t : Session) {e : Dev} (he : Verifies d₀ c t i v y index e) (p : Prop) [Decidable p] (o : Option Nat) :
      Verifies d₀ c t i v y index (if p then e.setClaim j o else e).look := by
    split
    · exact he.same (by simp) (by simp) (by simpa using (Dev.TablesOnly.setClaim e j o).day) (by simp)
    · exact he.same (by simp) (by simp) (by simp) (by simp)
  have moved (yields : Bool) := unclaimed.modSess (f := Session.movedTo j yields) (t := s.movedTo j yields) rfl rfl
  exact ⟨_, claimed _ (left _ (moved _)) _ _, rfl, rfl⟩

/-- R142: with an open-wait value other than 0, the start of the media-wait timer, where there is one, does not end the wait. -/
theorem startMediaWait (h : Verifies d₀ c s i v y index d) (ho : d₀.cfg.openWait ≠ 0) (timed : Bool) : ∃ t e,
    d.startMediaWait c timed = (e, false) ∧ Verifies d₀ c t i v y index e ∧ t.handle = s.handle ∧ t.cart = s.cart := by
  unfold Dev.startMediaWait
  rw [h.sess]
  dsimp only
  split
  · exact ⟨s, d, rfl, h, rfl, rfl⟩
  split
  · next zero => exact absurd (h.cfg ▸ zero) ho
  · exact ⟨s.waitsFor (d.cfg.openWait * 1000), _, rfl,
      h.modSess (f := Session.waitsFor (d.cfg.openWait * 1000)) rfl rfl, rfl, rfl⟩

/-- R142: a verify session waits for the cartridge of its current segment. -/
theorem verifyWait (h : Verifies d₀ c s i v y index d) (hg : y.segment v.segment = some g) (ho : d₀.cfg.openWait ≠ 0) : ∃ t,
    Verifies d₀ c t i { v with state := .waitMedia, at_ := 0 } y index (d.verifyWait c) ∧ t.handle = s.handle ∧
      t.cart = some g.cart := by
  obtain ⟨t, taken, handle, cart⟩ := (h.modVerify fun v => { v with state := .waitMedia, at_ := 0 }).setSessCart g.cart
  obtain ⟨u, e, eq, waits, handle', cart'⟩ := taken.startMediaWait ho v.started
  refine ⟨u, ?_, handle'.trans handle, cart'.trans cart⟩
  rw [Dev.verifyWait, h.verify?]
  simp only [h.setOf, Option.bind_some, hg, eq]
  exact waits.push _

end Dev.Verifies

/-! ### The final checks and the end of a verify (R149, R150) -/

/-- R149: the verify record after a final check that is made when `due`. -/
def BackupSet.afterCheck (y : BackupSet) (due good : Bool) (cause : Cause) (t : VerifyRec) : VerifyRec :=
  if due && !good then
    t.hardError ((y.lastSegment.map (·.ordinal)).getD 0) (y.dataCount + (y.locator.map (·.count)).getD 0) cause
  else t

/-- R149, check 1: the verify record after the trailer has been compared, where one was read. -/
def BackupSet.afterTrailer (y : BackupSet) (v : Verify) (t : VerifyRec) : VerifyRec :=
  y.afterCheck (y.locator.isSome && v.trailer.isSome) (v.trailer.any fun q => trailerMatches y q v.dataClean v.storedTotal)
    .trailerMismatch t

/-- R149: the verify record after the final checks, in their order. -/
def BackupSet.afterChecks (y : BackupSet) (v : Verify) (index : List IndexEntry) (t : VerifyRec) : VerifyRec :=
  let t := y.afterCheck (y.locator.isSome && y.digest.isSome && v.dataClean) (y.digest = some (crc32Finish v.digest)) .digestMismatch
    (y.afterTrailer v t)
  y.afterCheck (y.locator.isSome && !v.indexCounted)
    (v.indexWhole && index.length = y.fileCount && (index.map (·.length)).sum = y.rawBytes) .indexMismatch t

theorem and_indexFits (whole : Bool) (y : BackupSet) (index : List IndexEntry) :
    (whole && decide (index.length = y.fileCount) && decide ((index.map (·.length)).sum = y.rawBytes)) =
      (whole && indexFits y index) := Bool.and_assoc ..

theorem Dev.endSession_sets (d : Dev) (c : Chan) : (d.endSession c).cat.sets = d.cat.sets := by
  cases h : d.sess c with
  | none => rw [Dev.endSession, h]
  | some s =>
    have left (e : Dev) : (e.cartLeft s).cat.sets = e.cat.sets := by unfold Dev.cartLeft; split <;> simp
    have unclaimed (e : Dev) : (e.cartUnclaimed s).cat.sets = e.cat.sets := by
      unfold Dev.cartUnclaimed; split <;> simp [Dev.unclaim_sets]
    have idle (e : Dev) : (e.startIdle c).cat = e.cat := by obtain ⟨t, ht, -⟩ := e.startIdle_eq c; rw [ht]; rfl
    rw [Dev.endSession_eq h]
    simp [idle, left, unclaimed, Dev.released, Dev.forgetRequester_eq, Dev.freeChannelMemory]

theorem Dev.endRun_cat (d : Dev) (c : Chan) : (d.endRun c).cat = d.cat := by
  unfold Dev.endRun
  dsimp only
  split <;> simp [Dev.freeHalf]

theorem Dev.writeResult_set (d : Dev) (i : SetIx) (res : VerifyResult) (announce : Bool) : (d.writeResult i res announce).set? i =
    (d.set? i).map fun y => { y with verify := { y.verify with result := res, day := some d.cat.day } } := by
  rw [← Dev.set?_modSet_same d i]
  unfold Dev.writeResult
  dsimp only
  split
  · split
    · exact Dev.set?_congr (by simp) i
    · rfl
  · rfl

namespace Dev.Verifies

variable {d₀ d : Dev} {c : Chan} {s : Session} {i : SetIx} {v : Verify} {y : BackupSet} {index : List IndexEntry} {t : VerifyRec}

theorem finalCheck (h : Verifies d₀ c s i v { y with verify := t } index d) (u : VerifyRec) (due good : Bool) (cause : Cause) :
    Verifies d₀ c s i v { y with verify := y.afterCheck due good cause t } index
      (d.finalCheck i { y with verify := u } due good cause) := by
  unfold Dev.finalCheck BackupSet.afterCheck
  split
  · exact h.countHard ..
  · exact h

theorem finalChecks (h : Verifies d₀ c s i v { y with verify := t } index d) :
    Verifies d₀ c s i v { y with verify := y.afterChecks v index t } index (d.finalChecks c) := by
  have others {e : Dev} (he : Verifies d₀ c s i v { y with verify := y.afterTrailer v t } index e) :=
    (he.finalCheck t (y.locator.isSome && y.digest.isSome && v.dataClean) (y.digest = some (crc32Finish v.digest))
      .digestMismatch).finalCheck t (y.locator.isSome && !v.indexCounted) (v.indexWhole && indexFits y index) .indexMismatch
  have area {e : Dev} (he : Verifies d₀ c s i v { y with verify := y.afterTrailer v t } index e) :=
    (he.finalCheck t (y.locator.isSome && y.digest.isSome && v.dataClean) (y.digest = some (crc32Finish v.digest))
      .digestMismatch).index
  rw [Dev.finalChecks, h.verify?]
  simp only [h.setOf, BackupSet.afterChecks, and_indexFits]
  cases hq : v.trailer with
  | none =>
    have unread : Verifies d₀ c s i v { y with verify := y.afterTrailer v t } index d := by
      simpa [BackupSet.afterTrailer, BackupSet.afterCheck, hq] using h
    exact (area unread).symm ▸ others unread
  | some q =>
    have compared : Verifies d₀ c s i v { y with verify := y.afterTrailer v t } index (d.finalCheck i { y with verify := t }
        y.locator.isSome (trailerMatches y q v.dataClean v.storedTotal) .trailerMismatch) := by
      simpa [BackupSet.afterTrailer, hq] using h.finalCheck t y.locator.isSome (trailerMatches y q v.dataClean v.storedTotal)
        .trailerMismatch
    exact (area compared).symm ▸ others compared

/-- R150: a verify that ends normally: the result and the day are written, the set is released and the session over. -/
theorem verifyEnd (h : Verifies d₀ c s i v y index d) : let e := d.verifyEnd c
    e.SessionOver c ∧ e.set? i = some { y with
      inUse := none, verify := { y.verify with result := verifyOutcome y v.cutShort, day := some d₀.cat.day } } := by
  have written : (((d.writeResult i (verifyOutcome y v.cutShort) true).freeSet (some i)).endRun c).set? i = some { y with
      inUse := none, verify := { y.verify with result := verifyOutcome y v.cutShort, day := some d₀.cat.day } } := by
    rw [Dev.set?_congr (Dev.endRun_cat ..), Dev.freeSet, Dev.set?_setInUse, if_pos rfl, Dev.writeResult_set, h.set, h.day]; rfl
  have sess : (((d.writeResult i (verifyOutcome y v.cutShort) true).freeSet (some i)).endRun c).sess c =
      some { s with kind := .verify v } := by
    rw [Dev.sess_endRun, (Dev.TablesOnly.freeSet ..).sess, Dev.sess_writeResult, h.sess]
  rw [Dev.verifyEnd, h.verify?]
  simp only [h.setOf]
  exact ⟨Dev.sessionOver_of_ch (Dev.sessionEnded_ch ..) (Dev.sessionOver_endSession sess),
    (Dev.set?_of_sets (by simp [Dev.sessionEnded, Dev.endSession_sets]) i).trans written⟩

/-! ### Where the run goes on, comes to its segment's end, and to the set's (R144) -/

section
variable {g : Segment} (h : Verifies d₀ c s i v y index d) (hg : y.segment v.segment = some g)
include h hg

theorem verifyAdvance_within (within : v.at_ + 1 < y.runCount g) :
    Verifies d₀ c s i { v with at_ := v.at_ + 1 } y index (d.verifyAdvance c) := by
  rw [h.verifyAdvance_eq hg, if_neg (by omega)]
  exact h.modVerify fun v => { v with at_ := v.at_ + 1 }

theorem verifyAdvance_toNext {g' : Segment} (past : y.runCount g ≤ v.at_ + 1) (more : v.segment < y.segments.length)
    (hg' : y.segment (v.segment + 1) = some g') (ho : d₀.cfg.openWait ≠ 0) : ∃ t,
    Verifies d₀ c t i { v with at_ := 0, segment := v.segment + 1, state := .waitMedia } y index (d.verifyAdvance c) ∧
      t.handle = s.handle ∧ t.cart = some g'.cart := by
  have next := h.modVerify fun v => { v with at_ := v.at_ + 1 }
  rw [h.verifyAdvance_eq hg, if_pos past, next.segmentDone_eq, if_pos more]
  exact (next.modVerify fun v => { v with segment := v.segment + 1 }).verifyWait hg' ho
end

theorem verifyAdvance_toEnd {g : Segment} (h : Verifies d₀ c s i v { y with verify := t } index d) (hg : y.segment v.segment = some g)
    (past : y.runCount g ≤ v.at_ + 1) (last : y.segments.length ≤ v.segment) : let e := d.verifyAdvance c
    let u := y.afterChecks v index t
    e.SessionOver c ∧ e.set? i = some { y with
      inUse := none, verify := { u with result := verifyOutcome { y with verify := u } v.cutShort, day := some d₀.cat.day } } := by
  have next := h.modVerify fun v => { v with at_ := v.at_ + 1 }
  have ends : d.verifyAdvance c = ((d.modVerify c fun v => { v with at_ := v.at_ + 1 }).finalChecks c).verifyEnd c :=
    (h.verifyAdvance_eq hg).trans ((if_pos past).trans (next.segmentDone_eq.trans (if_neg (Nat.not_lt.mpr last))))
  rw [ends]
  exact next.finalChecks.verifyEnd

end Dev.Verifies

/-! ### The obligation -/

theorem exec_encodeCompletion (c : Chan) (s : State) : exec (.encodeCompletion c) s = s.does fun d => d.encodeDone c := by rfl
theorem exec_decodeCompletion (c : Chan) (s : State) : exec (.decodeCompletion c) s = s.does fun d => d.decodeDone c := by rfl

/-- R149, check 1, field by field. -/
theorem trailerMatches_iff {y : BackupSet} {t : CloseTrailer} {clean : Bool} {total : Nat} {l : Locator} {g : Segment}
    (hl : y.locator = some l) (hg : y.lastSegment = some g) : trailerMatches y t clean total = true ↔
      t.dataCount = y.dataCount ∧ t.stored = y.storedBytes ∧ t.indexCount = l.count ∧ t.fileCount = y.fileCount ∧
      t.raw = y.rawBytes ∧ t.ordinal = g.ordinal ∧ t.indexPos = l.pos ∧ (∀ q, y.digest = some q → t.digestMark = 1 ∧ t.digest = q) ∧
      (y.digest = none → t.digestMark = 0) ∧ (clean = true → total = y.storedBytes) := by
  have totals : (!clean || decide (total = y.storedBytes)) = true ↔ (clean = true → total = y.storedBytes) := by cases clean <;> simp
  simp only [trailerMatches, hl, hg, Option.getD_some, Option.map_some, Bool.and_eq_true, decide_eq_true_eq, totals]
  cases y.digest <;> simp [and_assoc]

/-- R47: an encode that ends, as the step's effect leaves it. -/
theorem encodeCompletion_leaves {s : State} {c : Chan} {b : Block} (hs : (s.dev.chan c).enc.state = .coding)
    (hb : (s.dev.chan c).enc.desc = some b) : let block := ((s.dev.chan c).half b.fromB).bytes
    let e := s.dev.begin.encodeDone c
    (e.chan c).wq = (s.dev.chan c).wq ++ [.item (b.record block)] ∧ (e.chan c).half b.fromB = {} ∧
      (e.chan c).half (!b.fromB) = (s.dev.chan c).half (!b.fromB) ∧ (e.chan c).enc.state = .idle ∧ (e.chan c).enc.desc = none ∧
      (e.chan c).enc.work = (s.dev.chan c).enc.work ∧
      (∀ x q, s.dev.backup? c = some (x, q) →
        (e.backup? c).map (fun p => p.2.digest) = some (q.recordCoded (b.record block)).digest) ∧
      e.smc = s.dev.smc ∧ e.cat = s.dev.cat ∧ e.mqu = s.dev.mqu := by
  have keeps := Dev.encodeDone_keeps (d := s.dev.begin) hs hb
  obtain ⟨wq, half, other, ⟨idle, desc, work⟩, digest, smc, cat, mqu⟩ :=
    s.dev.begin.encoded_spec c b ((s.dev.chan c).half b.fromB).bytes
  refine ⟨keeps.wq.trans wq, (keeps.half _).trans half, (keeps.half _).trans other, (congrArg Encoder.state keeps.enc).trans idle,
    (congrArg Encoder.desc keeps.enc).trans desc, (congrArg Encoder.work keeps.enc).trans work, fun x q hq => ?_,
    keeps.smc.trans smc, keeps.cat.trans cat, keeps.mqu.trans mqu⟩
  have before : s.dev.begin.backup? c = some (x, q) := hq
  exact keeps.digest.trans (digest.trans (by rw [before]; rfl))

/-- Settles O49: the encode is `encodeCompletion_leaves`; the decode is `Dev.decodeDone` for each kind of session; a record's effect on a
verify is `Dev.Verifies.verifyRecord_leaves`, after which the run goes on (`verifyAdvance_within`), turns to the next segment
(`verifyAdvance_toNext`) or ends (`verifyAdvance_toEnd`). -/
theorem codingEnginesComplete : Obligations.CodingEnginesComplete := by
  refine ⟨fun s c b hs hb => ?_, fun s c h r rest x hdec hrq hx => ?_, fun h k tape seq out => ?_,
    fun v o n cause hv => VerifyRec.hardError_eq hv o n cause, fun d c x v i y g r out hv hi hg hsoft => ?_,
    fun y t clean total l g hl hg => trailerMatches_iff hl hg, fun y cut => ?_⟩
  · exact ⟨by rw [exec_encodeCompletion]; rfl, encodeCompletion_leaves hs hb⟩
  · have dec : (s.dev.begin.chan c).dec = some h := hdec
    have rq : (s.dev.begin.chan c).rq = r :: rest := hrq
    have sess : (s.dev.begin.chan c).sess = some x := hx
    rw [exec_decodeCompletion, State.does, Dev.decodeDone]
    cases hk : x.kind <;> simp only [dec, rq, sess, hk]
  · simp only [checkRecord_eq]
    refine ⟨fun hc => if_pos hc, fun hc hr => ?_, fun hc hr ho => ?_, fun hc hr bs ho => ?_⟩
    · rw [if_neg (by simp [hc]), if_pos hr]
    · rw [if_neg (by simp [hc]), if_neg (not_not_intro hr), ho]; rfl
    · rw [if_neg (by simp [hc]), if_neg (not_not_intro hr), ho]; rfl
  · intro h p e checked area soft leaves w t index hleaves
    obtain ⟨failed, passed⟩ := hleaves
    obtain ⟨m, eq, stands, hat, hsegment⟩ := (Dev.Verifies.start hv hi).verifyRecord_leaves hg rfl hsoft failed passed
    have eq : e = m.verifyAdvance c := eq
    rw [eq, ← hat, ← hsegment]
    have hg : y.segment w.segment = some g := hsegment ▸ hg
    refine ⟨fun within => ?_, fun g' past more hg' ho => ?_, fun past last => ?_⟩
    · have goes := stands.verifyAdvance_within hg within
      exact ⟨goes.set, goes.index, _, goes.verify?, rfl⟩
    · obtain ⟨x', waits, handle, cart⟩ := stands.verifyAdvance_toNext hg past more hg' ho
      exact ⟨waits.set, waits.index, _, waits.verify?, handle, cart⟩
    · obtain ⟨gone, set⟩ := stands.verifyAdvance_toEnd hg past last
      exact ⟨gone.sess, gone.claim, set⟩
  · refine ⟨fun hard => if_pos hard, fun none cut => ?_, fun none whole located => ?_⟩
    · rw [verifyOutcome, if_neg (by omega), if_pos (by rcases cut with rfl | hl <;> simp [*])]
    · rw [verifyOutcome, if_neg (by omega), if_neg (by simp [whole, located])]
      simp only [Option.isNone_iff_eq_none]

end Sys2Proof.Machine
end

section
/-! The stage pages (R51 to R53), part 1: what a step may do to the free count and the holdings counts, and that the shared operations,
the catalogue, the drives and the move queue keep to it. -/

namespace Sys2Proof.Machine

/-- What every part of a step but the store reads, CONFIG, NOTICE_MASK and power-on does: the settings stay as they were, and the stage
pages stay balanced (R51, R52). -/
structure Dev.Steady (d e : Dev) : Prop where
  cfg : e.cfg = d.cfg
  pages : d.smc.balanced → e.smc.balanced

namespace Dev.Steady

variable {d e g : Dev} {c c' : Chan} {p : Port} {pl : Place} {i : CartIx} {k : SetIx} {r : ReqId} {o : Order} {st : Status}
  {n : Nat} {bs : List Byte} {t : Todo} {ts : List Todo} {x : Drive} {s : Session}

/-! ### The two counts (R51, R52) -/

theorem refl (d : Dev) : d.Steady d := ⟨rfl, id⟩

theorem trans (h : d.Steady e) (h' : e.Steady g) : d.Steady g := ⟨h'.cfg.trans h.cfg, fun hd => h'.pages (h.pages hd)⟩

theorem of_eq (h : d.Steady e) (cfg : g.cfg = e.cfg) (smc : g.smc = e.smc) : d.Steady g :=
  ⟨cfg.trans h.cfg, fun hd => by rw [smc]; exact h.pages hd⟩

theorem of_tables (h : d.Steady e) (same : e.TablesOnly g) : d.Steady g := h.of_eq same.cfg same.smc

/-- A walk along a list is steady when each of its steps is. -/
theorem foldl {α : Type} {step : Dev → α → Dev} (h : d.Steady e) (l : List α)
    (each : ∀ {g : Dev} (a : α), d.Steady g → d.Steady (step g a)) : d.Steady (l.foldl step e) :=
  foldl_keeps (P := d.Steady) (fun _ a hg => each a hg) l h

/-- A part of a step that is made only under a condition. -/
theorem ite {q : Prop} [Decidable q] (h : d.Steady e) (h' : d.Steady g) : d.Steady (if q then e else g) := by
  split <;> assumption

theorem ite_fst {α : Type} {q : Prop} [Decidable q] {y z : Dev × α} (h : d.Steady y.1) (h' : d.Steady z.1) :
    d.Steady (if q then y else z).1 := by split <;> assumption

theorem pair {α : Type} {a : α} (h : d.Steady e) : d.Steady (e, a).1 := h

/-- R52: a take that is granted. -/
theorem takePage (h : d.Steady e) (taken : e.takePage c = some g) : d.Steady g := by
  obtain ⟨may, rfl⟩ := (Dev.takePage_eq_some e g c).mp taken
  exact ⟨h.cfg, fun hd => e.smc.take_balanced c (h.pages hd) may⟩

/-- R51: pages are freed. -/
theorem freePages (h : d.Steady e) : d.Steady (e.freePages c n) := by
  unfold Dev.freePages
  split
  · exact h
  · exact ⟨h.cfg, fun hd => e.smc.release_balanced c n (h.pages hd)⟩

/-! ### Updates of the device's parts -/

theorem setChan {y : Channel} (h : d.Steady e) : d.Steady (e.setChan c y) := h.of_eq rfl rfl
theorem modChan {f : Channel → Channel} (h : d.Steady e) : d.Steady (e.modChan c f) := h.of_eq rfl rfl
theorem modDrive {f : Drive → Drive} (h : d.Steady e) : d.Steady (e.modDrive c f) := h.of_eq rfl rfl
theorem setSess {y : Option Session} (h : d.Steady e) : d.Steady (e.setSess c y) := h.of_eq rfl rfl
theorem modSess {f : Session → Session} (h : d.Steady e) : d.Steady (e.modSess c f) := h.of_eq rfl rfl
theorem modBackup {f : Backup → Backup} (h : d.Steady e) : d.Steady (e.modBackup c f) := h.of_eq rfl rfl
theorem modVerify {f : Verify → Verify} (h : d.Steady e) : d.Steady (e.modVerify c f) := h.of_eq rfl rfl
theorem modRestore {f : Restore → Restore} (h : d.Steady e) : d.Steady (e.modRestore c f) := h.of_eq rfl rfl
theorem modRebuild {f : Rebuild → Rebuild} (h : d.Steady e) : d.Steady (e.modRebuild c f) := h.of_eq rfl rfl
theorem setPort {u : PortUnit} (h : d.Steady e) : d.Steady (e.setPort p u) := h.of_eq (by simp) (by simp)
theorem modPort {f : PortUnit → PortUnit} (h : d.Steady e) : d.Steady (e.modPort p f) := h.of_eq (by simp) (by simp)
theorem modMqu {f : Mover → Mover} (h : d.Steady e) : d.Steady (e.modMqu f) := h.of_eq rfl rfl
theorem modCst {f : Store → Store} (h : d.Steady e) : d.Steady (e.modCst f) := h.of_eq rfl rfl
theorem modCat {f : Catalogue → Catalogue} (h : d.Steady e) : d.Steady (e.modCat f) := h.of_eq rfl rfl
theorem emit {m : LinkMsg} (h : d.Steady e) : d.Steady (e.emit m) := h.of_eq rfl rfl
theorem push (h : d.Steady e) : d.Steady (e.push t) := h.of_eq (by simp) (by simp)
theorem pushFront (h : d.Steady e) : d.Steady (e.pushFront ts) := h.of_eq rfl rfl
theorem pushAll (h : d.Steady e) : d.Steady (e.pushAll ts) := h.of_eq (by simp) (by simp)
theorem look (h : d.Steady e) : d.Steady e.look := h.pushAll
theorem setWaitList {l : List WaitEntry} (h : d.Steady e) : d.Steady { e with waitList := l } := h.of_eq rfl rfl
theorem setMqu {m : Mover} (h : d.Steady e) : d.Steady { e with mqu := m } := h.of_eq rfl rfl
theorem setTodo {l : List Todo} (h : d.Steady e) : d.Steady { e with todo := l } := h.of_eq rfl rfl
theorem setRaces (h : d.Steady e) : d.Steady { e with races := n } := h.of_eq rfl rfl
theorem setLine {l : Fin 4} {y : Line} (h : d.Steady e) : d.Steady (e.setLine l y) := h.of_eq rfl rfl
theorem begin (h : d.Steady e) : d.Steady e.begin := h.of_eq rfl rfl

theorem shuffled {α : Type} {l : List α} (h : d.Steady e) : d.Steady (e.shuffled l).2 := by
  unfold Dev.shuffled
  exact h.ite h.setRaces

theorem pushRace (h : d.Steady e) : d.Steady (e.pushRace ts) := h.shuffled.pushFront

/-! ### Ports (R171 to R177) -/

theorem answerWith (h : d.Steady e) : d.Steady (e.answerWith r st n bs) := h.of_eq (by simp) (by simp)
theorem answer (h : d.Steady e) : d.Steady (e.answer r st) := h.answerWith
theorem answerOpt {q : Option ReqId} (h : d.Steady e) : d.Steady (e.answerOpt q st) := h.of_eq (by simp) (by simp)
theorem dropAnswer (h : d.Steady e) : d.Steady (e.dropAnswer r) := h.modPort
theorem offer {m : Notice} {taken : Bool} (h : d.Steady e) (offered : e.offer p m = (g, taken)) : d.Steady g := by
  obtain rfl : (e.offer p m).1 = g := congrArg Prod.fst offered
  exact h.of_eq (by simp) (by simp)
theorem notice {m : Notice} (h : d.Steady e) : d.Steady (e.notice p m) := h.offer rfl
theorem noticeAll {m : Notice} (h : d.Steady e) : d.Steady (e.noticeAll m) := h.notice.notice.notice
theorem noticeOwner {m : Notice} (h : d.Steady e) : d.Steady (e.noticeOwner p m) := h.notice.ite h.notice.notice

theorem transmit (h : d.Steady e) : d.Steady (e.transmit p) := by
  unfold Dev.transmit
  dsimp only
  refine h.ite (ite ?_ ?_)
  · split
    · exact h.setPort.push
    · exact h
  · split
    · exact h.setPort
    · exact h

/-! ### The catalogue (chapter 1) -/

theorem dirty {b : Nat} (h : d.Steady e) : d.Steady (e.dirty b) := h.modCst.push
theorem placeChanged (h : d.Steady e) : d.Steady e.placeChanged := h.look.push
theorem setPlace {y : PlaceRec} (h : d.Steady e) : d.Steady (e.setPlace pl y) := h.modCat
theorem setConfirmed {v : Bool} (h : d.Steady e) : d.Steady (e.setConfirmed pl v) := h.setPlace.placeChanged
theorem setOcc {y : Occupant} (h : d.Steady e) : d.Steady (e.setOcc pl y) := by
  unfold Dev.setOcc
  split
  · exact h.setPlace.modMqu.placeChanged
  · exact h.setPlace.placeChanged

theorem reselect (h : d.Steady e) : d.Steady e.reselect := h.push
theorem putCart {y : Option Cart} (h : d.Steady e) : d.Steady (e.putCart i y) := h.of_tables (.putCart ..)
theorem modCart {f : Cart → Cart} (h : d.Steady e) : d.Steady (e.modCart i f) := h.of_tables (.modCart ..)
theorem setClaim {q : Option Nat} (h : d.Steady e) : d.Steady (e.setClaim i q) := h.of_tables (.setClaim ..)
theorem setCartState {y : CartState} (h : d.Steady e) : d.Steady (e.setCartState i y) := h.of_tables (.setCartState ..)
theorem flagSuspect (h : d.Steady e) : d.Steady (e.flagSuspect i) := h.modCart.reselect
theorem flagProtected (h : d.Steady e) : d.Steady (e.flagProtected i) := h.modCart.reselect

theorem moveCart {q : Option Place} (h : d.Steady e) : d.Steady (e.moveCart i q) := by
  have left : d.Steady (match (e.cart i).bind (·.location) with
      | some p => if e.occ p = Occupant.cart i then e.setOcc p .none else e
      | none => e) := by
    split
    · exact h.setOcc.ite h
    · exact h
  unfold Dev.moveCart
  cases q with
  | some p => exact left.setOcc.modCart.reselect.push
  | none => exact left.modCart.reselect.push

theorem takeHome {q : Fin 24} (h : d.Steady e) : d.Steady (e.takeHome i q) :=
  ((h.foldl allCarts fun _ hg => hg.modCart.ite hg).modCart).reselect

theorem settleHome (h : d.Steady e) : d.Steady (e.settleHome i pl) := by
  unfold Dev.settleHome
  split
  · exact h.takeHome.ite h
  · exact h

theorem register {l : Option Label} (h : d.Steady e) (done : e.register pl l = some g) : d.Steady g := by
  unfold Dev.register at done
  split at done
  · cases done
  · next j _ =>
    obtain rfl := Option.some.inj done
    exact (h.putCart (y := some { label := l, location := some pl })).setOcc.settleHome.setMqu.reselect

theorem writeReport {q m : Nat} (h : d.Steady e) : d.Steady (e.writeReport i q m) := by
  unfold Dev.writeReport
  dsimp only
  split
  · exact h.modCart.setCartState.ite h.modCart
  · exact h.modCart

theorem putSet {y : SetEntry} (h : d.Steady e) : d.Steady (e.putSet k y) := h.of_tables (.putSet ..)
theorem modSet {f : BackupSet → BackupSet} (h : d.Steady e) : d.Steady (e.modSet k f) := h.of_tables (.modSet ..)
theorem setInUse {q : Option Nat} (h : d.Steady e) : d.Steady (e.setInUse k q) := h.of_tables (.setInUse ..)
theorem freeSet {q : Option SetIx} (h : d.Steady e) : d.Steady (e.freeSet q) := h.of_tables (.freeSet ..)
theorem expireSet (h : d.Steady e) : d.Steady (e.expireSet k) := h.of_tables (.expireSet ..)
theorem joinCart {b : Bool} (h : d.Steady e) : d.Steady (e.joinCart i b) := h.of_tables (.joinCart ..)

theorem recycleCart (h : d.Steady e) : d.Steady (e.recycleCart i) := by
  unfold Dev.recycleCart
  exact h.ite (h.foldl _ fun _ hg => hg.expireSet).modCart.reselect

theorem allocNumber (h : d.Steady e) : d.Steady e.allocNumber.2 := h.modCat.dirty

theorem allocBackup {a m l : Nat} (h : d.Steady e) (done : e.allocBackup a p m l i = some (k, g)) : d.Steady g := by
  unfold Dev.allocBackup at done
  split at done
  · cases done
  · obtain ⟨rfl, rfl⟩ := Prod.mk.inj (Option.some.inj done)
    exact h.allocNumber.putSet.joinCart

theorem applyPools (h : d.Steady e) : d.Steady e.applyPools := by
  unfold Dev.applyPools
  split
  · exact h
  · refine (foldl h.modCat.dirty allCarts fun j hg => ?_).noticeAll.reselect
    split
    · split
      · exact hg.ite hg.modCart
      · exact hg
    · exact hg

/-! ### Drive contexts (chapter 4) -/

theorem sendCmd {q : DriveCmd} {w : Option Nat} (h : d.Steady e) : d.Steady (e.sendCmd c q w) := h.modDrive.emit
theorem wantStatus {w : Wants} (h : d.Steady e) : d.Steady (e.wantStatus c w) := h.ite h.modDrive.push
theorem startIdle (h : d.Steady e) : d.Steady (e.startIdle c) := h.modDrive.ite h
theorem startSettle (h : d.Steady e) : d.Steady (e.startSettle c) := h.modMqu.push.ite h.modMqu

theorem beginUnload {q : Option Requester} (h : d.Steady e) : d.Steady (e.beginUnload c q) := by
  refine h.ite ?_
  split
  · exact h.modDrive.look
  · exact h.modDrive.look
  · exact h

/-! ### Orders (R91 to R93) -/

theorem orderLeft (h : d.Steady e) : d.Steady e.orderLeft := h.pushFront.pushAll
theorem joinScan {b : Bool} (h : d.Steady e) : d.Steady (e.joinScan b pl) := h.setConfirmed.ite h.setConfirmed.modMqu.push

theorem checkPlace (h : d.Steady e) : d.Steady (e.checkPlace pl) := by
  unfold Dev.checkPlace
  split
  · exact h.wantStatus
  · exact h.joinScan

theorem dropOrder (h : d.Steady e) : d.Steady (e.dropOrder o) := h.modMqu.orderLeft

theorem admitOrder (h : d.Steady e) : d.Steady (e.admitOrder o).1 := h.ite_fst h.modMqu.push

theorem offerOrder_fst (h : d.Steady e) : d.Steady (e.offerOrder o).1 := by
  refine ite_fst h ?_
  split
  · exact ite_fst h.dropOrder.joinScan.pair (ite_fst h.modMqu.push.pair h.admitOrder)
  · exact h.admitOrder

/-- R92: an offer to the move queue, however it ends. -/
theorem offerOrder {a : Admit} (h : d.Steady e) (offered : e.offerOrder o = (g, a)) : d.Steady g := by
  obtain rfl : (e.offerOrder o).1 = g := congrArg Prod.fst offered
  exact h.offerOrder_fst

/-- R87, R101: the requests of port P among an order's requesters are answered. -/
theorem answerPanel (h : d.Steady e) (l : List Requester) :
    d.Steady (l.foldl (fun d r => match r with | .panel q => d.answer q st | _ => d) e) := by
  refine h.foldl l fun r hg => ?_
  split
  · exact hg.answer
  · exact hg

theorem offerUnload {l : List Requester} (h : d.Steady e) : d.Steady (e.offerUnload c l) := by
  unfold Dev.offerUnload
  dsimp only
  split
  · exact h.modDrive.answerPanel l
  · split
    · next hg => exact (h.modDrive.offerOrder hg).modDrive
    · next hg => exact (h.modDrive.offerOrder hg).wantStatus
    · next hg => exact h.modDrive.offerOrder hg

theorem tell (h : d.Steady e) : d.Steady (e.tell o st) := by
  refine look (h.foldl o.reqs fun r hg => ?_)
  split
  · exact hg.ite hg.answer
  · exact hg

theorem unloadFailed (h : d.Steady e) : d.Steady (e.unloadFailed o st) := by
  unfold Dev.unloadFailed
  split
  · exact (h.modMqu.answerPanel o.reqs).ite h.modMqu.wantStatus
  · exact h

theorem failOrder (h : d.Steady e) : d.Steady (e.failOrder o st) := h.dropOrder.tell.unloadFailed.ite h.dropOrder.tell

theorem orderFollows (h : d.Steady e) : d.Steady (e.orderFollows o) := by
  refine h.ite (h.dropOrder.ite ?_)
  split
  · split
    · exact h.failOrder
    · exact h.failOrder.ite h
    · exact h.ite (h.dropOrder.tell.ite h.modMqu.push)
  · exact h.failOrder.ite h
  · exact h

theorem ordersFollow (h : d.Steady e) : d.Steady e.ordersFollow := h.foldl _ fun _ hg => hg.orderFollows
theorem forgetRequester (h : d.Steady e) : d.Steady (e.forgetRequester n) := h.modMqu.modDrive.modDrive.push.push

/-! ### The send rule (R95 to R97) -/

theorem sendOrder (h : d.Steady e) : d.Steady (e.sendOrder o) := by
  unfold Dev.sendOrder
  dsimp only
  split
  · exact h.modMqu.emit
  · exact h.modMqu.emit
  · exact h.modMqu

theorem sendTest (h : d.Steady e) : d.Steady e.sendTest := by
  have marked : d.Steady (((e.ordersFollow.mqu.queue.filter e.ordersFollow.relocateFails).foldl
      (fun d o => d.failOrder o .badState) e.ordersFollow)) := h.ordersFollow.foldl _ fun _ hg => hg.failOrder
  unfold Dev.sendTest
  dsimp only
  refine marked.modMqu.ite ?_
  split
  · exact marked.modMqu.sendOrder
  · exact marked.modMqu

theorem sendChangerStatus (h : d.Steady e) : d.Steady e.sendChangerStatus := h.modMqu.emit.ite h

/-! ### Scans, the inventory and imports (R106 to R110) -/

theorem feedScan (h : d.Steady e) : d.Steady e.feedScan := by
  unfold Dev.feedScan
  split
  · exact h
  · exact h.ite h.modMqu.push

theorem startInventory (h : d.Steady e) : d.Steady e.startInventory :=
  (((h.modMqu.foldl allPlaces fun _ hg => hg.setConfirmed.ite hg).foldl allSlots fun _ hg => hg.joinScan).wantStatus).wantStatus.push

theorem endInventory (h : d.Steady e) : d.Steady e.endInventory := h.noticeAll.modMqu.ite h

theorem displaceAt (h : d.Steady e) : d.Steady (e.displaceAt pl) := by
  unfold Dev.displaceAt
  split
  · exact h.moveCart.modMqu.ite h.moveCart
  · exact h

theorem registerAt {l : Option Label} (h : d.Steady e) : d.Steady (e.registerAt pl l) := by
  unfold Dev.registerAt
  split
  · next hg => exact h.register hg
  · exact h.setOcc.notice

theorem scanLabel {l : Label} (h : d.Steady e) : d.Steady (e.scanLabel pl l) := by
  unfold Dev.scanLabel
  split
  · exact h.displaceAt.registerAt
  · split
    · exact h.displaceAt.setOcc
    · exact h.ite (h.displaceAt.setOcc.ite h.displaceAt.moveCart.modMqu.joinScan)
    · exact h.displaceAt.moveCart.modMqu

theorem scanNoLabel (h : d.Steady e) : d.Steady (e.scanNoLabel pl) := by
  unfold Dev.scanNoLabel
  split
  · exact h.ite h.displaceAt.registerAt
  · exact h.registerAt

theorem checkExportMark {q : ScanKind} (h : d.Steady e) : d.Steady (e.checkExportMark pl q) := by
  unfold Dev.checkExportMark
  split
  · split
    · exact h
    · exact h.ite h.modMqu.push
  · exact h

theorem reconcile {q : ScanKind} (h : d.Steady e) : d.Steady (e.reconcile pl q) := by
  unfold Dev.reconcile
  refine checkExportMark ?_
  split
  · exact h.displaceAt.setOcc
  · exact h.scanLabel.ite h.scanNoLabel
  · exact h.scanNoLabel
  · exact h

theorem startImport (h : d.Steady e) : d.Steady e.startImport := by
  unfold Dev.startImport
  exact h.joinScan.modMqu.joinScan.modMqu

theorem setImportWait {m : Fin 2} {q : Option CartIx} (h : d.Steady e) : d.Steady (e.setImportWait m q) := h.modMqu

theorem offerImport {m : Fin 2} (h : d.Steady e) : d.Steady (e.offerImport m i) := by
  refine ite ?_ h
  split
  · next hg => exact (h.offerOrder hg).ite (h.offerOrder hg).setImportWait
  · next hg => exact (h.offerOrder hg).setImportWait

theorem importScanned (h : d.Steady e) : d.Steady (e.importScanned pl) := by
  unfold Dev.importScanned
  split
  · refine ite ?_ h
    dsimp only
    split
    · exact h.modMqu.ordersFollow.push.ite h.modMqu.ordersFollow
    · exact h.modMqu.ordersFollow
  · exact h

theorem reofferImport {m : Fin 2} (h : d.Steady e) : d.Steady (e.reofferImport m) := by
  unfold Dev.reofferImport
  split
  · refine ite ?_ h.setImportWait
    split
    · next hg => exact h.offerOrder hg
    · next hg => exact (h.offerOrder hg).setImportWait
  · exact h

/-! ### Completions of the changer link (R98 to R102) and STOP (R104) -/

theorem changerFault (h : d.Steady e) : d.Steady e.changerFault := h.modMqu.noticeAll

theorem doubt {q : Option Place} (h : d.Steady e) : d.Steady (e.doubt q) := by
  cases q with
  | some p => exact h.setConfirmed
  | none => exact h

theorem orderFault (h : d.Steady e) : d.Steady (e.orderFault o) := h.doubt.doubt.failOrder.changerFault
theorem requeue (h : d.Steady e) : d.Steady (e.requeue o n) := h.modMqu.push

theorem loaded (h : d.Steady e) : d.Steady (e.loaded i c) := by
  refine ite ?_ h.modCart.setConfirmed
  split
  · exact h.modCart.modDrive.setClaim.look.ite h.modCart.modDrive.look
  · exact h.modCart.modDrive.look

theorem retireTest (h : d.Steady e) : d.Steady (e.retireTest i) := by
  unfold Dev.retireTest
  split
  · exact h.modCart.reselect.ite h
  · exact h

theorem markExport {q : Option CartIx} (h : d.Steady e) : d.Steady (e.markExport pl q) := by
  unfold Dev.markExport
  split
  · exact h.modMqu.push
  · exact h

theorem unloaded {y : Occupant} (h : d.Steady e) : d.Steady (e.unloaded o y pl) := by
  unfold Dev.unloaded
  dsimp only
  split
  · exact h.modMqu.orderLeft.look
  · exact h.dropOrder.markExport.answer.look
  · exact h.dropOrder.answer.look
  · exact h.dropOrder.answer.look
  · exact h.dropOrder.look

theorem moveDone (h : d.Steady e) : d.Steady (e.moveDone o pl) := by
  have landed : d.Steady (match e.moved o with
      | .cart i => e.moveCart i (some pl)
      | _ => (e.setOcc o.src .none).setOcc pl .unregistered) := by
    split
    · exact h.moveCart
    · exact h.setOcc.setOcc
  have confirmed := (landed.setConfirmed (pl := o.src) (v := true)).setConfirmed (pl := pl) (v := true)
  have there := landed.ite (q := o.halted = true) confirmed
  unfold Dev.moveDone
  dsimp only
  split
  · exact there.dropOrder.loaded.tell
  · exact there.setOcc.retireTest.settleHome.unloaded
  · exact there.setOcc.unloaded.checkPlace
  · exact there.settleHome.markExport.dropOrder.tell
  · exact there.markExport.dropOrder.tell
  · exact there.settleHome.markExport.dropOrder.tell
  · exact there.dropOrder.tell

theorem applyMove {q : MoveKind} (h : d.Steady e) : d.Steady (e.applyMove o q) := by
  unfold Dev.applyMove
  split
  · exact h.moveDone
  · exact h.orderFault
  · exact h.setConfirmed.checkPlace.failOrder
  · have doubted : d.Steady (match (generalizing := false) o.dst with
        | some p => ((if e.occ p = .none then e.setOcc p .unregistered else e).setConfirmed p false).checkPlace p
        | none => e) := by
      split
      · exact (h.setOcc.ite h).setConfirmed.checkPlace
      · exact h
    exact doubted.requeue.ite doubted.failOrder
  · exact h.orderFault
  · exact h.requeue

theorem applyScan {q : ScanKind} (h : d.Steady e) : d.Steady (e.applyScan o q) :=
  h.requeue.ite (h.reconcile.ite h.reconcile.setConfirmed).dropOrder.tell.importScanned

theorem changerAnswered {b : Bool} (h : d.Steady e) : d.Steady (e.changerAnswered b) := by
  unfold Dev.changerAnswered
  split
  · exact ite (h.modMqu.modMqu.foldl _ fun _ hg => hg.joinScan).answer.push h.modMqu.answer
  · exact h.modMqu.push.ite (h.ite h.changerFault)

theorem takeChanger {m : ChangerMsg} (h : d.Steady e) (taken : e.takeChanger n = some (g, m)) : d.Steady g := by
  unfold Dev.takeChanger at taken
  split at taken
  · split at taken
    · obtain ⟨rfl, -⟩ := Prod.mk.inj (Option.some.inj taken)
      exact h.modMqu
    · cases taken
  · cases taken

theorem dropStaleMove (h : d.Steady e) : d.Steady e.dropStaleMove := h.modMqu.push

theorem stopEvent (h : d.Steady e) : d.Steady e.stopEvent := by
  have held := ((h.emit (m := .halt)).ite (q := e.mqu.changer = .ready) h).modMqu (f := fun m => { m with holdStop := true })
  unfold Dev.stopEvent
  dsimp only
  split
  · exact held.ite (held.foldl _ fun _ hg => hg.setConfirmed).modMqu
  · exact held

theorem stopResumed (h : d.Steady e) : d.Steady e.stopResumed :=
  (h.modMqu.foldl _ fun _ hg => hg.checkPlace).pushFront.push

theorem pushOffers {l : List Chan} (h : d.Steady e) : d.Steady (e.pushOffers l) := h.pushRace

end Dev.Steady
end Sys2Proof.Machine
end

section
/-! The stage pages (R51 to R53), part 2: the sessions. A backup, a verify, a restore and a rebuild take and free pages within the two
counts, and so do their ends. -/

namespace Sys2Proof.Machine.Dev.Steady

variable {d e g : Dev} {c c' : Chan} {i : CartIx} {k : SetIx} {st : Status} {n m : Nat} {bs : List Byte} {s : Session} {why : Reason}
  {stat : Option Status}

/-! ### What every session shares (R11, R62 to R67, R78, R79) -/

theorem unclaim (h : d.Steady e) : d.Steady (e.unclaim i n) := h.setClaim.ite h
theorem cartReleased (h : d.Steady e) : d.Steady e.cartReleased := h.reselect.look
theorem stopYielding (h : d.Steady e) : d.Steady (e.stopYielding c) := h.modSess

theorem setSessCart (h : d.Steady e) : d.Steady (e.setSessCart c i) := by
  unfold Dev.setSessCart
  split
  · exact h
  · refine h.ite (look ?_)
    split
    · exact h.unclaim.modSess.cartReleased.setClaim.ite h.unclaim.modSess.cartReleased
    · exact h.modSess.setClaim.ite h.modSess

/-- R67: the memory of a channel is given back. -/
theorem freeChannelMemory (h : d.Steady e) : d.Steady (e.freeChannelMemory c) := h.modChan.freePages
theorem setRun {q : Run} (h : d.Steady e) : d.Steady (e.setRun c q) := h.modChan.push.push
theorem freeHalf (h : d.Steady e) : d.Steady (e.freeHalf c c') := h.modChan.push

theorem endRun (h : d.Steady e) : d.Steady (e.endRun c) := by
  refine freePages (modChan ?_)
  split
  · exact h.freeHalf
  · exact h

theorem popRead (h : d.Steady e) : d.Steady (e.popRead c) := h.modChan.modSess.freePages.push.pushAll
theorem fullSpeed (h : d.Steady e) : d.Steady (e.fullSpeed c) := h.modDrive

theorem refuseOpen (h : d.Steady e) : d.Steady (e.refuseOpen c st) := by
  unfold Dev.refuseOpen
  split
  · refine modSess ?_
    split
    · exact h.answerWith
    · exact h
  · exact h

theorem acceptOpen (h : d.Steady e) : d.Steady (e.acceptOpen c bs) := by
  unfold Dev.acceptOpen
  split
  · refine modSess ?_
    split
    · exact h.answerWith
    · exact h
  · exact h

theorem mediaNeeded {q : Need} (h : d.Steady e) : d.Steady (e.mediaNeeded c q) := by
  unfold Dev.mediaNeeded
  split
  · exact h.ite h.noticeOwner.modSess
  · exact h

theorem mediaBack (h : d.Steady e) : d.Steady (e.mediaBack c) := by
  unfold Dev.mediaBack
  split
  · exact h.modSess.ite h
  · exact h

theorem endSession (h : d.Steady e) : d.Steady (e.endSession c) := by
  have forgotten {g : Dev} (n : Nat) (hg : d.Steady g) :
      d.Steady ((((g.stopYielding c).forgetRequester n).startIdle c).pushAll [.grantRule, .poolsApply]).look :=
    hg.stopYielding.forgetRequester.startIdle.pushAll.look
  unfold Dev.endSession
  split
  · exact h
  · refine forgotten _ ?_
    split
    · exact h.freeChannelMemory.unclaim.setSess.modDrive.cartReleased
    · exact h.freeChannelMemory.setSess.modDrive

theorem sessionEnded {q : EndCounts} (h : d.Steady e) : d.Steady (e.sessionEnded s why stat q) := h.noticeOwner

theorem startMediaWait_fst {b : Bool} (h : d.Steady e) : d.Steady (e.startMediaWait c b).1 := ite_fst h (ite_fst h h.modSess)

theorem startMediaWait {b late : Bool} (h : d.Steady e) (begun : e.startMediaWait c b = (g, late)) : d.Steady g := by
  obtain rfl : (e.startMediaWait c b).1 = g := congrArg Prod.fst begun
  exact h.startMediaWait_fst

/-! ### The verify session (chapter 7) -/

theorem countHard {q : Cause} (h : d.Steady e) : d.Steady (e.countHard k n m q) := h.modSet
theorem countSoft (h : d.Steady e) : d.Steady (e.countSoft k) := h.modSet

theorem verifyStart (h : d.Steady e) : d.Steady (e.verifyStart c) := by
  unfold Dev.verifyStart
  split
  · refine h.ite (modVerify ?_)
    split
    · exact h.modSet
    · exact h
  · exact h

theorem writeResult {q : VerifyResult} {b : Bool} (h : d.Steady e) : d.Steady (e.writeResult k q b) := by
  unfold Dev.writeResult
  dsimp only
  split
  · exact h.modSet.noticeOwner.ite h.modSet
  · exact h.modSet

theorem verifyEnd (h : d.Steady e) : d.Steady (e.verifyEnd c) := by
  unfold Dev.verifyEnd
  split
  · split
    · exact h.writeResult.freeSet.endRun.endSession.sessionEnded
    · exact h.endSession.sessionEnded
  · exact h

theorem verifyAbort (h : d.Steady e) : d.Steady (e.verifyAbort c why) := by
  unfold Dev.verifyAbort
  split
  · have refused {q : Prop} [Decidable q] : d.Steady (if q then e else e.refuseOpen c (abortStatus false why)) := h.ite h.refuseOpen
    refine (endSession ?_).sessionEnded.answerOpt
    dsimp only
    split
    · exact (refused.writeResult.ite refused).freeSet
    · exact refused
  · exact h

theorem verifyWait (h : d.Steady e) : d.Steady (e.verifyWait c) := by
  unfold Dev.verifyWait
  split
  · split
    · dsimp only
      split
      · next hg => exact (h.modVerify.setSessCart.startMediaWait hg).verifyAbort
      · next hg => exact (h.modVerify.setSessCart.startMediaWait hg).push
    · exact h.verifyAbort
  · exact h

theorem finalCheck {y : BackupSet} {a b : Bool} {q : Cause} (h : d.Steady e) : d.Steady (e.finalCheck k y a b q) := h.countHard.ite h

theorem finalChecks (h : d.Steady e) : d.Steady (e.finalChecks c) := by
  unfold Dev.finalChecks
  split
  · split
    · refine (finalCheck ?_).finalCheck
      split
      · exact h.finalCheck
      · exact h
    · exact h
  · exact h

theorem segmentDone (h : d.Steady e) : d.Steady (e.segmentDone c) := by
  unfold Dev.segmentDone
  split
  · split
    · exact h.modVerify.verifyWait.ite h.finalChecks.verifyEnd
    · exact h
  · exact h

theorem verifyOpened (h : d.Steady e) : d.Steady (e.verifyOpened c) := by
  unfold Dev.verifyOpened
  split
  · exact h.acceptOpen.verifyStart
  · exact h

theorem verifyArrived (h : d.Steady e) : d.Steady (e.verifyArrived c) := by
  unfold Dev.verifyArrived
  split
  · split
    · exact h.verifyOpened.modVerify.modSess.fullSpeed.setRun
    · exact h
  · exact h

theorem verifyMounted (h : d.Steady e) : d.Steady (e.verifyMounted c) := by
  unfold Dev.verifyMounted
  split
  · split
    · exact h.modSess.segmentDone.ite h.modSess.modVerify.push
    · exact h
  · exact h

theorem verifyCut (h : d.Steady e) : d.Steady (e.verifyCut c) := h.endRun.modVerify.verifyEnd

theorem verifyMissed {b : Bool} (h : d.Steady e) : d.Steady (e.verifyMissed c b) := by
  refine h.verifyOpened.verifyCut.ite ?_
  split
  · split
    · exact h.verifyOpened.countHard.modVerify.segmentDone
    · exact h.verifyOpened
  · exact h.verifyOpened

theorem verifyAdvance (h : d.Steady e) : d.Steady (e.verifyAdvance c) := by
  unfold Dev.verifyAdvance
  dsimp only
  split
  · split
    · exact h.modVerify.segmentDone.ite h.modVerify
    · exact h.modVerify
  · exact h.modVerify

theorem verifyRecord {r : ReadEntry} {out : Option (List Byte)} (h : d.Steady e) : d.Steady (e.verifyRecord c r out) := by
  unfold Dev.verifyRecord
  split
  · split
    · next k _ _ _ =>
      have counted {q : Prop} [Decidable q] : d.Steady (if q then e.countSoft k else e) := h.countSoft.ite h
      refine verifyAdvance ?_
      dsimp only
      split
      · exact counted.countHard.modVerify
      · split
        · exact counted.modVerify
        · exact counted.modChan.modVerify
        · exact counted.modVerify
      · exact counted
    · exact h
  · exact h

theorem verifyNoRecord {q : DriveKind} (h : d.Steady e) : d.Steady (e.verifyNoRecord c q) := by
  refine ite ?_ h.verifyCut
  split
  · split
    · exact h.countHard.modVerify.verifyAdvance
    · exact h
  · exact h

theorem verifyGranted (h : d.Steady e) : d.Steady (e.verifyGranted c) := by
  unfold Dev.verifyGranted
  split
  · split
    · refine ite (verifyEnd (verifyOpened ?_)) h.verifyWait
      split
      · exact h.setSessCart
      · exact h
    · exact h
  · exact h

theorem verifyAfter (h : d.Steady e) : d.Steady (e.verifyAfter c) := h.freeChannelMemory.modSess.verifyStart.verifyWait

/-! ### A backup's credits, encoder and write queue (R45 to R61) -/

theorem grantInAnswer (h : d.Steady e) : d.Steady (e.grantInAnswer c).1 := by
  unfold Dev.grantInAnswer
  split
  · exact h.modBackup
  · exact h

theorem grantByNotice (h : d.Steady e) : d.Steady (e.grantByNotice c) := by
  unfold Dev.grantByNotice
  split
  · refine h.ite ?_
    split
    · next hg => exact (h.offer hg).modBackup
    · next hg => exact (h.offer hg).modBackup
  · exact h

theorem restateCredits (h : d.Steady e) : d.Steady (e.restateCredits c) := by
  unfold Dev.restateCredits
  split
  · dsimp only
    split
    · next hg => exact (h.offer hg).modBackup
    · next hg => exact (h.offer hg).modBackup
  · exact h

theorem creditRetry {p : Port} (h : d.Steady e) : d.Steady (e.creditRetry p) := h.shuffled.foldl _ fun _ hg => hg.grantByNotice

theorem handBlock {q : RecKind} {b : Bool} (h : d.Steady e) : d.Steady (e.handBlock c q b bs n m) := h.modChan.push

theorem encoderTake (h : d.Steady e) : d.Steady (e.encoderTake c) := by
  unfold Dev.encoderTake
  dsimp only
  split
  · split
    · next hg => exact (h.takePage hg).modChan
    · exact h.modChan
  · exact h

theorem encoderAsk (h : d.Steady e) : d.Steady (e.encoderAsk c) := by
  refine ite ?_ h
  split
  · next hg => exact (h.takePage hg).modChan
  · exact h

theorem fillHalves (h : d.Steady e) : d.Steady (e.fillHalves c n bs) := by
  unfold Dev.fillHalves
  split
  · exact h
  · exact h.modChan.ite (h.handBlock.modChan.modBackup.ite h.handBlock.modChan.modBackup.modChan)

theorem writerTest (h : d.Steady e) : d.Steady (e.writerTest c) := h.modBackup.push
theorem enqueue {w : WItem} (h : d.Steady e) : d.Steady (e.enqueue c w) := h.modChan.writerTest

theorem encodeDone (h : d.Steady e) : d.Steady (e.encodeDone c) := by
  unfold Dev.encodeDone
  dsimp only
  split
  · exact (h.modBackup.enqueue.modChan.grantByNotice.ite h.modBackup.enqueue.modChan).push.push
  · exact h

theorem build (h : d.Steady e) : d.Steady (e.build c) := by
  unfold Dev.build
  split
  · refine ite ?_ h
    split
    · split
      · next hg => exact (h.takePage hg).modBackup.enqueue
      · exact h.modChan
    · exact h.handBlock.modBackup
  · exact h

theorem trailerAsk (h : d.Steady e) : d.Steady (e.trailerAsk c) := by
  unfold Dev.trailerAsk
  split
  · split
    · next hg => exact (h.takePage hg).modChan.modBackup.enqueue
    · exact h
  · exact h

/-! ### A backup's ends, aborts and spans (R126, R131 to R138) -/

theorem countWrite {q : Record} (h : d.Steady e) : d.Steady (e.countWrite c q n) := by
  unfold Dev.countWrite
  split
  · split
    · have taken {g : Dev} (k : SetIx) (f : BackupSet → BackupSet) (f' : Backup → Backup) (hg : d.Steady g) :
          d.Steady (if q.kind = .data then g.modSet k f else if q.kind = .index ∧ q.seq = 0 then g.modBackup c f' else g) :=
        hg.modSet.ite (hg.modBackup.ite hg)
      refine taken _ _ _ ?_
      split
      · exact h.modBackup.modSess.writeReport
      · exact h.modBackup.modSess
    · exact h
  · exact h

theorem finishAbort (h : d.Steady e) : d.Steady (e.finishAbort c why stat) := by
  unfold Dev.finishAbort
  split
  · refine (refuseOpen ?_).endSession.sessionEnded.answerOpt
    split
    · exact (h.modSet.ite h).setInUse
    · exact h
  · exact h

theorem decideTrailer (h : d.Steady e) : d.Steady (e.decideTrailer c why stat) := by
  unfold Dev.decideTrailer
  split
  · refine ite ?_ h.finishAbort
    split
    · next hg => exact (h.takePage hg).modChan.push
    · exact h.modChan
  · exact h

theorem backupAbort (h : d.Steady e) : d.Steady (e.backupAbort c why stat) := by
  unfold Dev.backupAbort
  split
  · have decided {g : Dev} (n : Nat) (hg : d.Steady g) : d.Steady (if !why.allowsTrailer then g.finishAbort c why stat
        else if (g.writeInFlight c n).isSome then g else g.decideTrailer c why stat) :=
      hg.finishAbort.ite (hg.ite hg.decideTrailer)
    exact h.ite (ite (decided _ h.answerOpt.modSess.freeChannelMemory.modBackup) h.answerOpt.modSess.finishAbort)
  · exact h

theorem closeDone (h : d.Steady e) : d.Steady (e.closeDone c n) := by
  unfold Dev.closeDone
  split
  · split
    · exact h.modSet.answerOpt.modBackup.verifyAfter.ite h.modSet.answerOpt.modBackup.setInUse.endSession.sessionEnded
    · exact h
  · exact h

theorem takeContinuation (h : d.Steady e) : d.Steady (e.takeContinuation c i) := by
  unfold Dev.takeContinuation
  split
  · split
    · exact (h.ite h.recycleCart).modSet.joinCart.setSessCart.modBackup.modSess.push
    · exact h
  · exact h

theorem chooseContinuation (h : d.Steady e) : d.Steady (e.chooseContinuation c) := by
  unfold Dev.chooseContinuation
  split
  · split
    · split
      · exact h.takeContinuation
      · exact h.mediaNeeded.ite (h.mediaNeeded.backupAbort.ite h.mediaNeeded.modSess)
    · exact h
  · exact h

theorem closeSegment (h : d.Steady e) : d.Steady (e.closeSegment c) := by
  have begun {g : Dev} (n : Nat) (hg : d.Steady g) : d.Steady (match g.backup? c with
      | some (_, b) => if b.state = .spanning then g.beginUnload c (some (.session n)) else g
      | none => g) := by
    split
    · exact hg.beginUnload.ite hg
    · exact hg
  unfold Dev.closeSegment
  split
  · refine begun _ (chooseContinuation (modBackup ?_))
    split
    · exact h.setCartState
    · exact h
  · exact h

theorem beginSpan (h : d.Steady e) : d.Steady (e.beginSpan c) := by
  unfold Dev.beginSpan
  split
  · split
    · refine h.ite (h.backupAbort.ite ?_)
      dsimp only
      split
      · next hg => exact (h.modBackup.takePage hg).modChan.push
      · exact h.modBackup.modSet.closeSegment
    · exact h
  · exact h

theorem spanEnd (h : d.Steady e) : d.Steady (e.spanEnd c) := by
  have goesOn {g : Dev} (b : Backup) (hg : d.Steady g) : d.Steady (if b.returnClosing then
      ((g.modBackup c fun b => { b with state := .closing, span := .none, writer := .stream }).push (.build c)).push (.command c)
      else (g.modBackup c fun b =>
        { b with state := .active, span := .none, writer := .refill, window := some 0 }).writerTest c) :=
    hg.modBackup.push.push.ite hg.modBackup.writerTest
  unfold Dev.spanEnd
  split
  · refine goesOn _ (modSess ?_)
    split
    · split
      · exact h.notice
      · exact h
    · exact h
  · exact h

theorem underrun (h : d.Steady e) : d.Steady (e.underrun c) := by
  unfold Dev.underrun
  split
  · refine ite ?_ h
    dsimp only
    split
    · exact h.modBackup.modCart
    · exact h.modBackup
  · exact h

theorem popWrite (h : d.Steady e) : d.Steady (e.popWrite c) := h.modChan.freePages

theorem wrote {q : Record} {b : Bool} (h : d.Steady e) : d.Steady (e.wrote c q n b) := by
  have counted : d.Steady ((e.popWrite c).countWrite c q n) := h.popWrite.countWrite
  unfold Dev.wrote
  split
  · split
    · exact h.countWrite.popWrite.finishAbort.ite h.countWrite.decideTrailer
    · dsimp only
      split
      · exact counted.closeDone
      · exact counted.closeSegment
      · exact (counted.beginSpan.ite counted.underrun).push
      · exact (counted.ite counted.underrun).push
  · exact h

theorem writeFailed {q : Record} {b : Bool} (h : d.Steady e) : d.Steady (e.writeFailed c q b) := by
  unfold Dev.writeFailed
  split
  · next s _ _ =>
    have flagged : d.Steady (match ((e.setOf s).bind (·.2.lastSegment)).map (·.cart) with
        | some i => if b = true then e.flagProtected i else if q.kind = RecKind.data then e.flagSuspect i else e
        | none => e) := by
      split
      · exact h.flagProtected.ite (h.flagSuspect.ite h)
      · exact h
    dsimp only
    split
    · exact flagged.finishAbort
    · split
      · refine (popWrite ?_).closeSegment
        split
        · exact flagged.modSet
        · exact flagged
      · exact flagged.backupAbort
  · exact h

/-! ### A backup becomes ACTIVE (R116 to R120) -/

theorem becomeActive (h : d.Steady e) : d.Steady (e.becomeActive c) := by
  unfold Dev.becomeActive
  split
  · split
    · exact h.modChan.modBackup.modSess.grantInAnswer.acceptOpen.push
    · exact h
  · exact h

theorem reopen (h : d.Steady e) : d.Steady (e.reopen c) := by
  unfold Dev.reopen
  split
  · split
    · exact h.modSet.modBackup.becomeActive
    · exact h
  · exact h

theorem appendMissing (h : d.Steady e) : d.Steady (e.appendMissing c) := by
  unfold Dev.appendMissing
  split
  · exact h.endRun.refuseOpen.freeSet.endSession
  · exact h

theorem reloadRecord {r : ReadEntry} {out : Option (List Byte)} (h : d.Steady e) : d.Steady (e.reloadRecord c r out) := by
  unfold Dev.reloadRecord
  split
  · split
    · dsimp only
      split
      · refine ite (h.modBackup.modChan.ite h.modBackup.modChan.appendMissing) ?_
        exact h.modBackup.modBackup.push.ite h.modBackup.appendMissing
      · exact h.appendMissing
    · exact h
  · exact h

theorem backupArrived (h : d.Steady e) : d.Steady (e.backupArrived c) := by
  unfold Dev.backupArrived
  split
  · split
    · exact h.becomeActive
    · exact h.modBackup.setRun
    · exact h.reopen
    · exact h
  · exact h

theorem backupMissed (h : d.Steady e) : d.Steady (e.backupMissed c) := by
  unfold Dev.backupMissed
  split
  · refine h.appendMissing.ite (backupAbort ?_)
    split
    · exact h.flagSuspect
    · exact h
  · exact h

theorem backupMounted (h : d.Steady e) : d.Steady (e.backupMounted c) := by
  unfold Dev.backupMounted
  split
  · refine h.spanEnd.ite ?_
    split
    · exact h.modBackup.modSess.push
    · exact h
  · exact h

theorem takeTarget (h : d.Steady e) : d.Steady (e.takeTarget c i) := by
  unfold Dev.takeTarget
  split
  · have recycled {q : Prop} [Decidable q] : d.Steady (if q then e else e.recycleCart i) := h.ite h.recycleCart
    dsimp only
    split
    · exact recycled.refuseOpen.endSession
    · next hg => exact (recycled.allocBackup hg).modSess.modBackup.setSessCart.push
  · exact h

theorem chooseTarget (h : d.Steady e) : d.Steady (e.chooseTarget c) := by
  unfold Dev.chooseTarget
  split
  · split
    · exact h.takeTarget
    · exact h.modBackup.mediaNeeded
  · exact h

theorem selectAgain (h : d.Steady e) : d.Steady e.selectAgain := h.pushRace

theorem selectOn (h : d.Steady e) : d.Steady (e.selectOn c) := by
  unfold Dev.selectOn
  split
  · exact (h.chooseTarget.ite h.chooseContinuation).ite h
  · exact h

end Sys2Proof.Machine.Dev.Steady
end

section
/-! The stage pages (R51 to R53), part 3: the restore and the rebuild sessions, the arbiter and the port units' events. -/

namespace Sys2Proof.Machine.Dev.Steady

variable {d e g : Dev} {c c' : Chan} {p : Port} {i : CartIx} {k : SetIx} {st : Status} {n m : Nat} {bs : List Byte} {s : Session}
  {why : Reason} {b : Bool} {r : ReqId}

/-! ### The restore session (R155 to R163) -/

theorem restoreEnd (h : d.Steady e) : d.Steady (e.restoreEnd c) := by
  unfold Dev.restoreEnd
  split
  · exact h.endRun.freeSet.endSession.sessionEnded
  · exact h

theorem restoreAbort (h : d.Steady e) : d.Steady (e.restoreAbort c why) := by
  unfold Dev.restoreAbort
  split
  · exact (h.ite h.refuseOpen).freeSet.endSession.sessionEnded.answerOpt
  · exact h

theorem restoreHard {q : Cause} (h : d.Steady e) : d.Steady (e.restoreHard c n m q) := by
  unfold Dev.restoreHard
  split
  · exact h.modSet
  · exact h

theorem restoreHardData {q : Cause} (h : d.Steady e) : d.Steady (e.restoreHardData c n q) := h.restoreHard

theorem countFailed {q : Cause} (h : d.Steady e) : d.Steady (e.countFailed c n q) := by
  unfold Dev.countFailed
  split
  · exact h.ite h.restoreHardData.modRestore
  · exact h

theorem restoreHardIndex {q : Cause} (h : d.Steady e) : d.Steady (e.restoreHardIndex c n q) := by
  unfold Dev.restoreHardIndex
  split
  · exact h.restoreHard
  · exact h

theorem releaseBut {keep : InRec → Bool} (h : d.Steady e) : d.Steady (e.releaseBut c keep) := by
  unfold Dev.releaseBut
  split
  · exact (h.foldl _ fun _ hg => hg.freeHalf).modRestore
  · exact h

theorem restoreEndRun {keep : InRec → Bool} (h : d.Steady e) : d.Steady (e.restoreEndRun c keep) := h.releaseBut.endRun.modRestore
theorem restoreStopRun (h : d.Steady e) : d.Steady (e.restoreStopRun c) := h.restoreEndRun

theorem restoreWait (h : d.Steady e) : d.Steady (e.restoreWait c i) := by
  unfold Dev.restoreWait
  split
  · dsimp only
    split
    · next hg => exact (h.modRestore.setSessCart.startMediaWait hg).restoreAbort
    · next hg => exact (h.modRestore.setSessCart.startMediaWait hg).push
  · exact h

theorem fileFinish {q : FileOutcome} (h : d.Steady e) : d.Steady (e.fileFinish c q b) := h.modRestore.push

theorem fileStart (h : d.Steady e) : d.Steady (e.fileStart c) := by
  unfold Dev.fileStart
  split
  · split
    · exact h
    · refine h.modRestore.fileFinish.ite ?_
      split
      · exact h.modRestore.fileFinish
      · exact h.modRestore.modRestore.fileFinish.ite (h.modRestore.modRestore.fileFinish.ite h.modRestore.modRestore.push)
  · exact h

theorem restoreSeek (h : d.Steady e) : d.Steady (e.restoreSeek c n) := by
  unfold Dev.restoreSeek
  split
  · split
    · exact h
    · split
      · refine ite ?_ (h.ite (h.modRestore.ite ?_))
        · split
          · exact h.setRun.ite h
          · exact h
        · exact h.restoreEndRun.modRestore.modRestore.modSess.push.ite h.restoreEndRun.modRestore.restoreWait
      · exact h.fileFinish
  · exact h

theorem restoreMounted (h : d.Steady e) : d.Steady (e.restoreMounted c) := by
  unfold Dev.restoreMounted
  split
  · split
    · exact h.modRestore.modSess.push
    · exact h
  · exact h

theorem indexRead (h : d.Steady e) : d.Steady (e.indexRead c b) := (h.endRun.ite h).modRestore.fileStart

theorem indexWholeTest (h : d.Steady e) : d.Steady (e.indexWholeTest c) := by
  unfold Dev.indexWholeTest
  split
  · split
    · exact h.indexRead.ite h.restoreHardIndex.indexRead
    · exact h
  · exact h

theorem restoreOpened (h : d.Steady e) : d.Steady (e.restoreOpened c) := by
  unfold Dev.restoreOpened
  split
  · exact h.acceptOpen.modRestore.fullSpeed
  · exact h

theorem restoreArrived (h : d.Steady e) : d.Steady (e.restoreArrived c) := by
  unfold Dev.restoreArrived
  split
  · dsimp only
    split
    · exact h.modSess
    · refine ite ?_ (h.modSess.restoreOpened.indexWholeTest.ite h.modSess.restoreOpened.setRun)
      split
      · exact h.modSess.modRestore.setRun.push
      · exact h.modSess.modRestore.push
  · exact h

theorem restoreMissed (h : d.Steady e) : d.Steady (e.restoreMissed c b) := by
  unfold Dev.restoreMissed
  split
  · exact ite (h.modSess.modRestore.ite h.modSess.modRestore.countFailed).fileFinish
      (h.modSess.restoreOpened.ite h.modSess.restoreOpened.restoreHardIndex).indexRead
  · exact h

theorem passOver (h : d.Steady e) : d.Steady (e.passOver c) := h.modRestore

theorem holdFailed {q : Cause} (h : d.Steady e) : d.Steady (e.holdFailed c q) := by
  unfold Dev.holdFailed
  split
  · exact h.countFailed.modRestore.push
  · exact h

theorem restoreRecord {r : ReadEntry} {out : Option (List Byte)} (h : d.Steady e) : d.Steady (e.restoreRecord c c' r out) := by
  unfold Dev.restoreRecord
  split
  · split
    · exact h
    · refine ite ?_ (ite h.freeHalf.passOver ?_)
      · dsimp only
        split
        · exact h.freeHalf.modChan.modRestore.indexWholeTest.ite h.freeHalf.modChan.modRestore
        · exact h.freeHalf.restoreHardIndex.indexRead
        · exact h.freeHalf
      · split
        · exact h.modRestore.push
        · exact h.freeHalf.holdFailed
        · exact h
  · exact h

theorem restoreNoRecord {q : DriveKind} (h : d.Steady e) : d.Steady (e.restoreNoRecord c q) := by
  unfold Dev.restoreNoRecord
  split
  · exact (h.restoreHardIndex.ite h).indexRead.ite (h.passOver.ite (h.holdFailed.ite h.modRestore.push))
  · exact h

theorem hand {q : Delivery} (h : d.Steady e) : d.Steady (e.hand c q) := by
  unfold Dev.hand
  split
  · exact h.modRestore.modPort.push
  · exact h

theorem releaseBelow {q : Option Nat} (h : d.Steady e) : d.Steady (e.releaseBelow c n q) := h.releaseBut
theorem fileStops (h : d.Steady e) : d.Steady (e.fileStops c n b) := (h.countFailed.ite h).fileFinish

/-- R159: after a DATA frame has been handed the file ends or goes on. -/
theorem handed {q l : Prop} [Decidable q] [Decidable l] {w : Cause} {u : FileOutcome} {t : Todo} (h : d.Steady e) :
    d.Steady (if q then (if l then e else e.restoreHardData c n w).fileFinish c u b else e.push t) :=
  (h.ite h.restoreHardData).fileFinish.ite h.push

theorem deliverBytes {q : Restore} {y : IndexEntry} (h : d.Steady e) : d.Steady (e.deliverBytes c q y b) := by
  unfold Dev.deliverBytes
  split
  · exact h.restoreSeek
  · exact h.fileStops
  · exact h.fileStops
  · dsimp only
    refine ite (ite (h.ite (handed ?_)) (h.ite (handed ?_))) ?_
    · exact h.hand.modRestore.releaseBelow
    · exact h.hand.modRestore.releaseBelow
    · split
      · exact h.restoreSeek
      · exact h.fileStops
      · exact h.fileStops
      · exact h.ite (handed h.hand.modRestore.releaseBelow)

theorem deliver (h : d.Steady e) : d.Steady (e.deliver c) := by
  unfold Dev.deliver
  split
  · refine h.ite ?_
    split
    · exact h
    · dsimp only
      split
      · exact h.hand.modRestore.push.ite h
      · refine ite (fileStart ?_) h
        split
        · exact h.hand.modRestore.releaseBelow
        · exact h.hand.modRestore.restoreStopRun
      · exact h.hand.modRestore.push.ite h.deliverBytes
      · exact h.deliverBytes
      · exact h
  · exact h

theorem restoreLost (h : d.Steady e) : d.Steady (e.restoreLost c) := h.modRestore

theorem restoreReturned (h : d.Steady e) : d.Steady (e.restoreReturned c) := by
  unfold Dev.restoreReturned
  split
  · refine h.ite ?_
    split
    · exact h
    · exact h.restoreStopRun.modRestore.fileStart
  · exact h

theorem doneLeft (h : d.Steady e) : d.Steady (e.doneLeft p n m) := by
  unfold Dev.doneLeft
  split
  · dsimp only
    split
    · exact h.modRestore.restoreEnd.ite h.modRestore
    · exact h.modRestore
  · exact h

theorem restoreGranted (h : d.Steady e) : d.Steady (e.restoreGranted c) := by
  unfold Dev.restoreGranted
  split
  · split
    · exact h.restoreWait
    · exact h
  · exact h

/-! ### The rebuild session (R165 to R169) -/

theorem joinGroup {q : Group} (h : d.Steady e) : d.Steady (e.joinGroup c i k q) := by
  unfold Dev.joinGroup
  split
  · exact (h.setRaces.ite h).putSet.modRebuild.joinCart
  · exact h

theorem placeGroup_fst {q : Group} (h : d.Steady e) : d.Steady (e.placeGroup c q).1 := by
  have allocated {l : Prop} [Decidable l] (n : Nat) : d.Steady (if l then e.allocNumber else (n, e)).2 := by
    split
    · exact h.allocNumber
    · exact h
  unfold Dev.placeGroup
  split
  · exact h
  split
  · exact h
  split
  · exact ite_fst h.modRebuild.pair h.joinGroup.pair
  refine ite_fst h.modRebuild.pair ?_
  split
  · exact h.setInUse.joinGroup.modRebuild
  split
  · exact h
  · exact (allocated _).putSet.joinGroup.modRebuild

theorem closeGroup_fst {q : GroupEnd} {t : Option CloseTrailer} (h : d.Steady e) : d.Steady (e.closeGroup c q t).1 := by
  unfold Dev.closeGroup
  split
  · split
    · exact h.modRebuild.placeGroup_fst
    · exact h
  · exact h

theorem closeGroup {q : GroupEnd} {t : Option CloseTrailer} (h : d.Steady e) (closed : e.closeGroup c q t = (g, b)) : d.Steady g := by
  obtain rfl : (e.closeGroup c q t).1 = g := congrArg Prod.fst closed
  exact h.closeGroup_fst

theorem freeHandle (h : d.Steady e) : d.Steady (e.freeHandle n) := h.foldl _ fun _ hg => hg.setInUse.ite hg

theorem rebuildOver (h : d.Steady e) : d.Steady (e.rebuildOver c why) := by
  unfold Dev.rebuildOver
  split
  · exact h.endRun.freeHandle.endSession.sessionEnded.answerOpt
  · exact h

theorem rebuildIncomplete (h : d.Steady e) : d.Steady (e.rebuildIncomplete c why) := by
  have closed : d.Steady (e.closeGroup c .none none).1 := h.closeGroup_fst
  unfold Dev.rebuildIncomplete
  dsimp only
  split
  · refine rebuildOver ?_
    split
    · exact (closed.modCart.reselect.ite closed).flagSuspect
    · exact closed
  · exact closed

theorem rebuildComplete (h : d.Steady e) : d.Steady (e.rebuildComplete c n) := by
  unfold Dev.rebuildComplete
  split
  · next hg => exact (h.closeGroup hg).rebuildIncomplete
  · next hg =>
    have closed := h.closeGroup hg
    split
    · refine (reselect ?_).rebuildOver
      split
      · exact (closed.foldl _ fun _ hg => hg.expireSet).modCart.ite closed.modCart
      · exact closed
    · exact closed

theorem rebuildAbort (h : d.Steady e) : d.Steady (e.rebuildAbort c why) := by
  unfold Dev.rebuildAbort
  split
  · exact h.rebuildIncomplete.ite h.refuseOpen.rebuildOver
  · exact h

theorem rebuildMounted (h : d.Steady e) : d.Steady (e.rebuildMounted c) := h.modRebuild.modSess.push

theorem rebuildArrived (h : d.Steady e) : d.Steady (e.rebuildArrived c) := by
  unfold Dev.rebuildArrived
  split
  · exact h.acceptOpen.modRebuild.modSess.fullSpeed.setRun
  · exact h

theorem rebuildHard (h : d.Steady e) : d.Steady (e.rebuildHard c b) := by
  unfold Dev.rebuildHard
  dsimp only
  split
  · exact h.modRebuild.rebuildIncomplete.ite h.modRebuild
  · exact h.modRebuild

theorem takeIntoGroup_fst {y : Header} {q : RecKind} {t : Option (List Byte)} (h : d.Steady e) :
    d.Steady (e.takeIntoGroup c y q n b t).1 := by
  have closed {l : Prop} [Decidable l] : d.Steady (if l then (e, true) else e.closeGroup c .none none).1 :=
    ite_fst h h.closeGroup_fst
  unfold Dev.takeIntoGroup
  split
  · exact h
  · refine ite_fst closed.pair (ite_fst closed.modRebuild.pair ?_)
    split
    · exact closed.modRebuild.closeGroup_fst
    · split
      · exact closed.modRebuild.modRebuild.closeGroup_fst
      · exact closed.modRebuild

theorem takeIntoGroup {y : Header} {q : RecKind} {t : Option (List Byte)} {ok : Bool} (h : d.Steady e)
    (taken : e.takeIntoGroup c y q n b t = (g, ok)) : d.Steady g := by
  obtain rfl : (e.takeIntoGroup c y q n b t).1 = g := congrArg Prod.fst taken
  exact h.takeIntoGroup_fst

theorem rebuildRecord {r : ReadEntry} {out : Option (List Byte)} (h : d.Steady e) : d.Steady (e.rebuildRecord c r out) := by
  unfold Dev.rebuildRecord
  split
  · exact h
  · dsimp only
    split
    · split
      · next hg => exact (h.modRebuild.takeIntoGroup hg).rebuildIncomplete
      · next hg => exact (h.modRebuild.takeIntoGroup hg).modRebuild.ite (h.modRebuild.takeIntoGroup hg).rebuildHard
    · exact h.modRebuild.rebuildHard

theorem rebuildNoRecord {r : ReadEntry} {q : DriveKind} (h : d.Steady e) : d.Steady (e.rebuildNoRecord c r q) :=
  h.modRebuild.rebuildHard.ite h.rebuildComplete

/-! ### Aborts, the drive FAULT and the arbiter (R76, R78 to R84) -/

theorem abortSession (h : d.Steady e) : d.Steady (e.abortSession c why) := by
  unfold Dev.abortSession
  split
  · split
    · exact h.backupAbort
    · exact h.verifyAbort
    · exact h.restoreAbort
    · exact h.rebuildAbort
  · exact h

theorem giveUpUnload (h : d.Steady e) : d.Steady (e.giveUpUnload c) := by
  unfold Dev.giveUpUnload
  dsimp only
  split
  · exact h.modDrive.answer
  · exact h.modDrive

theorem driveFault (h : d.Steady e) : d.Steady (e.driveFault c) :=
  h.modDrive.ite h.giveUpUnload.modDrive.abortSession.modDrive.setConfirmed.noticeAll

theorem unlist {w : WaitEntry} (h : d.Steady e) : d.Steady (e.unlist w) := h.setWaitList.freeSet

theorem leaveList {w : WaitEntry} {q : Option Status} (h : d.Steady e) : d.Steady (e.leaveList w q) := by
  cases q with
  | some st => exact h.unlist.answerWith
  | none => exact h.unlist.dropAnswer

theorem offerOpen {q : OpenKind} {y : Option CartIx} (h : d.Steady e) : d.Steady (e.offerOpen r q y) := by
  have given : d.Steady e.giveHandle.2 := h.of_eq rfl rfl
  have listed {g : Dev} (k : Nat) (hg : d.Steady g) : d.Steady (if g.cfg.openWait = 0 then
      (g.push .grantRule).push (.zeroWait k) else g.push .grantRule) := hg.push.push.ite hg.push
  unfold Dev.offerOpen
  refine h.answer.ite (h.answer.ite ?_)
  dsimp only
  split
  · exact ite given.setWaitList.setInUse.push.push given.setWaitList.setInUse.push
  · exact ite given.setWaitList.push.push given.setWaitList.push

theorem zeroWait (h : d.Steady e) : d.Steady (e.zeroWait n) := by
  unfold Dev.zeroWait
  split
  · exact h.unlist.answer
  · exact h

theorem refuseGrant (h : d.Steady e) : d.Steady (e.refuseGrant c st) := by
  unfold Dev.refuseGrant
  split
  · exact h.refuseOpen.freeSet.endSession
  · exact h

theorem grantBackup {l : Option Label} (h : d.Steady e) : d.Steady (e.grantBackup c l) := by
  unfold Dev.grantBackup
  split
  · split
    · exact h.chooseTarget
    · split
      · exact h.takeTarget.ite h.refuseGrant
      · exact h.refuseGrant
  · exact h

theorem grantAppend (h : d.Steady e) : d.Steady (e.grantAppend c k) := by
  unfold Dev.grantAppend
  split
  · refine ite ?_ h.refuseGrant
    split
    · exact h.setSessCart.push
    · exact h.refuseGrant
  · exact h.refuseGrant

theorem grantRebuild (h : d.Steady e) : d.Steady (e.grantRebuild c i n) :=
  h.refuseGrant.ite (h.foldl _ fun _ hg => hg.setInUse).setSessCart.push

theorem grantTo {w : WaitEntry} (h : d.Steady e) : d.Steady (e.grantTo w c) := by
  unfold Dev.grantTo
  dsimp only
  split
  · exact h.setWaitList.setSess.modDrive.grantBackup
  · exact h.setWaitList.setSess.modDrive.grantAppend
  · exact h.setWaitList.setSess.modDrive.verifyGranted
  · exact h.setWaitList.setSess.modDrive.restoreGranted
  · exact h.setWaitList.setSess.modDrive.grantRebuild

theorem grantRule (h : d.Steady e) : d.Steady e.grantRule := by
  unfold Dev.grantRule
  split
  · exact h.grantTo.pushFront
  · exact h

/-! ### The port units' events (R170 to R181) -/

theorem badFrame (h : d.Steady e) : d.Steady (e.badFrame p) := h.modPort.push.ite h
theorem unknownKind {t u : Byte} (h : d.Steady e) : d.Steady (e.unknownKind p t u) := h.modPort.push.ite h

theorem leftPort {f : OutFrame} (h : d.Steady e) : d.Steady (e.leftPort p f) := by
  unfold Dev.leftPort
  split
  · exact h.modPort
  · exact h.doneLeft
  · exact h

theorem frameGone (h : d.Steady e) : d.Steady (e.frameGone p) := by
  unfold Dev.frameGone
  split
  · exact h.modPort.leftPort.push
  · exact h

theorem linkLost (h : d.Steady e) : d.Steady (e.linkLost p) :=
  ite (h.modPort.modPort.foldl _ fun _ hg => hg.restoreLost) h.modPort

theorem sessionReturned (h : d.Steady e) : d.Steady (e.sessionReturned c) := h.restateCredits.restoreReturned

theorem linkReturned (h : d.Steady e) : d.Steady (e.linkReturned p) := by
  unfold Dev.linkReturned
  dsimp only
  split
  · exact h.modPort
  · exact h.modPort.modPort
  · exact h.modPort.modPort.shuffled.foldl _ fun _ hg => hg.sessionReturned

theorem loseSession (h : d.Steady e) : d.Steady (e.loseSession c) := by
  unfold Dev.loseSession
  split
  · exact h.modBackup.ite h.abortSession
  · exact h

theorem holdExpired (h : d.Steady e) : d.Steady (e.holdExpired p) :=
  h.ite ((h.modPort.foldl _ fun _ hg => hg.leaveList).shuffled.foldl _ fun _ hg => hg.loseSession)

theorem cancel (h : d.Steady e) : d.Steady (e.cancel r n) := by
  unfold Dev.cancel
  split
  · exact h.leaveList.answer
  · exact h.answer

end Sys2Proof.Machine.Dev.Steady
end

section
/-! The stage pages (R51 to R53), part 4: a channel at work, the drive and changer links' events, the lines, the store, start-up and
RESET, and what follows inside a step. -/

namespace Sys2Proof.Machine.Dev.Steady

variable {d e g : Dev} {c c' : Chan} {p : Port} {i : CartIx} {k : SetIx} {st : Status} {n m : Nat} {bs : List Byte} {s : Session}
  {why : Reason} {b : Bool} {r : ReqId} {o : Outstanding} {x : Drive} {w : Wants}

/-! ### A channel at work (R48, R52, R59, R62, R66, R69, R82, R88) -/

theorem noteAbsent (h : d.Steady e) : d.Steady (e.noteAbsent c) := by
  unfold Dev.noteAbsent
  split
  · exact h.mediaNeeded.ite h
  · exact h

theorem offerLoad (h : d.Steady e) : d.Steady (e.offerLoad c) := by
  unfold Dev.offerLoad
  split
  · split
    · exact h.offerOrder_fst
    · exact h
  · exact h

theorem mountedNow (h : d.Steady e) : d.Steady (e.mountedNow c) := by
  unfold Dev.mountedNow
  split
  · split
    · exact h.backupMounted
    · exact h.verifyMounted
    · exact h.restoreMounted
    · exact h.rebuildMounted
  · exact h

theorem bring (h : d.Steady e) : d.Steady (e.bring c) := by
  have noted : d.Steady ((e.mediaBack c).noteAbsent c) := h.mediaBack.noteAbsent
  unfold Dev.bring
  dsimp only
  split
  · exact noted
  · refine ite (noted.mountedNow.ite noted) ?_
    split
    · exact noted
    · exact noted.beginUnload.ite noted
    · exact noted.beginUnload.ite (noted.offerLoad.ite noted)

theorem arrived (h : d.Steady e) : d.Steady (e.arrived c) := by
  unfold Dev.arrived
  split
  · split
    · exact h.backupArrived
    · exact h.verifyArrived
    · exact h.restoreArrived
    · exact h.rebuildArrived
  · exact h

theorem missed (h : d.Steady e) : d.Steady (e.missed c b) := by
  unfold Dev.missed
  split
  · split
    · exact h.backupMissed
    · exact h.verifyMissed
    · exact h.restoreMissed
    · exact h.push
  · exact h

theorem readerStep (h : d.Steady e) : d.Steady (e.readerStep c s) := by
  unfold Dev.readerStep
  dsimp only
  split
  · exact h
  · refine ite (h.modDrive.sendCmd.ite ?_) h
    split
    · next hg => exact (h.takePage hg).modChan.sendCmd
    · exact h.modChan

theorem writerStep {q : Backup} (h : d.Steady e) : d.Steady (e.writerStep c s q) := by
  unfold Dev.writerStep
  dsimp only
  split
  · exact h.ite (h.modDrive.sendCmd.ite (h.beginSpan.ite h.sendCmd))
  · exact h

theorem sessionCommand (h : d.Steady e) : d.Steady (e.sessionCommand c s) := by
  unfold Dev.sessionCommand
  refine ite ?_ (ite ?_ (h.ite ?_))
  · split
    · exact h.sendCmd
    · exact h.sendCmd
    · exact h
  · split
    · exact h.sendCmd
    · exact h
  · split
    · exact h.readerStep.ite h.writerStep
    · exact h.readerStep

theorem nextCommand {q : Option Session} (h : d.Steady e) : d.Steady (e.nextCommand c x b q) := by
  unfold Dev.nextCommand
  refine h.ite (h.modDrive.sendCmd.ite ?_)
  split
  · exact h.sendCmd
  · exact h.sendCmd
  · split
    · exact h.sessionCommand.ite h
    · exact h

theorem command (h : d.Steady e) : d.Steady (e.command c) := by
  unfold Dev.command
  refine h.ite ?_
  dsimp only
  split
  · exact h.arrived.ite h.nextCommand
  · exact h.nextCommand

theorem decoderTake (h : d.Steady e) : d.Steady (e.decoderTake c) := by
  unfold Dev.decoderTake
  dsimp only
  split
  · exact h.modChan.ite h
  · exact h

theorem readHead (h : d.Steady e) : d.Steady (e.readHead c) := by
  unfold Dev.readHead
  split
  · split
    · exact h
    · refine h.ite ?_
      dsimp only
      split
      · exact h.popRead.appendMissing
      · exact h.popRead.verifyNoRecord
      · exact h.popRead.restoreNoRecord
      · exact h.popRead.rebuildNoRecord
  · exact h

theorem decodeDone (h : d.Steady e) : d.Steady (e.decodeDone c) := by
  unfold Dev.decodeDone
  dsimp only
  split
  · split
    · exact h.modChan.popRead.push.freeHalf.reloadRecord
    · exact h.modChan.popRead.push.freeHalf.verifyRecord
    · exact h.modChan.popRead.push.restoreRecord
    · exact h.modChan.popRead.push.freeHalf.rebuildRecord
  · exact h

theorem askPage (h : d.Steady e) : d.Steady (e.askPage c) := h.encoderAsk.trailerAsk.command.ite h.encoderAsk.trailerAsk
theorem pagesFreed (h : d.Steady e) : d.Steady e.pagesFreed := h.pushRace
theorem offersAgain (h : d.Steady e) : d.Steady e.offersAgain := h.pushOffers

theorem windowExpired (h : d.Steady e) : d.Steady (e.windowExpired c) := by
  unfold Dev.windowExpired
  split
  · split
    · dsimp only
      split
      · exact h.modBackup.ite h.modBackup.modDrive
      · exact h.modBackup
    · exact h
  · exact h

/-! ### The drive links' events (R69 to R87) -/

/-- R69: a completion, whatever its command then does. -/
theorem completion {act : Outstanding → Dev → Dev} (h : d.Steady e)
    (each : ∀ {g : Dev} (o : Outstanding), d.Steady g → d.Steady (act o g)) : d.Steady (e.completion c n act) := by
  unfold Dev.completion
  refine h.modDrive.push.ite ?_
  split
  · exact (each _ h.modDrive).push.ite h
  · exact h

theorem setPos {q : Option Nat} (h : d.Steady e) : d.Steady (e.setPos c q) := h.modDrive

theorem noMedia (h : d.Steady e) : d.Steady (e.noMedia c) := by
  unfold Dev.noMedia
  dsimp only
  split
  · exact h.setPos.driveFault
  · exact h.setPos.driveFault
  · exact h.setPos.driveFault
  · exact h.setPos

theorem dropRetry {q : Option UnloadRetry} (h : d.Steady e) : d.Steady (e.dropRetry q) := by
  cases q with
  | some q => exact h.answerPanel q.reqs
  | none => exact h

theorem reconcileDrive (h : d.Steady e) : d.Steady (e.reconcileDrive c b) := by
  refine setConfirmed (ite (h.setOcc.ite h) ?_)
  split
  · exact h.moveCart.setOcc
  · exact h.setOcc

theorem handOver {q : Option UnloadRetry} (h : d.Steady e) : d.Steady (e.handOver c q) := h.dropRetry.ite h.startSettle.offerUnload

theorem recordCapacity (h : d.Steady e) : d.Steady (e.recordCapacity c n) := h.of_tables (e.recordCapacity_frame c n)

theorem threaded (h : d.Steady e) : d.Steady (e.threaded c n m) := by
  unfold Dev.threaded
  dsimp only
  split
  · exact h.modDrive.recordCapacity.modDrive.look
  · exact h.modDrive.recordCapacity.look.ite h.modDrive.recordCapacity.startIdle.push.look

theorem leaveFault {a : StatusAnswer} {q : Option UnloadRetry} (h : d.Steady e) : d.Steady (e.leaveFault c r a q) := by
  refine look (push (answer ?_))
  split
  · exact h.dropRetry.modDrive.startIdle
  · exact h.modDrive.handOver
  · exact h.dropRetry.modDrive

theorem startUpUnload (h : d.Steady e) : d.Steady (e.startUpUnload c) := h.modDrive.push

theorem mouth {a : StatusAnswer} (h : d.Steady e) : d.Steady (e.mouth c w a) := by
  unfold Dev.mouth
  dsimp only
  split
  · exact h.reconcileDrive.startUpUnload.ite h.reconcileDrive.modDrive.push.look
  · exact h.reconcileDrive.handOver.ite h.reconcileDrive.dropRetry
  · split
    · exact h.reconcileDrive.dropRetry.driveFault
    · exact h.reconcileDrive.dropRetry.threaded
    · exact h.reconcileDrive.dropRetry
  · exact h.reconcileDrive.dropRetry.ite h.reconcileDrive.dropRetry.driveFault
  · exact h.reconcileDrive.dropRetry.ite h.reconcileDrive.dropRetry.driveFault
  · split
    · exact h.reconcileDrive.leaveFault
    · exact h.reconcileDrive.handOver.ite h.reconcileDrive.dropRetry
  · exact h.reconcileDrive

theorem statusFailed (h : d.Steady e) : d.Steady (e.statusFailed c w) := h.setPos.dropRetry.driveFault.answerOpt

theorem statusDone {a : StatusAnswer} (h : d.Steady e) : d.Steady (e.statusDone c w a) := by
  unfold Dev.statusDone
  split
  · exact h.statusFailed.ite h.dropRetry.noMedia.answerOpt
  · exact h.statusFailed
  · exact h.mouth

theorem notReady (h : d.Steady e) : d.Steady (e.notReady c o) := by
  unfold Dev.notReady
  split
  · exact h.statusFailed
  · exact h.setPos.driveFault

theorem positioned {q : DriveKind} (h : d.Steady e) : d.Steady (e.positioned c o n q) := by
  unfold Dev.positioned
  split
  · exact (h.arrived.ite h.missed).ite h
  · exact h

theorem locateDone {q : DriveKind} (h : d.Steady e) : d.Steady (e.locateDone c o n q) := by
  unfold Dev.locateDone
  split
  · exact h.setPos.positioned
  · exact h.setPos.positioned
  · exact h.setPos.positioned
  · exact h.noMedia
  · exact h.notReady

theorem unloadRewound (h : d.Steady e) : d.Steady (e.unloadRewound c) := h.modDrive

theorem rewindDone {q : DriveKind} (h : d.Steady e) : d.Steady (e.rewindDone c o b q) := by
  unfold Dev.rewindDone
  dsimp only
  split
  · exact h.setPos.unloadRewound.ite h.setPos.positioned
  · exact h.setPos.unloadRewound.ite h.setPos.positioned
  · exact h.setPos.unloadRewound.ite h.setPos.positioned
  · exact h.setPos.unloadRewound.ite h.setPos.positioned
  · exact h.noMedia
  · exact h.notReady

theorem writeDone {y : Record} {q : DriveKind} (h : d.Steady e) : d.Steady (e.writeDone c o y n q) := by
  unfold Dev.writeDone
  dsimp only
  split
  · exact h.setPos.wrote.ite h.setPos
  · exact h.setPos.wrote.ite h.setPos
  · exact h.writeFailed.ite h
  · exact h.setPos.writeFailed.ite h.setPos
  · exact h.setPos.writeFailed.ite h.setPos
  · exact h.noMedia
  · exact h.notReady

theorem fillRead {q : DriveKind} (h : d.Steady e) : d.Steady (e.fillRead c q bs) := h.modChan.freePages.ite h.modChan.pushAll

theorem readDone {q : DriveKind} (h : d.Steady e) : d.Steady (e.readDone c o q bs) := by
  unfold Dev.readDone
  dsimp only
  split
  · exact h.setPos.fillRead.ite h.setPos
  · exact h.setPos.fillRead.ite h.setPos
  · exact h.setPos.fillRead.ite h.setPos
  · exact h.fillRead.ite h
  · exact h.fillRead.ite h
  · exact h.noMedia
  · exact h.notReady

theorem speedDone {q : DriveKind} (h : d.Steady e) : d.Steady (e.speedDone c o q) := by
  unfold Dev.speedDone
  split
  · exact h
  · exact h.noMedia
  · exact h.notReady

theorem ejected (h : d.Steady e) : d.Steady (e.ejected c) := by
  have offered {g : Dev} (hg : d.Steady g) : d.Steady (if (g.drive c).claim.isNone then g.push .grantRule else g).look.reselect :=
    (hg.push.ite hg).look.reselect
  refine offered (modDrive ?_)
  split
  · exact h.unclaim
  · exact h

theorem ejectDone {q : DriveKind} (h : d.Steady e) : d.Steady (e.ejectDone c o q) := by
  unfold Dev.ejectDone
  dsimp only
  split
  · exact h.ejected.startSettle.offerUnload
  · exact h.ejected.wantStatus
  · exact h.notReady

theorem mediaReported (h : d.Steady e) : d.Steady (e.mediaReported c n m) := by
  unfold Dev.mediaReported
  split
  · exact h.threaded
  · exact h.modDrive.recordCapacity
  · exact h

theorem driveAbsent (h : d.Steady e) : d.Steady (e.driveAbsent c) := by
  unfold Dev.driveAbsent
  exact h.reconcileDrive.setConfirmed.modDrive

theorem commandTimedOut (h : d.Steady e) : d.Steady (e.commandTimedOut c) := by
  unfold Dev.commandTimedOut
  refine h.ite ?_
  dsimp only
  split
  · exact h.modDrive.push
  · refine push ?_
    split
    · exact h.modDrive.driveAbsent.ite h.modDrive.dropRetry.driveFault.answerOpt
    · exact h.modDrive.driveFault

theorem insertTimedOut (h : d.Steady e) : d.Steady (e.insertTimedOut c) := h.modDrive.driveFault.ite h
theorem idleTimedOut (h : d.Steady e) : d.Steady (e.idleTimedOut c) := (h.modDrive.ite h.modDrive.beginUnload).ite h

theorem openTimedOut (h : d.Steady e) : d.Steady (e.openTimedOut n) := by
  unfold Dev.openTimedOut
  split
  · exact h.leaveList.ite h
  · split
    · exact h.modSess.abortSession.ite h
    · exact h

theorem mediaTimedOut (h : d.Steady e) : d.Steady (e.mediaTimedOut c) := h.modSess.abortSession.ite h
theorem clearDrive (h : d.Steady e) : d.Steady (e.clearDrive c r) := h.answer.ite (h.answer.ite h.wantStatus)

/-! ### The changer link's events (R94, R97 to R105) and the lines (R183 to R187) -/

theorem changerMisfit {q : ChangerMsg} (h : d.Steady e) : d.Steady (e.changerMisfit q) := by
  unfold Dev.changerMisfit
  split
  · exact h.orderFault
  · exact h
  · exact h.changerAnswered

/-- R97: a completion of the changer link, whatever its message then does. -/
theorem changerCompletion {act : ChangerMsg → Dev → Dev} (h : d.Steady e)
    (each : ∀ {g : Dev} (q : ChangerMsg), d.Steady g → d.Steady (act q g)) : d.Steady (e.changerCompletion n act) := by
  unfold Dev.changerCompletion
  refine h.dropStaleMove.ite ?_
  split
  · next hg => exact (each _ (h.takeChanger hg)).push.push
  · exact h

theorem moveCompleted {q : MoveKind} (h : d.Steady e) : d.Steady (e.moveCompleted n q) := by
  refine h.changerCompletion fun m hg => ?_
  split
  · exact hg.orderFault.ite hg.applyMove
  · exact hg.changerMisfit

theorem scanCompleted {q : ScanKind} (h : d.Steady e) : d.Steady (e.scanCompleted n q) := by
  refine h.changerCompletion fun m hg => ?_
  split
  · exact hg.applyScan.ite hg.orderFault
  · exact hg.changerMisfit

theorem changerStatusDone (h : d.Steady e) : d.Steady (e.changerStatusDone n b) := by
  refine h.changerCompletion fun m hg => ?_
  split
  · exact hg.changerAnswered
  · exact hg.changerMisfit

theorem pickerTimedOut (h : d.Steady e) : d.Steady e.pickerTimedOut := by
  unfold Dev.pickerTimedOut
  refine h.ite ?_
  split
  · exact h.dropStaleMove
  · refine push (push ?_)
    split
    · exact h.modMqu.orderFault
    · exact h.modMqu
    · exact h.modMqu.changerAnswered

theorem settled (h : d.Steady e) : d.Steady (e.settled c) := h.modMqu.push.ite h
theorem clearChanger (h : d.Steady e) : d.Steady (e.clearChanger r) := h.answer.ite (h.answer.ite h.modMqu.push)
theorem clearStore (h : d.Steady e) : d.Steady (e.clearStore r) := h.answer.ite (h.modCst.modCst.push.ite h.modCst.answer)

theorem doorUpdate (h : d.Steady e) : d.Steady e.doorUpdate := by
  have door {b : Bool} : d.Steady { e with doorOpen := b } := h.of_eq rfl rfl
  exact h.ite (ite door.modMqu.noticeAll door.modMqu.noticeAll.startInventory.push)

theorem powerFail (h : d.Steady e) : d.Steady e.powerFail := h.ite h.modMqu.modCst.noticeAll.push
theorem mailRequest (h : d.Steady e) : d.Steady e.mailRequest := h.ite h.startImport

theorem edge {l : Fin 4} (h : d.Steady e) : d.Steady (e.edge l b) := by
  unfold Dev.edge
  split
  · exact h
  · exact h.doorUpdate
  · exact h.powerFail.ite h
  · exact h.mailRequest.ite h
  · exact h.stopEvent.ite h

theorem lineChanged {l : Fin 4} {v : Level} (h : d.Steady e) : d.Steady (e.lineChanged l v) := h.ite h.setLine
theorem debounced {l : Fin 4} (h : d.Steady e) : d.Steady (e.debounced l) := h.ite (h.setLine.edge.ite h.setLine)

/-! ### The store's writes (R188 to R191), start-up and RESET (R194, R195) -/

theorem startWrite (h : d.Steady e) : d.Steady (e.startWrite n b) := h.modCst.emit
theorem beginReads (h : d.Steady e) : d.Steady e.beginReads := (h.of_eq rfl rfl : d.Steady e.beginReads)

theorem flush (h : d.Steady e) : d.Steady e.flush := by
  unfold Dev.flush
  refine h.ite (h.ite ?_)
  split
  · split
    · exact h.startWrite.modCst
    · exact h.beginReads.ite h.modCst
  · refine h.ite ?_
    split
    · exact h.startWrite
    · exact h

theorem storeFault (h : d.Steady e) : d.Steady e.storeFault := h.ite h.modCst.noticeAll
theorem storeWritten {q : StoreWrite} (h : d.Steady e) : d.Steady (e.storeWritten q) := h.modCst.answerOpt.push

theorem storeFailed {q : StoreWrite} (h : d.Steady e) : d.Steady (e.storeFailed q) :=
  h.modCst.modCst.startWrite.ite h.modCst.modCst.storeFault.answerOpt.push

theorem storeCompleted (h : d.Steady e) : d.Steady (e.storeCompleted b) := by
  unfold Dev.storeCompleted
  split
  · exact h.storeWritten.ite h.storeFailed
  · exact h

theorem poolsTest (h : d.Steady e) : d.Steady e.poolsTest := h.applyPools.ite h

/-- R194: start-up begins with every page free (R51). -/
theorem freshBlocks (d : Dev) : d.Steady d.freshBlocks := ⟨rfl, fun _ => ⟨rfl, Nat.zero_le _, Nat.zero_le _⟩⟩

theorem of_outside (h : d.Steady e) (same : e.Outside g) : d.Steady g := h.of_eq same.cfg same.smc

theorem answerReset (h : d.Steady e) : d.Steady e.answerReset := h.of_outside (Dev.Ensues.answerReset e).outside
theorem noticeBad (h : d.Steady e) : d.Steady e.noticeBad := h.ite h.noticeAll

theorem askLibrary (h : d.Steady e) : d.Steady e.askLibrary :=
  h.wantStatus.wantStatus.command.command.modMqu.sendChangerStatus.startInventory

theorem setDoor (h : d.Steady e) : d.Steady e.setDoor := (h.of_eq rfl rfl : d.Steady e.setDoor)

theorem startUp (d : Dev) : d.Steady d.startUp := by
  by_cases loaded : d.phase = .loaded
  · rw [Dev.startUp_eq loaded]
    exact ((freshBlocks d).setDoor.of_outside (Dev.ordered_outside _)).poolsTest.answerReset.noticeBad.askLibrary
  · rw [Dev.startUp, if_pos loaded]
    exact refl d

theorem abortRequests (h : d.Steady e) : d.Steady (e.abortRequests r p) := h.foldl _ fun _ hg => hg.answerWith

theorem resetTaken (h : d.Steady e) : d.Steady (e.resetTaken r) := by
  unfold Dev.resetTaken
  refine push (of_eq (poolsTest (foldl (shuffled (foldl ?_ _ fun _ hg => hg.leaveList)) _ fun _ hg => hg.abortSession)) rfl rfl)
  exact h.abortRequests.abortRequests.abortRequests.dropAnswer

/-! ### What follows inside a step (log entry 4) -/

theorem follow {t : Todo} (h : d.Steady e) : d.Steady (e.follow t) := by
  cases t with
  | transmit p => exact h.transmit
  | creditRetry p => exact h.creditRetry
  | flush => exact h.flush
  | grantRule => exact h.grantRule
  | zeroWait n => exact h.zeroWait
  | bring c => exact h.bring
  | command c => exact h.command
  | pages => exact h.pagesFreed
  | askPage c => exact h.askPage
  | encoder c => exact h.encoderTake
  | decoder c => exact h.decoderTake
  | build c => exact h.build
  | readHead c => exact h.readHead
  | deliver c => exact h.deliver
  | select => exact h.selectAgain
  | selectOn c => exact h.selectOn
  | poolsApply => exact h.poolsTest
  | orders => exact h.ordersFollow
  | send => exact h.sendTest
  | offers => exact h.offersAgain
  | feedScan => exact h.feedScan
  | offerUnload c =>
    simp only [Dev.follow]
    split
    · exact h.offerUnload
    · exact h
  | offerImport m => exact h.reofferImport
  | freshImport m i => exact h.offerImport
  | inventoryEnd => exact h.endInventory
  | changerStatus => exact h.sendChangerStatus

theorem settle (fuel : Nat) {e : Dev} (h : d.Steady e) : d.Steady (Dev.settle fuel e) := by
  induction fuel generalizing e with
  | zero => exact h
  | succ fuel ih =>
    unfold Dev.settle
    split
    · exact h
    · exact ih h.setTodo.follow

theorem finish (h : d.Steady e) : d.Steady e.finish := h.settle _

end Sys2Proof.Machine.Dev.Steady
end

section
/-! The stage pages (R51 to R53), part 5: the requests, the commands that load or change the settings, and the step. -/

namespace Sys2Proof.Machine

namespace Dev.Steady

variable {d e g : Dev} {c : Chan} {i : CartIx} {n m : Nat} {s : Session} {r : ReqId} {f : Req} {k : ReqKind}

/-! ### Arrival and the common checks (R171, R172) -/

theorem joined (h : d.Steady e) : d.Steady (e.joined f k) := h.modPort
theorem overflowed (h : d.Steady e) : d.Steady (e.overflowed f) := h.setPort.push.ite h.setPort

theorem arrive {act : ReqId → Dev → Dev} (h : d.Steady e) (each : ∀ {g : Dev} {r : ReqId}, d.Steady g → d.Steady (act r g)) :
    d.Steady (e.arrive f k act) := (h.overflowed.ite (each h.joined)).ite h

theorem withForm {α : Type} {parsed : Option α} {act : α → Dev → Dev} (h : d.Steady e)
    (each : ∀ {g : Dev} {a : α}, d.Steady g → d.Steady (act a g)) : d.Steady (e.withForm r parsed act) := by
  cases parsed with
  | some a => exact each h
  | none => exact h.answer

theorem panelOnly {act : Dev → Dev} (h : d.Steady e) (each : ∀ {g : Dev}, d.Steady g → d.Steady (act g)) :
    d.Steady (e.panelOnly r act) := (each h).ite h.answer

theorem unlessHeld {act : Dev → Dev} (h : d.Steady e) (each : ∀ {g : Dev}, d.Steady g → d.Steady (act g)) :
    d.Steady (e.unlessHeld r act) := h.answer.ite (each h)

theorem withSession {act : Chan → Session → Dev → Dev} (h : d.Steady e)
    (each : ∀ {g : Dev} {c : Chan} {s : Session}, d.Steady g → d.Steady (act c s g)) : d.Steady (e.withSession r act) := by
  refine h.answer.ite ?_
  split
  · split
    · exact (each h).ite h.answer
    · exact h
  · exact h.answer.ite h.answer

theorem withFiles {act : Chan → Session → Backup → Dev → Dev} (h : d.Steady e)
    (each : ∀ {g : Dev} {c : Chan} {s : Session} {b : Backup}, d.Steady g → d.Steady (act c s b g)) : d.Steady (e.withFiles r act) := by
  refine h.withSession fun hg => ?_
  split
  · exact (each hg).ite hg.answer
  · exact hg.answer

/-! ### A backup's requests (R114, R121 to R128, R138) -/

theorem openAppend {q : BackupOpen} (h : d.Steady e) : d.Steady (e.openAppend r q n) := by
  unfold Dev.openAppend
  split
  · exact h.answer
  · split
    · exact h.answer
    · exact h.answer.ite (h.answer.ite (h.answer.ite (h.answer.ite (h.answer.ite h.offerOpen))))

theorem openBackup {q : BackupOpen} (h : d.Steady e) : d.Steady (e.openBackup r q) := by
  unfold Dev.openBackup
  refine h.answer.ite (h.answer.ite ?_)
  split
  · split
    · exact h.offerOpen
    · exact h.answer
  · exact h.openAppend
  · exact h.offerOpen

theorem fileBegin {l : List Byte} {b : Backup} (h : d.Steady e) : d.Steady (e.fileBegin r l c b) :=
  h.answer.ite (h.answer.ite h.modBackup.answerWith)

theorem dataTaken {l : List Byte} {o : OpenFile} (h : d.Steady e) : d.Steady (e.dataTaken r l c s o) := by
  refine (grantInAnswer (fillHalves ?_)).answerWith
  split
  · exact h.modBackup.modSet
  · exact h.modBackup

theorem dataFrame {l : List Byte} {b : Backup} (h : d.Steady e) : d.Steady (e.dataFrame r l c s b) := by
  unfold Dev.dataFrame
  split
  · exact h.answer
  · exact h.answer.ite h.dataTaken

theorem fileEnd {b : Backup} (h : d.Steady e) : d.Steady (e.fileEnd r c s b) := by
  unfold Dev.fileEnd
  split
  · exact h.answer
  · refine answerWith ?_
    split
    · exact h.modBackup.modChan.modSet
    · exact h.modBackup.modChan

theorem closeTaken (h : d.Steady e) : d.Steady (e.closeTaken r c s) := by
  refine push (push ?_)
  split
  · exact h.modBackup.handBlock.modBackup
  · exact h.modBackup

theorem closeSet {b : Backup} (h : d.Steady e) : d.Steady (e.closeSet r c s b) := h.answer.ite h.closeTaken
theorem abortRequest (h : d.Steady e) : d.Steady (e.abortRequest r c s) := h.modSess.abortSession.ite h.answer

/-! ### The catalogue's requests (R13 to R15, R26 to R29) -/

theorem recycle {l : Label} (h : d.Steady e) : d.Steady (e.recycle r l) := by
  unfold Dev.recycle
  split
  · exact h.answer
  · split
    · exact h.answer
    · exact h.answer.ite (h.answer.ite (h.answer.ite (h.answer.ite (h.answer.ite h.recycleCart.answer))))

theorem eraseCart (h : d.Steady e) : d.Steady (e.eraseCart i) := by
  have freed {g : Dev} (hg : d.Steady g) : d.Steady (match g.cart i with
      | some x => if x.location.isNone then ((g.putCart i none).modMqu fun m => m.entryFreed i x.label).push .orders else g
      | none => g) := by
    split
    · exact hg.putCart.modMqu.push.ite hg
    · exact hg
  exact freed (h.foldl _ fun _ hg => hg.expireSet).modCart.reselect

theorem erase (h : d.Steady e) : d.Steady (e.erase r n) := by
  unfold Dev.erase
  split
  · exact h.answer.ite (h.answer.ite (h.answer.ite h.eraseCart.answer))
  · exact h.answer

theorem stagePools {q : PoolsReq} (h : d.Steady e) : d.Steady (e.stagePools r q) := by
  unfold Dev.stagePools
  refine h.answer.ite ?_
  split
  · exact h.answer
  · exact h.answer.ite h.modCat.dirty.answer.push

theorem lockPool (h : d.Steady e) : d.Steady (e.lockPool r n) :=
  h.answer.ite (h.answer.ite (h.answer.ite (h.answer.ite h.modCat.dirty.answer)))

theorem setDay (h : d.Steady e) : d.Steady (e.setDay r n) := h.modCat.dirty.answer.reselect
theorem inquire (h : d.Steady e) : d.Steady (e.inquire r) := h.modPort.answerWith
theorem cartridgeList (h : d.Steady e) : d.Steady (e.cartridgeList r n) := h.answer.ite h.answerWith

theorem setStatus (h : d.Steady e) : d.Steady (e.setStatus r n) := by
  unfold Dev.setStatus
  split
  · exact h.answerWith.ite h.answer
  · exact h.answer

theorem sessionStatus (h : d.Steady e) : d.Steady (e.sessionStatus r c s) := h.grantInAnswer.answerWith

/-! ### Movement and the other opens (R107 to R112, R140, R154, R158, R164, R187) -/

theorem offerForPanel {o : Order} (h : d.Steady e) : d.Steady (e.offerForPanel r o) := by
  unfold Dev.offerForPanel
  split
  · next hg => exact h.offerOrder hg
  · next hg => exact (h.offerOrder hg).answer

theorem exportFromDrive (h : d.Steady e) : d.Steady (e.exportFromDrive r c) := h.beginUnload.ite h.answer

theorem exportLabel {l : Label} (h : d.Steady e) : d.Steady (e.exportLabel r l) := by
  unfold Dev.exportLabel
  split
  · exact h.answer
  · refine h.answer.ite ?_
    split
    · exact h.answer
    · exact h.markExport.answer
    · exact h.exportFromDrive
    · exact h.offerForPanel

theorem relocateTo {l : Label} {p : Place} (h : d.Steady e) : d.Steady (e.relocateTo r l p) := by
  unfold Dev.relocateTo
  split
  · exact h.answer
  · split
    · exact h.answer
    · exact h.answer
    · exact h.answer.ite (h.answer.ite (h.answer.ite h.offerForPanel))

theorem relocate {l : Label} (h : d.Steady e) : d.Steady (e.relocate r l n) := by
  unfold Dev.relocate
  split
  · exact h.answer
  · exact h.answer
  · exact h.relocateTo

theorem resume (h : d.Steady e) : d.Steady (e.resume r) := h.stopResumed.answer.ite h.answer

theorem openVerify (h : d.Steady e) : d.Steady (e.openVerify r n) := by
  unfold Dev.openVerify
  split
  · exact h.answer
  · split
    · exact h.answer
    · exact h.answer.ite (h.answer.ite (h.answer.ite (h.answer.ite h.offerOpen)))

theorem openRestore {l : List Nat} (h : d.Steady e) : d.Steady (e.openRestore r n l) := by
  unfold Dev.openRestore
  refine h.answer.ite ?_
  split
  · exact h.answer
  · split
    · exact h.answer
    · exact h.answer.ite (h.answer.ite (h.answer.ite h.offerOpen))

theorem openRebuild (h : d.Steady e) : d.Steady (e.openRebuild r n) := by
  unfold Dev.openRebuild
  split
  · dsimp only
    split
    · exact h.answer
    · exact h.answer.ite (h.answer.ite h.offerOpen)
  · exact h.answer

theorem grantCredits (h : d.Steady e) : d.Steady (e.grantCredits r n c s) := by
  unfold Dev.grantCredits
  split
  · exact h.answer.ite h.modRestore.answerWith.push
  · exact h.answer

end Dev.Steady

/-! ### The commands that load or change the settings (R177, R192, R193) -/

theorem Dev.configure_steady (d : Dev) (r : ReqId) (q : ConfigReq) :
    ({ d with cfg := d.cfg.configured q } : Dev).Steady (d.configure r q) :=
  ((Dev.Steady.dirty (.refl _)).ite (.refl _)).answerWith.doorUpdate

theorem Dev.setMask_balanced (d : Dev) (r : ReqId) (n : Nat) (l : List Bool) (h : d.smc.balanced) : (d.setMask r n l).smc.balanced := by
  unfold Dev.setMask
  split
  · exact (Dev.Steady.refl d).answer.pages h
  · next p _ => exact (Dev.Steady.refl ({ d with cfg := d.cfg.withMask l p } : Dev)).dirty.answerWith.pages h

@[simp] theorem Dev.defaultBlock_smc (d : Dev) (b : Nat) (lost : Bool) : (d.defaultBlock b lost).smc = d.smc := by
  unfold Dev.defaultBlock
  split
  · rfl
  · split <;> rfl

theorem Dev.loadBody_smc {d e : Dev} {b : Nat} {body : List Byte} (h : d.loadBody b body = some e) : e.smc = d.smc := by
  unfold Dev.loadBody at h
  split at h
  · obtain ⟨x, -, rfl⟩ := Option.map_eq_some_iff.mp h
    rfl
  · split at h
    · obtain ⟨xs, -, rfl⟩ := Option.map_eq_some_iff.mp h
      rfl
    · obtain ⟨xs, -, rfl⟩ := Option.map_eq_some_iff.mp h
      rfl

@[simp] theorem Dev.settleBlock_smc (d : Dev) (b : Nat) (x y : CopyRead) : (d.settleBlock b x y).smc = d.smc := by
  have chosen {q : Prop} [Decidable q] : (if q then { d with races := d.races + 1 } else d).smc = d.smc := by split <;> rfl
  unfold Dev.settleBlock
  dsimp only
  split
  · split
    · next hg => rw [Dev.loadBody_smc hg]; exact chosen
    · simpa [Dev.badBlock] using chosen
  · simpa using chosen
  · simpa [Dev.badBlock] using chosen

/-- R193: a read of the store leaves the page counts as they were. -/
theorem Dev.storeReadDone_smc (d : Dev) (r : StoreRead) : (d.storeReadDone r).smc = d.smc := by
  have settled {g : Dev} (b : Nat) (x y : CopyRead) (hg : g.smc = d.smc) : (if b < 20 then
      ((g.settleBlock b x y).modCst fun s => { s with read := some ⟨b + 1, none⟩ }).emit (.storeRead (b + 1) 0)
      else { g.settleBlock b x y with phase := .loaded, cst := { (g.settleBlock b x y).cst with read := none } }).smc = d.smc := by
    split <;> simpa using hg
  unfold Dev.storeReadDone
  split
  · rfl
  · dsimp only
    split
    · cases r <;> rfl
    · refine settled _ _ _ ?_
      cases r <;> rfl

/-! ### The step -/

variable {s t : State}

/-- A command whose effect is steady, with what follows from it in the same step. -/
theorem State.does_steady {effect : Dev → Dev} (h : s.does effect = .next t)
    (each : ∀ {d : Dev}, s.dev.Steady d → s.dev.Steady (effect d)) : s.dev.Steady t.dev := by
  cases h
  exact (each (Dev.Steady.refl s.dev).begin).finish

/-- A command whose effect keeps the pages balanced, whatever it does to the settings. -/
theorem State.does_balanced {effect : Dev → Dev} (h : s.does effect = .next t)
    (each : ∀ d : Dev, d.smc.balanced → (effect d).smc.balanced) (hs : s.dev.smc.balanced) : t.dev.smc.balanced := by
  cases h
  exact (Dev.Steady.refl _).finish.pages (each _ hs)

/-- R177, R192, R193: the commands that load or change the settings. -/
def setsSettings : Instr → Bool
  | .powerOn _ | .storeReadCompletion _ | .config _ | .noticeMask _ => true
  | _ => false

/-- Every command but those that load or change the settings leaves the settings as they were and the pages balanced. -/
theorem exec_steady (i : Instr) (hi : setsSettings i = false) (h : exec i s = .next t) : s.dev.Steady t.dev := by
  cases i with
  | powerOn _ | storeReadCompletion _ | config _ | noticeMask _ => cases hi
  | startUp =>
    unfold exec execStartUp at h
    exact State.does_steady h fun hd => hd.trans (.startUp _)
  | frameError p =>
    unfold exec execFrameError at h
    exact State.does_steady h fun hd => hd.badFrame
  | unknownFrameKind p tag handle =>
    unfold exec execUnknownFrameKind at h
    exact State.does_steady h fun hd => hd.unknownKind
  | inquire f =>
    unfold exec execInquire at h
    exact State.does_steady h fun hd => hd.arrive fun hd => hd.withForm fun hd => hd.inquire
  | cartridgeList f =>
    unfold exec execCartridgeList at h
    exact State.does_steady h fun hd => hd.arrive fun hd => hd.withForm fun hd => hd.cartridgeList
  | setList f =>
    unfold exec execSetList at h
    exact State.does_steady h fun hd => hd.arrive fun hd => hd.withForm fun hd => hd.answerWith
  | setStatus f =>
    unfold exec execSetStatus at h
    exact State.does_steady h fun hd => hd.arrive fun hd => hd.withForm fun hd => hd.setStatus
  | sessionStatus f =>
    unfold exec execSessionStatus at h
    exact State.does_steady h fun hd => hd.arrive fun hd => hd.withForm fun hd => hd.withSession fun hd => hd.sessionStatus
  | openBackup f =>
    unfold exec execOpenBackup at h
    exact State.does_steady h fun hd => hd.arrive fun hd => hd.withForm fun hd => hd.openBackup
  | fileBegin f =>
    unfold exec execFileBegin at h
    exact State.does_steady h fun hd => hd.arrive fun hd => hd.withForm fun hd => hd.withFiles fun hd => hd.fileBegin
  | data f =>
    unfold exec execData at h
    exact State.does_steady h fun hd => hd.arrive fun hd => hd.withForm fun hd => hd.withFiles fun hd => hd.dataFrame
  | fileEnd f =>
    unfold exec execFileEnd at h
    exact State.does_steady h fun hd => hd.arrive fun hd => hd.withForm fun hd => hd.withFiles fun hd => hd.fileEnd
  | closeSet f =>
    unfold exec execCloseSet at h
    exact State.does_steady h fun hd => hd.arrive fun hd => hd.withForm fun hd => hd.withFiles fun hd => hd.closeSet
  | abort f =>
    unfold exec execAbort at h
    exact State.does_steady h fun hd => hd.arrive fun hd => hd.withForm fun hd => hd.withSession fun hd => hd.abortRequest
  | cancel f =>
    unfold exec execCancel at h
    exact State.does_steady h fun hd => hd.arrive fun hd => hd.withForm fun hd => hd.cancel
  | openVerify f =>
    unfold exec execOpenVerify at h
    exact State.does_steady h fun hd => hd.arrive fun hd => hd.withForm fun hd => hd.openVerify
  | openRestore f =>
    unfold exec execOpenRestore at h
    exact State.does_steady h fun hd => hd.arrive fun hd => hd.withForm fun hd => hd.openRestore
  | grant f =>
    unfold exec execGrant at h
    exact State.does_steady h fun hd => hd.arrive fun hd => hd.withForm fun hd => hd.withSession fun hd => hd.grantCredits
  | recycle f =>
    unfold exec execRecycle at h
    exact State.does_steady h fun hd => hd.arrive fun hd => hd.withForm fun hd => hd.recycle
  | importCarts f =>
    unfold exec execImportCarts at h
    exact State.does_steady h fun hd => hd.arrive fun hd => hd.withForm fun hd => hd.panelOnly fun hd =>
      hd.unlessHeld fun hd => hd.answer.startImport
  | exportCart f =>
    unfold exec execExportCart at h
    exact State.does_steady h fun hd => hd.arrive fun hd => hd.withForm fun hd => hd.panelOnly fun hd =>
      hd.unlessHeld fun hd => hd.exportLabel
  | relocate f =>
    unfold exec execRelocate at h
    exact State.does_steady h fun hd => hd.arrive fun hd => hd.withForm fun hd => hd.panelOnly fun hd =>
      hd.unlessHeld fun hd => hd.relocate
  | inventory f =>
    unfold exec execInventory at h
    exact State.does_steady h fun hd => hd.arrive fun hd => hd.withForm fun hd => hd.panelOnly fun hd =>
      hd.unlessHeld fun hd => hd.answer.startInventory
  | erase f =>
    unfold exec execErase at h
    exact State.does_steady h fun hd => hd.arrive fun hd => hd.withForm fun hd => hd.panelOnly fun hd => hd.erase
  | rebuild f =>
    unfold exec execRebuild at h
    exact State.does_steady h fun hd => hd.arrive fun hd => hd.withForm fun hd => hd.panelOnly fun hd => hd.openRebuild
  | pools f =>
    unfold exec execPools at h
    exact State.does_steady h fun hd => hd.arrive fun hd => hd.withForm fun hd => hd.panelOnly fun hd => hd.stagePools
  | lockPool f =>
    unfold exec execLockPool at h
    exact State.does_steady h fun hd => hd.arrive fun hd => hd.withForm fun hd => hd.panelOnly fun hd => hd.lockPool
  | day f =>
    unfold exec execDay at h
    exact State.does_steady h fun hd => hd.arrive fun hd => hd.withForm fun hd => hd.panelOnly fun hd => hd.setDay
  | stopResume f =>
    unfold exec execStopResume at h
    exact State.does_steady h fun hd => hd.arrive fun hd => hd.withForm fun hd => hd.panelOnly fun hd => hd.resume
  | clearFaultDrive f =>
    unfold exec execClearFaultDrive at h
    exact State.does_steady h fun hd => hd.arrive fun hd => hd.withForm fun hd => hd.panelOnly fun hd => hd.clearDrive
  | clearFaultChanger f =>
    unfold exec execClearFaultChanger at h
    exact State.does_steady h fun hd => hd.arrive fun hd => hd.withForm fun hd => hd.panelOnly fun hd => hd.clearChanger
  | clearFaultStore f =>
    unfold exec execClearFaultStore at h
    exact State.does_steady h fun hd => hd.arrive fun hd => hd.withForm fun hd => hd.panelOnly fun hd => hd.clearStore
  | reset f =>
    unfold exec execReset at h
    exact State.does_steady h fun hd => hd.arrive fun hd => hd.withForm fun hd => hd.panelOnly fun hd => hd.resetTaken
  | frameLeft p =>
    unfold exec execFrameLeft at h
    exact State.does_steady h fun hd => hd.frameGone
  | panelReadCutShort =>
    unfold exec execPanelReadCutShort at h
    exact State.does_steady h id
  | linkDown p =>
    unfold exec execLinkDown at h
    exact State.does_steady h fun hd => hd.linkLost
  | linkUp p =>
    unfold exec execLinkUp at h
    exact State.does_steady h fun hd => hd.linkReturned
  | holdTimerExpiry p =>
    unfold exec execHoldTimerExpiry at h
    exact State.does_steady h fun hd => hd.holdExpired
  | statusCompletion c num a =>
    unfold exec execStatusCompletion at h
    refine State.does_steady h fun hd => hd.completion fun _ hd => ?_
    split
    · exact hd.statusDone
    · exact hd.notReady
  | locateCompletion c num k =>
    unfold exec execLocateCompletion at h
    refine State.does_steady h fun hd => hd.completion fun _ hd => ?_
    split
    · exact hd.locateDone
    · exact hd.notReady
  | rewindCompletion c num k =>
    unfold exec execRewindCompletion at h
    refine State.does_steady h fun hd => hd.completion fun _ hd => ?_
    split
    · exact hd.rewindDone
    · exact hd.notReady
  | writeCompletion c num k =>
    unfold exec execWriteCompletion at h
    refine State.does_steady h fun hd => hd.completion fun _ hd => ?_
    split
    · exact hd.writeDone
    · exact hd.notReady
  | readCompletion c num k record =>
    unfold exec execReadCompletion at h
    refine State.does_steady h fun hd => hd.completion fun _ hd => ?_
    split
    · exact hd.readDone
    · exact hd.notReady
  | speedCompletion c num k =>
    unfold exec execSpeedCompletion at h
    refine State.does_steady h fun hd => hd.completion fun _ hd => ?_
    split
    · exact hd.speedDone
    · exact hd.notReady
  | ejectCompletion c num k =>
    unfold exec execEjectCompletion at h
    refine State.does_steady h fun hd => hd.completion fun _ hd => ?_
    split
    · exact hd.ejectDone
    · exact hd.notReady
  | mediaReady c capacity rate =>
    unfold exec execMediaReady at h
    exact State.does_steady h fun hd => hd.mediaReported
  | commandTimerExpiry c =>
    unfold exec execCommandTimerExpiry at h
    exact State.does_steady h fun hd => hd.commandTimedOut
  | insertReadyTimerExpiry c =>
    unfold exec execInsertReadyTimerExpiry at h
    exact State.does_steady h fun hd => hd.insertTimedOut
  | idleUnloadTimerExpiry c =>
    unfold exec execIdleUnloadTimerExpiry at h
    exact State.does_steady h fun hd => hd.idleTimedOut
  | openWaitTimerExpiry handle =>
    unfold exec execOpenWaitTimerExpiry at h
    exact State.does_steady h fun hd => hd.openTimedOut
  | mediaWaitTimerExpiry c =>
    unfold exec execMediaWaitTimerExpiry at h
    exact State.does_steady h fun hd => hd.mediaTimedOut
  | rateWindowExpiry c =>
    unfold exec execRateWindowExpiry at h
    exact State.does_steady h fun hd => hd.windowExpired
  | encodeCompletion c =>
    unfold exec execEncodeCompletion at h
    exact State.does_steady h fun hd => hd.encodeDone
  | decodeCompletion c =>
    unfold exec execDecodeCompletion at h
    exact State.does_steady h fun hd => hd.decodeDone
  | settleTimerExpiry c =>
    unfold exec execSettleTimerExpiry at h
    exact State.does_steady h fun hd => hd.settled
  | moveCompletion tag k =>
    unfold exec execMoveCompletion at h
    exact State.does_steady h fun hd => hd.moveCompleted
  | scanCompletion tag k =>
    unfold exec execScanCompletion at h
    exact State.does_steady h fun hd => hd.scanCompleted
  | changerStatusCompletion tag answered =>
    unfold exec execChangerStatusCompletion at h
    exact State.does_steady h fun hd => hd.changerStatusDone
  | pickerTimerExpiry =>
    unfold exec execPickerTimerExpiry at h
    exact State.does_steady h fun hd => hd.pickerTimedOut
  | lineInputChange l v =>
    unfold exec execLineInputChange at h
    exact State.does_steady h fun hd => hd.lineChanged
  | debounceTimerExpiry l =>
    unfold exec execDebounceTimerExpiry at h
    exact State.does_steady h fun hd => hd.debounced
  | storeWriteCompletion ok =>
    unfold exec execStoreWriteCompletion at h
    exact State.does_steady h fun hd => hd.storeCompleted

/-- R51, R52: the pages stay balanced through every command. -/
theorem exec_balanced (i : Instr) (h : exec i s = .next t) (hs : s.dev.smc.balanced) : t.dev.smc.balanced := by
  have panel {d : Dev} {f : Req} {k : ReqKind} {α : Type} {parsed : Option α} {act : ReqId → α → Dev → Dev} (hd : d.smc.balanced)
      (each : ∀ (r : ReqId) (a : α) (g : Dev), g.smc.balanced → (act r a g).smc.balanced) :
      (d.arrive f k fun r d => d.withForm r parsed fun a d => d.panelOnly r (act r a)).smc.balanced := by
    have answered {g : Dev} {r : ReqId} {st : Status} (hg : g.smc.balanced) : (g.answer r st).smc.balanced :=
      (Dev.Steady.refl g).answer.pages hg
    have joined : (d.joined f k).smc.balanced := (Dev.Steady.refl d).joined.pages hd
    unfold Dev.arrive
    split
    · split
      · exact (Dev.Steady.refl d).overflowed.pages hd
      · cases parsed with
        | none => exact answered joined
        | some a =>
          simp only [Dev.withForm_some, Dev.panelOnly]
          split
          · exact each _ a _ joined
          · exact answered joined
    · exact hd
  cases i with
  | powerOn inputs =>
    cases h
    exact ⟨rfl, Nat.zero_le _, Nat.zero_le _⟩
  | storeReadCompletion r =>
    unfold exec execStoreReadCompletion at h
    exact State.does_balanced h (fun d hd => by rwa [Dev.storeReadDone_smc]) hs
  | config f =>
    unfold exec execConfig at h
    exact State.does_balanced h (fun d hd => panel hd fun r q g hg => (g.configure_steady r q).pages hg) hs
  | noticeMask f =>
    unfold exec execNoticeMask at h
    exact State.does_balanced h (fun d hd => panel hd fun r q g hg => g.setMask_balanced r q.1 q.2 hg) hs
  | _ => exact (exec_steady _ rfl h).pages hs

/-- Settles O58: an idle step changes nothing, and a command keeps the balance (`exec_balanced`), since every part of its work takes and
frees pages by `Smc.take` and `Smc.release` alone (`Dev.Steady`). -/
theorem pagesStayBalanced : Obligations.PagesStayBalanced := by
  intro s t hs h
  unfold step at h
  split at h
  · cases h
    exact hs
  · exact exec_balanced _ h hs

end Sys2Proof.Machine
end

section
/-! Notices (R176): the pending CREDIT a count is added to, and what becomes of a notice that a port is offered. -/

namespace Sys2Proof.Machine

/-! ### A CREDIT that finds one pending (R56) -/

theorem addCredit_cons {n : Notice} {h k : Nat} (other : ∀ m r, Notice.credit h m r ≠ n) (l : List Notice) :
    addCredit h k (n :: l) = (addCredit h k l).map (n :: ·) := by
  cases n with
  | credit h' m r =>
    have hne : h' ≠ h := by
      rintro rfl
      exact other m r rfl
    simp [addCredit, hne]
  | _ => rfl

theorem addCredit_append {h k : Nat} {pre : List Notice} (none : ∀ m r, Notice.credit h m r ∉ pre) (l : List Notice) :
    addCredit h k (pre ++ l) = (addCredit h k l).map (pre ++ ·) := by
  induction pre with
  | nil => simp
  | cons n pre ih =>
    have head (m : Nat) (r : Bool) : Notice.credit h m r ≠ n := fun e => none m r (e ▸ List.mem_cons_self ..)
    have tail (m : Nat) (r : Bool) : Notice.credit h m r ∉ pre := fun e => none m r (List.mem_cons_of_mem _ e)
    simp [addCredit_cons head, ih tail, Function.comp_def]

/-- The count joins the first pending CREDIT of the session, in its place. -/
theorem addCredit_pending {h k m : Nat} {r : Bool} {pre post : List Notice} (none : ∀ m r, Notice.credit h m r ∉ pre) :
    addCredit h k (pre ++ .credit h m r :: post) = some (pre ++ .credit h (m + k) r :: post) := by
  simp [addCredit_append none, addCredit]

theorem addCredit_eq_none {h k : Nat} {l : List Notice} (none : ∀ m r, Notice.credit h m r ∉ l) : addCredit h k l = .none := by
  simpa [addCredit] using addCredit_append (k := k) none []

/-! ### The offer, case by case (R176) -/

/-- A port that cannot take a notice: LOST is set, unless the notice is a CREDIT. -/
def Dev.noticeDropped (d : Dev) (p : Port) (n : Notice) : Dev :=
  if n.isCredit then d else d.setPort p { d.port p with lost := true }

/-- A notice at the tail of a port's queue. -/
def Dev.noticeJoined (d : Dev) (p : Port) (n : Notice) : Dev :=
  (d.setPort p { d.port p with notices := (d.port p).notices ++ [n] }).push (.transmit p)

section Offer
variable {d : Dev} {p : Port} {n : Notice}

theorem Dev.offer_masked (masked : (d.cfg.mask p).getD n.index true ≠ true) : d.offer p n = (d, false) := by
  unfold Dev.offer
  exact if_pos (Bool.eq_false_iff.mpr masked)

variable (enabled : (d.cfg.mask p).getD n.index true = true)
include enabled

theorem Dev.offer_down (down : (d.port p).link ≠ .up) : d.offer p n = (d.noticeDropped p n, false) := by
  simp only [Dev.offer, enabled, Bool.true_eq_false, if_false, if_pos down, Dev.noticeDropped]

variable (up : (d.port p).link = .up)
include up

/-- A notice with no pending one to add to joins the tail, or is dropped when 16 wait. -/
theorem Dev.offer_uncoalesced (alone : ∀ h k r, n = .credit h k r → addCredit h k (d.port p).notices = none) :
    d.offer p n = if 16 ≤ (d.port p).notices.length then (d.noticeDropped p n, false) else (d.noticeJoined p n, true) := by
  unfold Dev.offer
  dsimp only
  rw [if_neg (ne_false_of_eq_true enabled), if_neg (not_not.mpr up)]
  cases n with
  | credit h k r =>
    dsimp only
    rw [alone h k r rfl]
    rfl
  | _ => rfl

theorem Dev.offer_coalesced {h k : Nat} {r : Bool} {l : List Notice} (credit : n = .credit h k r)
    (pending : addCredit h k (d.port p).notices = some l) : d.offer p n = (d.setPort p { d.port p with notices := l }, true) := by
  subst credit
  unfold Dev.offer
  dsimp only
  rw [if_neg (ne_false_of_eq_true enabled), if_neg (not_not.mpr up), pending]

end Offer

/-- Settles O50: the mask, the link, and then whether the notice finds a CREDIT to add to (`addCredit_pending`, `addCredit_eq_none`). -/
theorem noticesAreQueuedCoalescedOrDropped : Obligations.NoticesAreQueuedCoalescedOrDropped := by
  intro d p n u enabled dropped
  refine ⟨Dev.offer_masked, Dev.offer_down, fun on up plain => ?_, fun on up h k r credit => ⟨?_, ?_, ?_⟩⟩
  · have offered := Dev.offer_uncoalesced on up fun h k r credit => by simp [credit, Notice.isCredit] at plain
    exact ⟨fun room => offered.trans (if_neg (Nat.not_le.mpr room)), fun full => offered.trans (if_pos full)⟩
  · intro pre m r' post queue first
    exact Dev.offer_coalesced on up credit ((congrArg (addCredit h k) queue).trans (addCredit_pending first))
  all_goals
    intro absent
    have offered := Dev.offer_uncoalesced on up fun h' k' r' same => by
      obtain ⟨rfl, rfl, rfl⟩ := Notice.credit.inj (credit.symm.trans same)
      exact addCredit_eq_none absent
  · exact fun room => offered.trans (if_neg (Nat.not_le.mpr room))
  · intro full
    rw [offered, if_pos full, Dev.noticeDropped, if_pos (by simp [credit, Notice.isCredit])]

end Sys2Proof.Machine
end

section
/-! Requests to a session (R172, check 3; R121), and the grant that rides in their answers (R55 to R57, R68, R123). -/

namespace Sys2Proof.Machine

/-! ### The session a frame's handle names -/

theorem Dev.sessionOf_of_ch {d e : Dev} (h : e.ch = d.ch) (n : Nat) : e.sessionOf n = d.sessionOf n := by
  unfold Dev.sessionOf
  rw [Dev.sess_of_ch h, Dev.sess_of_ch h]

section Named
variable {s : State} {f : Req} {c : Chan} {x : Session} (named : s.dev.names f c x) (k : ReqKind)
include named

theorem Dev.sess_joined : (s.dev.begin.joined f k).sess c = some x := by
  obtain ⟨-, -, held, -⟩ := named
  rw [Dev.sess_of_ch (Dev.joined_ch ..), Dev.sess_begin, held]

theorem Dev.withSession_joined (act : Chan → Session → Dev → Dev) :
    (s.dev.begin.joined f k).withSession (s.dev.begin.newReq f k) act = act c x (s.dev.begin.joined f k) := by
  have held := Dev.sess_joined named k
  obtain ⟨⟨zero, all⟩, ofHandle, -, owner⟩ := named
  have found : (s.dev.begin.joined f k).sessionOf f.handle.toNat = some c :=
    (Dev.sessionOf_of_ch (Dev.joined_ch s.dev.begin f k) _).trans ofHandle
  simp [Dev.withSession, zero, all, found, held, owner]

/-- R121: files may be sent to a backup session that grants credits. -/
theorem Dev.withFiles_joined {b : Backup} (kind : x.kind = .backup b) (granting : b.granting = true)
    (act : Chan → Session → Backup → Dev → Dev) :
    (s.dev.begin.joined f k).withFiles (s.dev.begin.newReq f k) act = act c x b (s.dev.begin.joined f k) := by
  simp [Dev.withFiles, Dev.withSession_joined named, kind, granting]

theorem Dev.backup?_joined {b : Backup} (kind : x.kind = .backup b) : (s.dev.begin.joined f k).backup? c = some (x, b) :=
  Dev.backup?_eq_some.mpr ⟨Dev.sess_joined named k, kind⟩

end Named

/-- A request joins its port's queue whether a backup's context is changed before or after. -/
theorem Dev.joined_modBackup (d : Dev) (f : Req) (k : ReqKind) (c : Chan) (g : Backup → Backup) :
    (d.joined f k).modBackup c g = (d.modBackup c g).joined f k := by
  unfold Dev.joined Dev.modPort Dev.newReq
  cases f.port <;> rfl

/-- R173: a request that changes a backup's context and is answered at once. -/
theorem Dev.takes_modBackup_answerWith {s : State} {f : Req} (k : ReqKind) (takes : s.dev.takes f) (c : Chan) (g : Backup → Backup)
    (st : Status) (result : List Byte) :
    ((s.dev.begin.joined f k).modBackup c g).answerWith (s.dev.begin.newReq f k) st (s.dev.begin.newReq f k).handle result =
      (s.dev.begin.modBackup c g).answered f k st f.handle.toNat result := by
  have port : (s.dev.begin.modBackup c g).port f.port = s.dev.begin.port f.port := by cases f.port <;> rfl
  have req : s.dev.begin.newReq f k = (s.dev.begin.modBackup c g).newReq f k := by simp only [Dev.newReq, port]
  rw [Dev.joined_modBackup, req, Dev.joined_answerWith k st _ result (port ▸ Dev.takes_up takes), Dev.newReq_handle]

/-! ### The grant in an answer (R55, R56) -/

theorem Dev.grantInAnswer_backup {d : Dev} {c : Chan} {x : Session} {b : Backup} (h : d.backup? c = some (x, b)) :
    d.grantInAnswer c = (d.modBackup c fun q => { q with credits := q.credits + creditsDue (d.chan c) b, undelivered := false },
      creditsDue (d.chan c) b) := by
  unfold Dev.grantInAnswer
  rw [h]

theorem Dev.grantInAnswer_other {d : Dev} {c : Chan} (h : d.backup? c = none) : d.grantInAnswer c = (d, 0) := by
  unfold Dev.grantInAnswer
  rw [h]

/-- R55: what is outstanding with what is due: the room in the halves, or what was outstanding when that is more. -/
theorem credits_add_creditsDue {y : Channel} {b : Backup} (granting : b.granting = true) :
    b.credits + creditsDue y b = max b.credits ((131072 - y.bytesHeld) / 4096) := by
  simp only [creditsDue, granting, if_true, Config.creditBytes]
  omega

/-- Settles O18: a grant adds what is due (`credits_add_creditsDue`) to the session's outstanding credits. -/
theorem grantFillsTheRoomInTheHalves : Obligations.GrantFillsTheRoomInTheHalves := by
  intro d c x b backup granting room
  have total : b.credits + creditsDue (d.chan c) b = max b.credits room := credits_add_creditsDue granting
  rw [Dev.grantInAnswer_backup backup]
  refine ⟨?_, total⟩
  rw [Dev.backup?_modBackup backup, Option.map_some, total]

/-! ### SESSION_STATUS (R68) -/

theorem Dev.sessionResult_joined (d : Dev) (f : Req) (k : ReqKind) (c : Chan) (x : Session) :
    (d.joined f k).sessionResult c x = d.sessionResult c x := by
  have chan : (d.joined f k).chan c = d.chan c := Dev.chan_of_ch (Dev.joined_ch d f k) c
  have smc : (d.joined f k).smc = d.smc := by simp [Dev.joined]
  have label : (d.joined f k).mountedLabel c = d.mountedLabel c := by
    simp [Dev.mountedLabel, Dev.drive, chan, Dev.cartLabel, Dev.cart_congr (Dev.joined_cat d f k)]
  unfold Dev.sessionResult
  rw [chan, smc, label]

theorem exec_sessionStatus (f : Req) (s : State) : exec (.sessionStatus f) s = s.does fun d => d.arrive f .sessionStatus fun r d =>
    d.withForm r (parseNone f.payload) fun _ d => d.withSession r fun c x d => d.sessionStatus r c x := by rfl

theorem exec_sessionStatus_named {s : State} {f : Req} {c : Chan} {x : Session} (takes : s.dev.takes f) (payload : f.payload = [])
    (named : s.dev.names f c x) : exec (.sessionStatus f) s = .next { s with dev :=
      ((s.dev.begin.joined f .sessionStatus).sessionStatus (s.dev.begin.newReq f .sessionStatus) c x).finish } := by
  rw [exec_sessionStatus, State.does_arrive _ _ takes, payload, parseNone_nil, Dev.withForm_some, Dev.withSession_joined named]

theorem exec_data (f : Req) (s : State) : exec (.data f) s = s.does fun d => d.arrive f .data fun r d =>
    d.withForm r (parseData f.payload) fun bytes d => d.withFiles r fun c x b d => d.dataFrame r bytes c x b := by rfl

/-- R123: a DATA frame for a backup that grants credits. -/
theorem exec_data_named {s : State} {f : Req} {c : Chan} {x : Session} {b : Backup} {bytes : List Byte} (takes : s.dev.takes f)
    (payload : parseData f.payload = some bytes) (named : s.dev.names f c x) (kind : x.kind = .backup b)
    (granting : b.granting = true) : exec (.data f) s = .next { s with dev :=
      ((s.dev.begin.joined f .data).dataFrame (s.dev.begin.newReq f .data) bytes c x b).finish } := by
  rw [exec_data, State.does_arrive _ _ takes, payload, Dev.withForm_some, Dev.withFiles_joined named _ kind granting]

/-- Settles O16: the frame is taken (`Dev.dataTaken`) when a file is open and a credit is outstanding. -/
theorem dataCostsOneCredit : Obligations.DataCostsOneCredit := by
  intro s f c x b bytes takes payload named kind granting
  rw [exec_data_named takes payload named kind granting]
  refine ⟨fun o file credit => ?_, fun file => ?_, fun file credit => ?_⟩
  · simp only [Dev.dataFrame, file, if_neg credit]
    rfl
  · simp only [Dev.dataFrame, file, Dev.takes_answer .data takes]
  · obtain ⟨o, file⟩ := Option.ne_none_iff_exists'.mp file
    simp only [Dev.dataFrame, file, if_pos credit, Dev.takes_answer .data takes]

/-- Settles O10: the figures are read on the device the request has joined, which shows what the device showed before
(`Dev.sessionResult_joined`), and the grant is worked out after. -/
theorem sessionStatusCarriesAGrant : Obligations.SessionStatusCarriesAGrant := by
  intro s f c x takes payload named result
  have figures : (s.dev.begin.joined f .sessionStatus).sessionResult c x = result := Dev.sessionResult_joined _ ..
  rw [exec_sessionStatus_named takes payload named, Dev.sessionStatus]
  dsimp only
  rw [figures]
  constructor
  · intro b kind
    rw [Dev.grantInAnswer_backup (Dev.backup?_joined named _ kind)]
    dsimp only
    rw [Dev.takes_modBackup_answerWith .sessionStatus takes, Dev.chan_of_ch (Dev.joined_ch ..), Dev.chan_begin]
  · intro other
    have none : (s.dev.begin.joined f .sessionStatus).backup? c = none := by
      refine Option.eq_none_iff_forall_ne_some.mpr fun ⟨y, b⟩ backup => ?_
      obtain ⟨held, kind⟩ := Dev.backup?_eq_some.mp backup
      obtain rfl := Option.some.inj ((Dev.sess_joined named _).symm.trans held)
      exact other b kind
    rw [Dev.grantInAnswer_other none, Dev.takes_answerWith .sessionStatus takes]

end Sys2Proof.Machine
end

section
/-! The raw halves (R54): what a frame's bytes leave in them when the current half has room for them all, and when it fills. -/

namespace Sys2Proof.Machine

theorem Channel.half_setHalf_not (y : Channel) (b : Bool) (h : RawHalf) : (y.setHalf (!b) h).half b = y.half b := by cases b <;> rfl
theorem Channel.curB_setHalf (y : Channel) (b : Bool) (h : RawHalf) : (y.setHalf b h).curB = y.curB := by cases b <;> rfl
theorem Channel.enc_setHalf (y : Channel) (b : Bool) (h : RawHalf) : (y.setHalf b h).enc = y.enc := by cases b <;> rfl
theorem Channel.sess_setHalf (y : Channel) (b : Bool) (h : RawHalf) : (y.setHalf b h).sess = y.sess := by cases b <;> rfl

/-- R45, R54: the current half is handed over with a full block, as the next DATA block, and the other half is current. -/
def Dev.handedOver (d : Dev) (c : Chan) (tape seq : Nat) (block : List Byte) : Dev :=
  ((d.handBlock c .data (d.chan c).curB block tape seq).modChan c fun x => { x with curB := !x.curB }).modBackup c fun b =>
    { b with nextData := b.nextData + 1 }

/-- R54: the current half is filling, with the given bytes in it. -/
def Dev.setCurrent (d : Dev) (c : Chan) (bytes : List Byte) : Dev :=
  d.modChan c fun y => y.setHalf y.curB { state := .filling, bytes := bytes }

section Filled
variable {d : Dev} {c : Chan} {x : Session} {b : Backup} (backup : d.backup? c = some (x, b)) (tape : Nat) (bytes : List Byte)
include backup

/-- R54: all of the bytes have room in the current half. -/
theorem Dev.fillHalves_room (nonempty : 1 ≤ bytes.length)
    (room : (((d.chan c).half (d.chan c).curB).bytes ++ bytes).length < 65536) :
    d.fillHalves c tape bytes = d.setCurrent c (((d.chan c).half (d.chan c).curB).bytes ++ bytes) := by
  rw [List.length_append] at room
  have all : bytes.take (65536 - ((d.chan c).half (d.chan c).curB).bytes.length) = bytes := List.take_of_length_le (by omega)
  unfold Dev.fillHalves
  rw [backup]
  simp only [Config.blockBytes, all, List.length_append, if_pos room]
  rw [if_neg (by cases bytes <;> simp at nonempty ⊢)]
  rfl

/-- R54: the current half fills. -/
theorem Dev.fillHalves_full (below : ((d.chan c).half (d.chan c).curB).bytes.length < 65536)
    (full : 65536 ≤ (((d.chan c).half (d.chan c).curB).bytes ++ bytes).length) :
    let all := ((d.chan c).half (d.chan c).curB).bytes ++ bytes
    let e := d.handedOver c tape b.nextData (all.take 65536)
    d.fillHalves c tape bytes = if all.length = 65536 then e else e.setCurrent c (all.drop 65536) := by
  intro all e
  have block : ((d.chan c).half (d.chan c).curB).bytes ++ bytes.take (65536 - ((d.chan c).half (d.chan c).curB).bytes.length) =
      all.take 65536 := by rw [List.take_append, List.take_of_length_le below.le]
  have rest : bytes.drop (65536 - ((d.chan c).half (d.chan c).curB).bytes.length) = all.drop 65536 := by
    rw [List.drop_append, List.drop_of_length_le below.le, List.nil_append]
  have empty : (all.drop 65536).isEmpty = true ↔ all.length = 65536 := by
    rw [List.isEmpty_iff, List.drop_eq_nil_iff]
    exact ⟨fun h => le_antisymm h full, le_of_eq⟩
  unfold Dev.fillHalves
  rw [backup]
  simp only [Config.blockBytes, block, rest, empty]
  rw [if_neg (by rw [List.length_take, Nat.min_eq_left full]; exact lt_irrefl _)]
  rfl

theorem Dev.backup?_handedOver (seq : Nat) :
    ((d.handedOver c tape seq bytes).backup? c).map (fun p => p.2.nextData) = some (b.nextData + 1) := by
  have sess : (d.handBlock c .data (d.chan c).curB bytes tape seq).sess c = d.sess c :=
    (Dev.sess_push ..).trans (Dev.sess_modChan _ _ _ _ fun _ => Channel.sess_setHalf ..)
  have same : ((d.handBlock c .data (d.chan c).curB bytes tape seq).modChan c fun x => { x with curB := !x.curB }).backup? c =
      d.backup? c :=
    Dev.backup?_of_sess ((Dev.sess_modChan _ _ _ (fun x => { x with curB := !x.curB }) fun _ => rfl).trans sess)
  rw [Dev.handedOver, Dev.backup?_modBackup (same.trans backup)]
  rfl

end Filled

theorem Dev.chan_setCurrent (d : Dev) (c : Chan) (bytes : List Byte) :
    (d.setCurrent c bytes).chan c = (d.chan c).setHalf (d.chan c).curB { state := .filling, bytes := bytes } := Dev.chan_modChan ..

theorem Dev.backup?_setCurrent (d : Dev) (c : Chan) (bytes : List Byte) : (d.setCurrent c bytes).backup? c = d.backup? c :=
  Dev.backup?_of_sess (Dev.sess_modChan _ _ _ _ fun _ => Channel.sess_setHalf ..)

theorem Dev.chan_handedOver (d : Dev) (c : Chan) (tape seq : Nat) (block : List Byte) :
    let y := d.chan c
    (d.handedOver c tape seq block).chan c = { y.setHalf y.curB { state := .handed, bytes := block } with
      enc := { y.enc with work := y.enc.work ++ [⟨.data, y.curB, block.length, tape, seq⟩] }
      curB := !y.curB
      sess := (d.handedOver c tape seq block).sess c } := by
  simp [Dev.handedOver, Dev.modBackup, Dev.modSess, Dev.handBlock, Dev.sess, Channel.curB_setHalf, Channel.enc_setHalf]

/-- Settles O17: `Dev.fillHalves_room` when the bytes have room, `Dev.fillHalves_full` when the half fills. -/
theorem halvesTakeEveryByteInOrder : Obligations.HalvesTakeEveryByteInOrder := by
  intro d c x b tape bytes backup y all e z below nonempty _
  refine ⟨fun room => ?_, fun full => ?_⟩
  · have filled : e = d.setCurrent c all := Dev.fillHalves_room backup tape bytes nonempty room
    have chan : z = y.setHalf y.curB { state := .filling, bytes := all } :=
      (congrArg (Dev.chan · c) filled).trans (Dev.chan_setCurrent ..)
    rw [chan, filled]
    exact ⟨Channel.half_setHalf .., Channel.half_setHalf_other .., Channel.curB_setHalf .., Channel.enc_setHalf ..,
      Dev.backup?_setCurrent ..⟩
  · let g := d.handedOver c tape b.nextData (all.take 65536)
    have size : (all.take 65536).length = 65536 := List.length_take_of_le full
    have filled : e = if all.length = 65536 then g else g.setCurrent c (all.drop 65536) :=
      Dev.fillHalves_full backup tape bytes below full
    have handed : (g.chan c).half y.curB = { state := .handed, bytes := all.take 65536 } ∧
        (g.chan c).half (!y.curB) = y.half (!y.curB) ∧ (g.chan c).curB = (!y.curB) ∧
        (g.chan c).enc = { y.enc with work := y.enc.work ++ [⟨.data, y.curB, 65536, tape, b.nextData⟩] } := by
      rw [Dev.chan_handedOver, size]
      exact ⟨Channel.half_setHalf .., Channel.half_setHalf_other .., rfl, rfl⟩
    have next : (g.backup? c).map (fun p => p.2.nextData) = some (b.nextData + 1) := Dev.backup?_handedOver backup tape _ _
    obtain ⟨current, other, curB, enc⟩ := handed
    by_cases same : all.length = 65536
    · rw [if_pos same] at filled
      have chan : z = g.chan c := congrArg (Dev.chan · c) filled
      rw [chan, filled]
      exact ⟨current, curB, enc, fun more => absurd same more.ne', fun _ => other, next⟩
    · rw [if_neg same] at filled
      have chan : z = (g.chan c).setHalf (!y.curB) { state := .filling, bytes := all.drop 65536 } := by
        rw [← curB, ← Dev.chan_setCurrent, ← filled]
      rw [chan, filled, Channel.half_setHalf_not, Channel.half_setHalf, Channel.curB_setHalf, Channel.enc_setHalf,
        Dev.backup?_setCurrent]
      exact ⟨current, curB, enc, fun _ => rfl, fun fits => absurd fits same, next⟩

end Sys2Proof.Machine
end

section
/-! The timers of opens and sessions (R65, R83, R134, R142, R155), and the step the rate window gives (R66). -/

namespace Sys2Proof.Machine

/-! ### Open-wait and media-wait timers -/

/-- A command's work, and then the step's end. -/
theorem State.does_eq {s : State} {effect : Dev → Dev} {e : Dev} (work : effect s.dev.begin = e) :
    s.does effect = .next { s with dev := e.finish } := by rw [State.does, work]

theorem exec_openWaitTimerExpiry (n : Nat) (s : State) : exec (.openWaitTimerExpiry n) s = s.does fun d => d.openTimedOut n := by rfl
theorem exec_mediaWaitTimerExpiry (c : Chan) (s : State) : exec (.mediaWaitTimerExpiry c) s = s.does fun d => d.mediaTimedOut c := by
  rfl
theorem exec_rateWindowExpiry (c : Chan) (s : State) : exec (.rateWindowExpiry c) s = s.does fun d => d.windowExpired c := by rfl

/-- R83: a waiting open. -/
theorem Dev.openTimedOut_waiting {d : Dev} {n : Nat} {w : WaitEntry} (found : d.waitList.find? (fun w => w.handle = n) = some w)
    (timer : w.timer ≠ none) : d.openTimedOut n =
      (({ d with waitList := d.waitList.filter fun x => x.handle ≠ w.handle } : Dev).freeSet w.kind.set?).answerWith w.req .timeout
        w.handle [] := by
  unfold Dev.openTimedOut
  simp only [found, Option.isSome_iff_ne_none.mpr timer, if_true]
  rfl

/-- R83: a session that was granted and is not yet answered. -/
theorem Dev.openTimedOut_granted {d : Dev} {n : Nat} {c : Chan} {x : Session}
    (absent : d.waitList.find? (fun w => w.handle = n) = none) (ofHandle : d.sessionOf n = some c) (held : d.sess c = some x)
    (timer : x.openTimer ≠ none) : d.openTimedOut n =
      (d.modSess c fun x => { x with openTimer := none }).abortSession c .mediaTimeout := by
  unfold Dev.openTimedOut
  simp only [absent, ofHandle, held, Option.any_some, Option.isSome_iff_ne_none.mpr timer, if_true]

theorem Dev.mediaTimedOut_armed {d : Dev} {c : Chan} {x : Session} (held : d.sess c = some x) (timer : x.mediaTimer ≠ none) :
    d.mediaTimedOut c = (d.modSess c fun x => { x with mediaTimer := none }).abortSession c .mediaTimeout := by
  unfold Dev.mediaTimedOut
  simp only [held, Option.any_some, Option.isSome_iff_ne_none.mpr timer, if_true]

/-! ### The rate window (R65, R66) -/

theorem Dev.windowExpired_backup {d : Dev} {c : Chan} {x : Session} {b : Backup} {p rf v : Nat} (backup : d.backup? c = some (x, b))
    (window : b.window = some p) (rate : (d.drive c).rate = some rf) (speed : (d.drive c).speed = some v) :
    let e := d.modBackup c fun b => { b with window := some 0 }
    let v' := newStep v (targetStep p rf) (d.chan c).wq.length d.cfg.watermark
    d.windowExpired c = if v' = v then e else e.modDrive c fun x => { x with speed := some v', speedPending := true } := by
  unfold Dev.windowExpired
  simp only [backup, window, Dev.drive_modBackup, rate, speed, Dev.wq_modBackup, Dev.modBackup_cfg]

/-- R66: the steps that carry the window's bytes. -/
theorem ceil_le_iff {p rf : Nat} (positive : 1 ≤ rf) (t : Nat) :
    (8 * p + 2 * rf * 1000000 - 1) / (2 * rf * 1000000) ≤ t ↔ 8 * p ≤ t * (2 * rf * 1000000) := by
  rw [← Nat.ceilDiv_eq_add_pred_div, ceilDiv_le_iff_le_mul (by omega), Nat.mul_comm t]

theorem clampTo_eq {lo hi v t : Nat} (order : lo ≤ hi) (clamped : clampTo lo hi v = t) :
    (lo ≤ t ∧ t ≤ hi) ∧ (t < hi → v ≤ t) ∧ (lo < t → t ≤ v) := by
  unfold clampTo at clamped
  split at clamped
  · omega
  · split at clamped <;> omega

/-- R66: the target step is the smallest in 1 to 8 that carries the window's bytes. -/
theorem targetStep_eq {p rf t : Nat} (positive : 1 ≤ rf) (target : targetStep p rf = t) :
    (1 ≤ t ∧ t ≤ 8) ∧ (t < 8 → 8 * p ≤ t * (2 * rf * 1000000)) ∧ (1 < t → (t - 1) * (2 * rf * 1000000) < 8 * p) := by
  obtain ⟨range, carries, smallest⟩ := clampTo_eq (by omega) target
  refine ⟨range, fun h => (ceil_le_iff positive t).mp (carries h), fun h => ?_⟩
  refine Nat.not_le.mp fun less => ?_
  have := (ceil_le_iff positive (t - 1)).mpr less
  have := smallest h
  omega

theorem newStep_full {v t q w : Nat} (full : 4 * w ≤ q) : newStep v t q w = 8 := if_pos full

theorem newStep_below {v t q w : Nat} (below : q < 4 * w) :
    newStep v t q w = if v < t then t else if t + 1 < v then v - 1 else v := if_neg (Nat.not_le.mpr below)

/-- Settles O48: each timer's expiry by the lemma of its name, and the step by `targetStep_eq` and the cases of `newStep`. -/
theorem sessionTimersExpire : Obligations.SessionTimersExpire := by
  refine ⟨fun s n => ⟨fun w found timer => ?_, fun c x absent ofHandle held timer => ?_⟩, fun s c x held timer => ?_,
    fun s c x b p rf v backup window rate speed => ?_, fun p rf t => targetStep_eq, fun v t q w _ _ _ _ => ⟨newStep_full, ?_⟩⟩
  · exact (exec_openWaitTimerExpiry n s).trans (State.does_eq (Dev.openTimedOut_waiting (d := s.dev.begin) found timer))
  · exact (exec_openWaitTimerExpiry n s).trans
      (State.does_eq (Dev.openTimedOut_granted (d := s.dev.begin) absent ofHandle held timer))
  · exact (exec_mediaWaitTimerExpiry c s).trans (State.does_eq (Dev.mediaTimedOut_armed (d := s.dev.begin) held timer))
  · exact (exec_rateWindowExpiry c s).trans
      (State.does_eq (Dev.windowExpired_backup (d := s.dev.begin) backup window rate speed))
  · refine ⟨fun below up => ?_, fun below down => ?_, fun below least most => ?_⟩ <;> rw [newStep_below below]
    · exact if_pos up
    · rw [if_neg (by omega), if_pos down]
    · rw [if_neg (by omega), if_neg (by omega)]

end Sys2Proof.Machine
end

section
/-! Every command is an effect on the device with what follows it (R69, R97, R170). -/

namespace Sys2Proof.Machine

/-- Every command is `State.does` of its effect: the device alone changes, and no command ends in a fault or a refusal. -/
theorem exec_next (c : Instr) (s : State) : ∃ t, exec c s = .next t ∧ t.pending = s.pending := by
  cases c <;> exact ⟨_, rfl, rfl⟩

/-- Settles O2: a command's effect is on the device alone (`exec_next`), and an empty queue has no front to take. -/
theorem everyStepAnswersANextState : Obligations.EveryStepAnswersANextState := by
  refine ⟨exec_next, fun s => ?_, fun s empty => ?_⟩
  · cases queue : s.pending with
    | nil => exact ⟨s, by rw [step, queue], queue⟩
    | cons c rest =>
      rw [step, queue]
      exact exec_next c { s with pending := rest }
  · rw [step, empty]

end Sys2Proof.Machine
end

section
/-! CANCEL (R84) and CLEAR_FAULT of each unit (R77, R105, R190). -/

namespace Sys2Proof.Machine

@[simp] theorem Dev.joined_waitList (d : Dev) (f : Req) (k : ReqKind) : (d.joined f k).waitList = d.waitList := by simp [Dev.joined]

/-! ### CANCEL -/

theorem exec_cancel (f : Req) (s : State) : exec (.cancel f) s = s.does fun d => d.arrive f .cancel fun r d =>
    d.withForm r (parseByte f.payload) fun tag d => d.cancel r tag := by rfl

theorem exec_cancel_taken {s : State} {f : Req} {tag : Byte} (takes : s.dev.takes f) (payload : f.payload = [tag]) :
    exec (.cancel f) s = .next { s with dev :=
      ((s.dev.begin.joined f .cancel).cancel (s.dev.begin.newReq f .cancel) tag.toNat).finish } := by
  rw [exec_cancel, State.does_arrive _ _ takes, payload, parseByte_single, Dev.withForm_some]

section Cancelled
variable {d : Dev} {r : ReqId} {tag : Nat}

theorem Dev.cancel_waiting {w : WaitEntry} (found : d.waitList.find? (fun w => w.req.port = r.port ∧ w.req.tag = tag) = some w) :
    d.cancel r tag = ((d.unlist w).answerWith w.req .aborted w.handle []).answer r .ok := by
  rw [Dev.cancel, found]
  rfl

theorem Dev.cancel_absent (absent : d.waitList.find? (fun w => w.req.port = r.port ∧ w.req.tag = tag) = none) :
    d.cancel r tag = d.answer r .notWaiting := by
  rw [Dev.cancel, absent]

end Cancelled

/-- Settles O14: the list is searched on the device the CANCEL has joined, which waits for what the old one waited for. -/
theorem cancelWithdrawsTheOldestOpen : Obligations.CancelWithdrawsTheOldestOpen := by
  intro s f tag takes payload d r found
  have list : d.waitList = s.dev.waitList := Dev.joined_waitList ..
  have search : d.waitList.find? (fun w => w.req.port = r.port ∧ w.req.tag = tag.toNat) = found := by rw [list]; rfl
  refine ⟨fun w oldest => ?_, fun none => ?_⟩
  · rw [exec_cancel_taken takes payload, Dev.cancel_waiting (search.trans oldest), Dev.unlist, list]
  · rw [exec_cancel_taken takes payload, Dev.cancel_absent (search.trans none), Dev.takes_answer .cancel takes]

/-! ### CLEAR_FAULT -/

theorem exec_clearFaultDrive (f : Req) (s : State) : exec (.clearFaultDrive f) s = execClearFaultDrive f s := by rfl
theorem exec_clearFaultChanger (f : Req) (s : State) : exec (.clearFaultChanger f) s = execClearFaultChanger f s := by rfl
theorem exec_clearFaultStore (f : Req) (s : State) : exec (.clearFaultStore f) s = execClearFaultStore f s := by rfl

section Taken
variable {s : State} {f : Req} (takes : s.dev.takes f) (panel : f.port = .P)
include takes panel

theorem exec_clearFaultDrive_taken {c : Chan} (payload : f.payload = [if c = .ch0 then 0 else 1]) :
    exec (.clearFaultDrive f) s = .next { s with dev :=
      ((s.dev.begin.joined f .clearFault).clearDrive c (s.dev.begin.newReq f .clearFault)).finish } := by
  rw [exec_clearFaultDrive, execClearFaultDrive, State.does_arrive _ _ takes, payload, parseByte_single]
  cases c <;> simp [Dev.panelOnly, panel]

theorem exec_clearFaultChanger_taken (payload : f.payload = [2]) :
    exec (.clearFaultChanger f) s = .next { s with dev :=
      ((s.dev.begin.joined f .clearFault).clearChanger (s.dev.begin.newReq f .clearFault)).finish } := by
  rw [exec_clearFaultChanger, execClearFaultChanger, State.does_arrive _ _ takes, payload, parseByte_single]
  simp [Dev.panelOnly, panel]

theorem exec_clearFaultStore_taken (payload : f.payload = [3]) :
    exec (.clearFaultStore f) s = .next { s with dev :=
      ((s.dev.begin.joined f .clearFault).clearStore (s.dev.begin.newReq f .clearFault)).finish } := by
  rw [exec_clearFaultStore, execClearFaultStore, State.does_arrive _ _ takes, payload, parseByte_single]
  simp [Dev.panelOnly, panel]

end Taken

/-- R77: a CLEAR_FAULT of the drive waits for its STATUS, sent or still to be sent. -/
def Drive.clearAsked (x : Drive) : Prop :=
  x.wants.clear ≠ none ∨ ∃ w n o, x.out = some ⟨.status w, n, o⟩ ∧ w.clear ≠ none

section Units
variable {d : Dev} {c : Chan} {r : ReqId}

theorem Dev.clearDrive_sound (sound : (d.drive c).state ≠ .fault) : d.clearDrive c r = d.answer r .badState := if_pos sound

theorem Dev.clearDrive_asked (fault : (d.drive c).state = .fault) (asked : (d.drive c).clearAsked) :
    d.clearDrive c r = d.answer r .busy := by
  obtain wanted | ⟨w, n, o, sent, clear⟩ := asked
  · simp [Dev.clearDrive, fault, Option.isSome_iff_ne_none, wanted]
  · simp [Dev.clearDrive, fault, sent, Option.isSome_iff_ne_none, clear]

theorem Dev.clearDrive_first (fault : (d.drive c).state = .fault) (first : ¬ (d.drive c).clearAsked) :
    d.clearDrive c r = d.wantStatus c { clear := some r } := by
  obtain ⟨wanted, sent⟩ := not_or.mp first
  unfold Dev.clearDrive
  rw [if_neg (not_not.mpr fault), if_neg]
  rw [not_not.mp wanted]
  split
  · next w n o out => simpa using fun clear => sent ⟨w, n, o, out, clear⟩
  · simp

theorem Dev.clearChanger_sound (sound : d.mqu.changer ≠ .fault) : d.clearChanger r = d.answer r .badState := if_pos sound
theorem Dev.clearChanger_asked (fault : d.mqu.changer = .fault) (asked : d.mqu.clearReq ≠ none) :
    d.clearChanger r = d.answer r .busy := by
  simp [Dev.clearChanger, fault, Option.isSome_iff_ne_none, asked]
theorem Dev.clearChanger_fault (fault : d.mqu.changer = .fault) (first : d.mqu.clearReq = none) :
    d.clearChanger r = (d.modMqu fun m => { m with clearReq := some r, statusWant := true }).push .changerStatus := by
  simp [Dev.clearChanger, fault, first]

theorem Dev.clearStore_sound (sound : d.cst.fault = false) : d.clearStore r = d.answer r .badState := by
  simp [Dev.clearStore, sound]
theorem Dev.clearStore_dirty (fault : d.cst.fault = true) (dirty : d.cst.dirty.any (· = true) = true) :
    d.clearStore r = (d.modCst fun t => { t with fault := false, clear := some r }).push .flush := by
  unfold Dev.clearStore
  simp only [fault, Dev.modCst_cst, dirty]
  rfl
theorem Dev.clearStore_clean (fault : d.cst.fault = true) (clean : d.cst.dirty.any (· = true) = false) :
    d.clearStore r = (d.modCst fun t => { t with fault := false }).answer r .ok := by
  unfold Dev.clearStore
  simp only [fault, Dev.modCst_cst, clean]
  rfl

end Units

/-- A request that is answered at once, the store alone being changed. -/
theorem Dev.takes_modCst_answer {s : State} {f : Req} (k : ReqKind) (takes : s.dev.takes f) (g : Store → Store) (st : Status) :
    ((s.dev.begin.joined f k).modCst g).answer (s.dev.begin.newReq f k) st =
      (s.dev.begin.modCst g).answered f k st f.handle.toNat [] := by
  have joined : (s.dev.begin.joined f k).modCst g = (s.dev.begin.modCst g).joined f k := by
    unfold Dev.joined Dev.modPort Dev.newReq
    cases f.port <;> rfl
  have req : s.dev.begin.newReq f k = (s.dev.begin.modCst g).newReq f k := by simp only [Dev.newReq, Dev.port_modCst]
  rw [joined, req, Dev.joined_answer k st (by rw [Dev.port_modCst]; exact Dev.takes_up takes)]

/-- Settles O32: each unit is looked at on the device the request has joined, whose units are the old ones. -/
theorem clearFaultAsksTheUnit : Obligations.ClearFaultAsksTheUnit := by
  intro s f takes panel e r badState busy
  have bad : e.answer r .badState = badState := Dev.takes_answer .clearFault takes _
  have full : e.answer r .busy = busy := Dev.takes_answer .clearFault takes _
  have mqu : e.mqu = s.dev.mqu := Dev.joined_mqu ..
  have cst : e.cst = s.dev.cst := Dev.joined_cst ..
  refine ⟨fun c payload => ?_, fun payload => ?_, fun payload => ?_⟩
  · have drive : e.drive c = s.dev.drive c := Dev.drive_of_ch (Dev.joined_ch s.dev.begin f .clearFault) c
    rw [exec_clearFaultDrive_taken takes panel payload, ← drive]
    refine ⟨fun fault asked => ?_, fun fault first => ?_, fun sound => ?_⟩
    · rw [Dev.clearDrive_asked fault asked, full]
    · rw [Dev.clearDrive_first fault first, Dev.wantStatus, if_neg (by simp [fault])]
    · rw [Dev.clearDrive_sound sound, bad]
  · rw [exec_clearFaultChanger_taken takes panel payload, ← mqu]
    refine ⟨fun fault first => ?_, fun fault asked => ?_, fun sound => ?_⟩
    · rw [Dev.clearChanger_fault fault first]
    · rw [Dev.clearChanger_asked fault asked, full]
    · rw [Dev.clearChanger_sound sound, bad]
  · rw [exec_clearFaultStore_taken takes panel payload, ← cst]
    refine ⟨fun fault dirty => ?_, fun fault clean => ?_, fun sound => ?_⟩
    · rw [Dev.clearStore_dirty fault dirty]
    · rw [Dev.clearStore_clean fault clean, Dev.takes_modCst_answer .clearFault takes]
    · rw [Dev.clearStore_sound sound, bad]

end Sys2Proof.Machine
end

section
/-! Completions on the drive links: the command number (R69, R90), STATUS answers (R73, R75, R77) and the motion commands (R70, R86,
R87). -/

namespace Sys2Proof.Machine

/-! ### The command number -/

theorem exec_statusCompletion (c : Chan) (n : Nat) (a : StatusAnswer) (s : State) :
    exec (.statusCompletion c n a) s = execStatusCompletion c n a s := by rfl
theorem exec_locateCompletion (c : Chan) (n : Nat) (k : DriveKind) (s : State) :
    exec (.locateCompletion c n k) s = execLocateCompletion c n k s := by rfl
theorem exec_rewindCompletion (c : Chan) (n : Nat) (k : DriveKind) (s : State) :
    exec (.rewindCompletion c n k) s = execRewindCompletion c n k s := by rfl
theorem exec_speedCompletion (c : Chan) (n : Nat) (k : DriveKind) (s : State) :
    exec (.speedCompletion c n k) s = execSpeedCompletion c n k s := by rfl
theorem exec_ejectCompletion (c : Chan) (n : Nat) (k : DriveKind) (s : State) :
    exec (.ejectCompletion c n k) s = execEjectCompletion c n k s := by rfl

theorem Dev.completion_stale {d : Dev} {c : Chan} {n : Nat} (stale : (d.drive c).stale = some n) (k : Outstanding → Dev → Dev) :
    d.completion c n k = (d.modDrive c fun x => { x with stale := none, cmdTimer := none }).push (.command c) := if_pos stale

theorem Dev.completion_unmatched {d : Dev} {c : Chan} {n : Nat} (stale : (d.drive c).stale ≠ some n)
    (out : ∀ o, (d.drive c).out = some o → o.num ≠ n) (k : Outstanding → Dev → Dev) : d.completion c n k = d := by
  refine (if_neg stale).trans ?_
  split
  · next o sent => exact if_neg (out o sent)
  · rfl

/-- R69, R70: the completions of a drive link. -/
def driveCompletions (c : Chan) (n : Nat) (a : StatusAnswer) (k : DriveKind) (bytes : List Byte) : List Instr :=
  [.statusCompletion c n a, .locateCompletion c n k, .rewindCompletion c n k, .writeCompletion c n k, .readCompletion c n k bytes,
    .speedCompletion c n k, .ejectCompletion c n k]

/-- Every completion is taken by its number before its kind is looked at. -/
theorem exec_driveCompletions {c : Chan} {n : Nat} {a : StatusAnswer} {k : DriveKind} {bytes : List Byte} {i : Instr}
    (completion : i ∈ driveCompletions c n a k bytes) (s : State) :
    ∃ act, exec i s = .next { s with dev := (s.dev.begin.completion c n act).finish } := by
  simp only [driveCompletions, List.mem_cons, List.not_mem_nil, or_false] at completion
  obtain rfl | rfl | rfl | rfl | rfl | rfl | rfl := completion
  all_goals exact ⟨_, rfl⟩

/-- Settles O39: by the number alone, whatever the completion brings (`exec_driveCompletions`). -/
theorem completionsCarryTheCommandNumber : Obligations.CompletionsCarryTheCommandNumber := by
  intro s c n a k bytes i completion
  obtain ⟨act, meaning⟩ := exec_driveCompletions completion s
  rw [meaning]
  refine ⟨fun stale out idle => ?_, fun stale => ?_⟩
  · rw [Dev.completion_unmatched (d := s.dev.begin) stale out, Dev.finish_idle s.dev.begin idle]
    rfl
  · rw [Dev.completion_stale (d := s.dev.begin) stale]

/-! ### STATUS -/

theorem exec_statusCompletion_awaited {s : State} {c : Chan} {o : Outstanding} {w : Wants} (awaits : s.dev.awaits c o)
    (status : o.cmd = .status w) {a : StatusAnswer} {d : Dev} (work : (s.dev.begin.commandEnded c).statusDone c w a = d) :
    exec (.statusCompletion c o.num a) s = .next { s with dev := (d.push (.command c)).finish } := by
  rw [exec_statusCompletion, execStatusCompletion, State.does, Dev.completion_awaited awaits]
  simp only [status, work]

@[simp] theorem Dev.drive_reconcileDrive (d : Dev) (c k : Chan) (present : Bool) :
    (d.reconcileDrive c present).drive k = d.drive k := by
  refine Dev.drive_of_ch ?_ k
  cases present with
  | true => rw [Dev.reconcileDrive_present, Dev.setConfirmed_ch]; split <;> simp
  | false => rw [Dev.reconcileDrive_absent, Dev.setConfirmed_ch, Dev.shownEmpty_ch]

section Mouth
variable {d : Dev} {c : Chan} {w : Wants} {cap rate : Nat}

theorem Dev.mouth_unknown (state : (d.drive c).state = .unknown) (a : StatusAnswer) : d.mouth c w a =
    if a = .none then (((d.reconcileDrive c false).modDrive c fun x => { x with state := .empty }).push .grantRule).look
    else (d.reconcileDrive c true).startUpUnload c := by
  by_cases present : a = .none <;> simp [Dev.mouth, state, present]

theorem Dev.mouth_empty (state : (d.drive c).state = .empty) (a : StatusAnswer) : d.mouth c w a =
    if a = .ejected then (d.reconcileDrive c true).handOver c w.retry
    else (d.reconcileDrive c (a ≠ .none)).dropRetry w.retry := by
  by_cases ejected : a = .ejected <;> simp [Dev.mouth, state, ejected]

theorem Dev.mouth_held (state : (d.drive c).state = .ready ∨ (d.drive c).state = .ejecting) (a : StatusAnswer) : d.mouth c w a =
    if a = .none then ((d.reconcileDrive c false).dropRetry w.retry).driveFault c
    else (d.reconcileDrive c true).dropRetry w.retry := by
  obtain state | state := state <;> by_cases present : a = .none <;> simp [Dev.mouth, state, present]

theorem Dev.mouth_inserting_none (state : (d.drive c).state = .inserting) :
    d.mouth c w .none = ((d.reconcileDrive c false).dropRetry w.retry).driveFault c := by simp [Dev.mouth, state]
theorem Dev.mouth_inserting_ejected (state : (d.drive c).state = .inserting) :
    d.mouth c w .ejected = (d.reconcileDrive c true).dropRetry w.retry := by simp [Dev.mouth, state]
theorem Dev.mouth_inserting_loaded (state : (d.drive c).state = .inserting) :
    d.mouth c w (.loaded cap rate) = ((d.reconcileDrive c true).dropRetry w.retry).threaded c cap rate := by
  simp [Dev.mouth, state]

theorem Dev.mouth_fault_unasked (state : (d.drive c).state = .fault) (unasked : w.clear = none) (a : StatusAnswer) :
    d.mouth c w a = if a = .ejected ∧ w.retry ≠ none then (d.reconcileDrive c true).handOver c w.retry
      else (d.reconcileDrive c (a ≠ .none)).dropRetry w.retry := by
  by_cases ejected : a = .ejected <;> simp [Dev.mouth, state, unasked, ejected, Option.isSome_iff_ne_none]

theorem Dev.mouth_fault_clear (state : (d.drive c).state = .fault) {r : ReqId} (clear : w.clear = some r) (a : StatusAnswer) :
    d.mouth c w a = (d.reconcileDrive c (a ≠ .none)).leaveFault c r a w.retry := by
  simp [Dev.mouth, state, clear]

end Mouth

/-- Settles O40: the place is confirmed first, and the drive state, which that leaves as it was, decides (`Dev.mouth_unknown` and the
lemmas after it). -/
theorem statusAnswersReachTheDrive : Obligations.StatusAnswersReachTheDrive := by
  intro s c o w awaits status e st full bare fullTold bareTold gives
  have done {a : StatusAnswer} {d : Dev} (work : e.statusDone c w a = d) : gives a d := exec_statusCompletion_awaited awaits status work
  have state : (e.drive c).state = st := by rw [show e.drive c = _ from Dev.drive_modDrive ..]; rfl
  refine ⟨fun h => ?_, fun h => ?_, fun h => ?_, fun h => ?_, fun h unasked => ?_, fun h r clear => ?_, done rfl,
    fun h => ?_, fun h => ?_⟩
  · have mouth := Dev.mouth_unknown (w := w) (state.trans h)
    exact ⟨done ((mouth .none).trans (if_pos rfl)), done ((mouth .ejected).trans (if_neg nofun)),
      fun cap rate => done ((mouth (.loaded cap rate)).trans (if_neg nofun))⟩
  · have mouth := Dev.mouth_empty (w := w) (state.trans h)
    exact ⟨done ((mouth .none).trans (if_neg nofun)), done ((mouth .ejected).trans (if_pos rfl)),
      fun cap rate => done ((mouth (.loaded cap rate)).trans (if_neg nofun))⟩
  · have inserting := state.trans h
    exact ⟨done (Dev.mouth_inserting_none inserting), done (Dev.mouth_inserting_ejected inserting),
      fun cap rate => done (Dev.mouth_inserting_loaded inserting)⟩
  · have mouth := Dev.mouth_held (d := e) (w := w) (state ▸ h)
    exact ⟨done ((mouth .none).trans (if_pos rfl)), done ((mouth .ejected).trans (if_neg nofun)),
      fun cap rate => done ((mouth (.loaded cap rate)).trans (if_neg nofun))⟩
  · have mouth := Dev.mouth_fault_unasked (state.trans h) unasked
    refine ⟨done ((mouth .none).trans (if_neg fun both => nomatch both.1)), fun once => done ((mouth .ejected).trans ?_),
      fun again => done ((mouth .ejected).trans (if_pos ⟨rfl, again⟩)),
      fun cap rate => done ((mouth (.loaded cap rate)).trans (if_neg fun both => nomatch both.1))⟩
    rw [if_neg fun both => both.2 once, once]
    rfl
  · have mouth := Dev.mouth_fault_clear (state.trans h) clear
    exact ⟨done (mouth .none), done (mouth .ejected), fun cap rate => done (mouth (.loaded cap rate))⟩
  · exact done (if_pos (state.trans h))
  · exact done (if_neg (state ▸ h))

/-! ### LOCATE, REWIND, SPEED and EJECT -/

section Awaited
variable {s : State} {c : Chan} {o : Outstanding} (awaits : s.dev.awaits c o) {k : DriveKind} {d : Dev}
include awaits

theorem exec_locateCompletion_awaited {p : Nat} (locate : o.cmd = .locate p)
    (work : (s.dev.begin.commandEnded c).locateDone c o p k = d) :
    exec (.locateCompletion c o.num k) s = .next { s with dev := (d.push (.command c)).finish } := by
  rw [exec_locateCompletion, execLocateCompletion, State.does, Dev.completion_awaited awaits]
  simp only [locate, work]

theorem exec_rewindCompletion_awaited {u : Bool} (rewind : o.cmd = .rewind u)
    (work : (s.dev.begin.commandEnded c).rewindDone c o u k = d) :
    exec (.rewindCompletion c o.num k) s = .next { s with dev := (d.push (.command c)).finish } := by
  rw [exec_rewindCompletion, execRewindCompletion, State.does, Dev.completion_awaited awaits]
  simp only [rewind, work]

theorem exec_speedCompletion_awaited {v : Nat} (speed : o.cmd = .speed v)
    (work : (s.dev.begin.commandEnded c).speedDone c o k = d) :
    exec (.speedCompletion c o.num k) s = .next { s with dev := (d.push (.command c)).finish } := by
  rw [exec_speedCompletion, execSpeedCompletion, State.does, Dev.completion_awaited awaits]
  simp only [speed, work]

theorem exec_ejectCompletion_awaited (eject : o.cmd = .eject) (work : (s.dev.begin.commandEnded c).ejectDone c o k = d) :
    exec (.ejectCompletion c o.num k) s = .next { s with dev := (d.push (.command c)).finish } := by
  rw [exec_ejectCompletion, execEjectCompletion, State.does, Dev.completion_awaited awaits]
  simp only [eject, work]

end Awaited

section Positioned
variable {d : Dev} {c : Chan} {o : Outstanding}

/-- A move of the tape that no session asked for. -/
theorem Dev.positioned_unowned (unowned : o.owner = none) (p : Nat) (k : DriveKind) : d.positioned c o p k = d := by
  have gone : d.ownerOf c o = none := by unfold Dev.ownerOf; split <;> simp [unowned]
  simp only [Dev.positioned, gone]

/-- R70: the positioning of a session ends with the LOCATE or REWIND it sent for its goal. -/
theorem Dev.positioned_goal {x : Session} {p : Nat} (held : d.sess c = some x) (owner : o.owner = some x.handle)
    (moving : (x.positioning || x.relocating) = true) (goal : x.goal = some p) (k : DriveKind) :
    d.positioned c o p k = if k = .ok then d.arrived c else d.missed c (decide (k = .blank)) := by
  have mine : d.ownerOf c o = some x := by simp only [Dev.ownerOf, held, if_pos owner]
  simp [Dev.positioned, mine, moving, goal]

end Positioned

/-! ### The end of a command in a drive FAULT (R70) -/

/-- R70: NOT_READY, or NO_MEDIA from a drive that is READY or EJECTING. -/
def Drive.failsBy (x : Drive) (k : DriveKind) : Prop := k = .notReady ∨ (k = .noMedia ∧ (x.state = .ready ∨ x.state = .ejecting))

section Failed
variable {d : Dev} {c : Chan} {o : Outstanding} {k : DriveKind}

theorem Dev.notReady_of_motion (motion : ∀ w, o.cmd ≠ .status w) : d.notReady c o = (d.setPos c none).driveFault c := by
  unfold Dev.notReady
  split
  · next w status => exact absurd status (motion w)
  · rfl

theorem Dev.noMedia_holding (holding : (d.drive c).state = .ready ∨ (d.drive c).state = .ejecting) :
    d.noMedia c = (d.setPos c none).driveFault c := by
  have state : ((d.setPos c none).drive c).state = (d.drive c).state := by rw [Dev.setPos, Dev.drive_modDrive]
  obtain held | held := holding <;> simp [Dev.noMedia, state, held]

variable (fails : (d.drive c).failsBy k) (motion : ∀ w, o.cmd ≠ .status w)
include fails motion

/-- `done` is what the command's completion does, by the kind it brings. -/
theorem Dev.done_fails (done : DriveKind → Dev) (notReady : done .notReady = d.notReady c o) (noMedia : done .noMedia = d.noMedia c) :
    done k = (d.setPos c none).driveFault c := by
  obtain rfl | ⟨rfl, holding⟩ := fails
  · exact notReady.trans (Dev.notReady_of_motion motion)
  · exact noMedia.trans (Dev.noMedia_holding holding)

end Failed

theorem Dev.drive_commandEnded (d : Dev) (c : Chan) :
    (d.begin.commandEnded c).drive c = { d.drive c with out := none, cmdTimer := none } := Dev.drive_modDrive ..

/-- Settles O42: a session's move by `Dev.positioned_goal`, a drive FAULT by `Dev.done_fails`, and every other
completion by the arm of its kind. -/
theorem motionCommandsComplete : Obligations.MotionCommandsComplete := by
  intro s c o awaits e gives reqs moves
  have drive : e.drive c = { s.dev.drive c with out := none, cmdTimer := none } := Dev.drive_commandEnded ..
  have sess (p : Option Nat) : (e.setPos c p).sess c = s.dev.sess c :=
    (Dev.sess_modDrive ..).trans (Dev.sess_modDrive ..)
  refine ⟨fun p locate => ⟨fun unowned => ?_, fun x ⟨held, owner, moving⟩ goal => ?_⟩,
    fun rewind x ⟨held, owner, moving⟩ goal => ?_,
    fun rewind => ?_, fun v speed => ?_, fun eject => ?_, fun k kind => ?_⟩
  · exact exec_locateCompletion_awaited awaits locate (Dev.positioned_unowned unowned ..)
  · have done (q : Option Nat) := Dev.positioned_goal ((sess q).trans held) owner moving goal
    exact ⟨exec_locateCompletion_awaited awaits locate (done _ .ok), exec_locateCompletion_awaited awaits locate (done _ .blank),
      exec_locateCompletion_awaited awaits locate (done _ .hardRead)⟩
  · have done (q : Option Nat) := Dev.positioned_goal ((sess q).trans held) owner moving goal
    refine ⟨exec_rewindCompletion_awaited awaits rewind (done _ .ok), fun k missed => ?_⟩
    simp only [List.mem_cons, List.not_mem_nil, or_false] at missed
    obtain rfl | rfl | rfl := missed
    all_goals exact exec_rewindCompletion_awaited awaits rewind (done _ .hardRead)
  · refine ⟨exec_rewindCompletion_awaited awaits rewind rfl, fun k missed => ?_⟩
    simp only [List.mem_cons, List.not_mem_nil, or_false] at missed
    obtain rfl | rfl | rfl := missed
    all_goals exact exec_rewindCompletion_awaited awaits rewind rfl
  · exact exec_speedCompletion_awaited awaits speed rfl
  · have waiting : ((e.drive c).unload.bind (·.req)).toList = reqs := by rw [drive]
    exact ⟨exec_ejectCompletion_awaited awaits eject (by rw [Dev.ejectDone, waiting]),
      exec_ejectCompletion_awaited awaits eject (by rw [Dev.ejectDone, waiting])⟩
  · have fails : (e.drive c).failsBy k := by rw [drive]; exact kind
    refine ⟨fun p cmd => ?_, fun u cmd => ?_, fun v cmd => ?_, fun r p cmd => ?_, fun cmd bytes => ?_, fun cmd notReady => ?_⟩
    all_goals have motion (w : Wants) : o.cmd ≠ .status w := by rw [cmd]; nofun
    · exact exec_locateCompletion_awaited awaits cmd (Dev.done_fails fails motion (e.locateDone c o p) rfl rfl)
    · exact exec_rewindCompletion_awaited awaits cmd (Dev.done_fails fails motion (e.rewindDone c o u) rfl rfl)
    · exact exec_speedCompletion_awaited awaits cmd (Dev.done_fails fails motion (e.speedDone c o) rfl rfl)
    · exact (exec_writeCompletion_awaited awaits cmd k).trans
        (by rw [Dev.done_fails fails motion (e.writeDone c o r p) rfl rfl])
    · exact (exec_readCompletion_awaited awaits cmd k bytes).trans
        (by rw [Dev.done_fails fails motion (e.readDone c o · bytes) rfl rfl])
    · subst notReady
      exact exec_ejectCompletion_awaited awaits cmd (Dev.notReady_of_motion motion)

end Sys2Proof.Machine
end

section
/-! MEDIA_READY (R72) and the expiry of a drive's timers (R71, R72, R85). -/

namespace Sys2Proof.Machine

theorem exec_mediaReady (c : Chan) (cap rate : Nat) (s : State) :
    exec (.mediaReady c cap rate) s = s.does fun d => d.mediaReported c cap rate := by rfl
theorem exec_commandTimerExpiry (c : Chan) (s : State) : exec (.commandTimerExpiry c) s = s.does fun d => d.commandTimedOut c := by rfl
theorem exec_insertReadyTimerExpiry (c : Chan) (s : State) : exec (.insertReadyTimerExpiry c) s = s.does fun d => d.insertTimedOut c := by
  rfl
theorem exec_idleUnloadTimerExpiry (c : Chan) (s : State) : exec (.idleUnloadTimerExpiry c) s = s.does fun d => d.idleTimedOut c := by
  rfl

section Reported
variable {d : Dev} {c : Chan} {cap rate : Nat}

theorem Dev.mediaReported_inserting (state : (d.drive c).state = .inserting) :
    d.mediaReported c cap rate = d.threaded c cap rate := by simp only [Dev.mediaReported, state]
theorem Dev.mediaReported_ready (state : (d.drive c).state = .ready) : d.mediaReported c cap rate =
    (d.modDrive c fun x => { x with rate := some rate }).recordCapacity c cap := by simp only [Dev.mediaReported, state]
theorem Dev.mediaReported_other (inserting : (d.drive c).state ≠ .inserting) (ready : (d.drive c).state ≠ .ready) :
    d.mediaReported c cap rate = d := by
  unfold Dev.mediaReported
  split
  · exact absurd ‹_› inserting
  · exact absurd ‹_› ready
  · rfl

end Reported

section Expired
variable {d : Dev} {c : Chan}

section Command
variable {o : Outstanding} (timer : (d.drive c).cmdTimer ≠ none) (out : (d.drive c).out = some o)
include timer out

/-- R71: any other command than a STATUS (`motion` rules out the arm of the STATUS). -/
theorem Dev.commandTimedOut_motion (motion : ∀ w, o.cmd ≠ .status w) :
    d.commandTimedOut c = ((d.commandEnded c).driveFault c).push (.command c) := by
  unfold Dev.commandTimedOut
  simp only [out, Option.isNone_iff_eq_none, timer, if_false]
  rfl

/-- R71: a STATUS that no retry of an UNLOAD waits for. -/
theorem Dev.commandTimedOut_status {w : Wants} (status : o.cmd = .status w) (retry : w.retry = none) :
    d.commandTimedOut c = (if (d.drive c).state = .unknown then (d.commandEnded c).driveAbsent c
      else ((d.commandEnded c).driveFault c).answerOpt w.clear .fault).push (.command c) := by
  unfold Dev.commandTimedOut
  simp only [out, Option.isNone_iff_eq_none, timer, if_false, status, retry]
  rfl

end Command

theorem Dev.insertTimedOut_armed (timer : (d.drive c).insertTimer ≠ none) :
    d.insertTimedOut c = (d.modDrive c fun x => { x with insertTimer := none }).driveFault c :=
  if_pos (Option.isSome_iff_ne_none.mpr timer)

theorem Dev.idleTimedOut_armed (timer : (d.drive c).idleTimer ≠ none) : d.idleTimedOut c =
    if d.mqu.holdPower then d.modDrive c fun x => { x with idleTimer := none }
    else (d.modDrive c fun x => { x with idleTimer := none }).beginUnload c none :=
  if_pos (Option.isSome_iff_ne_none.mpr timer)

end Expired

/-- Settles O45: each event by the lemma of its name on the device it finds. -/
theorem driveTimersAndMediaReady : Obligations.DriveTimersAndMediaReady := by
  intro s c x gives e
  refine ⟨fun cap rate => ⟨fun state => ?_, fun state => ?_, fun inserting ready => ?_⟩,
    fun o timer out => ⟨fun motion => ?_, fun w status retry => ?_⟩, fun timer => ?_,
    fun timer => ⟨fun held => ?_, fun free ready idle => ?_⟩⟩
  · exact (exec_mediaReady ..).trans (State.does_eq (Dev.mediaReported_inserting (d := s.dev.begin) state))
  · exact (exec_mediaReady ..).trans (State.does_eq (Dev.mediaReported_ready (d := s.dev.begin) state))
  · exact (exec_mediaReady ..).trans (State.does_eq (Dev.mediaReported_other (d := s.dev.begin) inserting ready))
  · exact (exec_commandTimerExpiry ..).trans (State.does_eq (Dev.commandTimedOut_motion (d := s.dev.begin) timer out motion))
  · have expired := Dev.commandTimedOut_status (d := s.dev.begin) timer out status retry
    rw [Dev.drive_begin] at expired
    refine ⟨fun unknown => ?_, fun known => ?_⟩
    · exact (exec_commandTimerExpiry ..).trans (State.does_eq (by rw [expired, if_pos unknown]))
    · exact (exec_commandTimerExpiry ..).trans (State.does_eq (by rw [expired, if_neg known]))
  · exact (exec_insertReadyTimerExpiry ..).trans (State.does_eq (Dev.insertTimedOut_armed (d := s.dev.begin) timer))
  · have expired := Dev.idleTimedOut_armed (d := s.dev.begin) timer
    exact (exec_idleUnloadTimerExpiry ..).trans (State.does_eq (expired.trans (if_pos held)))
  · have expired := Dev.idleTimedOut_armed (d := s.dev.begin) timer
    have unload := Dev.beginUnload_ready (d := s.dev.begin.modDrive c fun x => { x with idleTimer := none }) (c := c)
      (by rw [Dev.drive_modDrive]; exact ready) (by rw [Dev.drive_modDrive]; exact idle) none
    exact (exec_idleUnloadTimerExpiry ..).trans
      (State.does_eq ((expired.trans (if_neg (by rw [Dev.begin_mqu, free]; nofun))).trans unload))

end Sys2Proof.Machine
end

section
/-! The wait list (R78, R80, R83): the handle an open is given, and what an open that is offered leaves. -/

namespace Sys2Proof.Machine

/-! ### Handles (R78) -/

/-- R78: the handle after a handle, stepping from 254 to 1. -/
def stepHandle (n : Nat) : Nat := if n = 254 then 1 else n + 1

/-- R78: the handles from `n` on are distinct until they come round. -/
theorem iterate_stepHandle {n : Nat} (range : 1 ≤ n ∧ n ≤ 254) (k : Nat) : stepHandle^[k] n = (n - 1 + k) % 254 + 1 := by
  induction k with
  | zero => simp only [Function.iterate_zero, id]; omega
  | succ k ih => rw [Function.iterate_succ_apply', ih, stepHandle]; split <;> omega

/-- The handles that sessions and waiting opens hold. -/
def Dev.handles (d : Dev) : List Nat :=
  ((d.sess .ch0).map (·.handle)).toList ++ ((d.sess .ch1).map (·.handle)).toList ++ d.waitList.map (·.handle)

theorem Dev.mem_handles_of_held {d : Dev} {n : Nat} (held : d.handleHeld n = true) : n ∈ d.handles := by
  obtain session | waiting := Bool.or_eq_true_iff.mp held
  · have named (c : Chan) (any : (d.sess c).any (·.handle = n) = true) : n ∈ ((d.sess c).map (·.handle)).toList := by
      cases sess : d.sess c <;> simp_all
    unfold Dev.sessionOf at session
    split at session
    · next zero => simp [Dev.handles, named .ch0 zero]
    · split at session
      · next one => simp [Dev.handles, named .ch1 one]
      · simp at session
  · simpa [Dev.handles] using .inr (.inr (by simpa using waiting))

theorem Dev.length_handles (d : Dev) : d.handles.length ≤ 2 + d.waitList.length := by
  have one (c : Chan) : ((d.sess c).map (·.handle)).toList.length ≤ 1 := by cases d.sess c <;> simp
  have zero := one .ch0
  have one := one .ch1
  simp only [Dev.handles, List.length_append, List.length_map]
  omega

/-- R78: of eleven handles on end one is free, for two sessions and eight opens hold ten at most. -/
theorem Dev.exists_free_handle {d : Dev} {n : Nat} (range : 1 ≤ n ∧ n ≤ 254) (room : d.waitList.length ≤ Config.maxWaiting) :
    ∃ k, k < 11 ∧ d.handleHeld (stepHandle^[k] n) = false := by
  by_contra all
  push Not at all
  have distinct : Set.InjOn (fun k => stepHandle^[k] n) (Finset.range 11) := by
    intro a ha b hb same
    simp only [Finset.coe_range, Set.mem_Iio, iterate_stepHandle range] at ha hb same
    omega
  have within : ∀ k ∈ Finset.range 11, stepHandle^[k] n ∈ d.handles.toFinset := fun k hk =>
    List.mem_toFinset.mpr (Dev.mem_handles_of_held (by simpa using all k (Finset.mem_range.mp hk)))
  have count := Finset.card_le_card_of_injOn _ within distinct
  have total := d.handles.toFinset_card_le
  have length := d.length_handles
  simp only [Finset.card_range, Config.maxWaiting] at count room
  omega

/-- R78: the search ends at the first handle that is free, when it comes to one. -/
theorem Dev.handleFrom_free {d : Dev} {k : Nat} : ∀ {fuel n : Nat}, k < fuel → d.handleHeld (stepHandle^[k] n) = false →
    ∃ j, d.handleFrom fuel n = stepHandle^[j] n ∧ d.handleHeld (stepHandle^[j] n) = false := by
  induction k with
  | zero =>
    rintro (_ | fuel) n lt free
    · omega
    · exact ⟨0, if_neg (by rw [show d.handleHeld n = false from free]; nofun), free⟩
  | succ k ih =>
    rintro (_ | fuel) n lt free
    · omega
    · by_cases held : d.handleHeld n = true
      · obtain ⟨j, found, unheld⟩ := ih (fuel := fuel) (n := stepHandle n) (by omega) free
        exact ⟨j + 1, (if_pos held).trans found, unheld⟩
      · exact ⟨0, if_neg held, by simpa using held⟩

/-- R78: the handle an open is given. -/
theorem Dev.handleFrom_spec {d : Dev} {n : Nat} (range : 1 ≤ n ∧ n ≤ 254) (room : d.waitList.length ≤ Config.maxWaiting) :
    (1 ≤ d.handleFrom 11 n ∧ d.handleFrom 11 n ≤ 254) ∧ d.handleHeld (d.handleFrom 11 n) = false := by
  obtain ⟨k, lt, free⟩ := Dev.exists_free_handle range room
  obtain ⟨j, found, unheld⟩ := Dev.handleFrom_free lt free
  rw [found]
  refine ⟨?_, unheld⟩
  rw [iterate_stepHandle range]
  omega

/-! ### The offer (R80, R83) -/

theorem Dev.mem_push_of_mem {d : Dev} {t u : Todo} (h : t ∈ d.todo) : t ∈ (d.push u).todo := by
  rw [Dev.push_todo]; split <;> simp [h]

theorem Dev.zeroWait_waiting {d : Dev} {n : Nat} {w : WaitEntry} (found : d.waitList.find? (fun w => w.handle = n) = some w) :
    d.zeroWait n = (d.unlist w).answer w.req .busy := by
  rw [Dev.zeroWait, found]

/-- The set that an open names is in use. -/
def Dev.useSet (d : Dev) (k : Option SetIx) (h : Nat) : Dev :=
  match k with
  | some k => d.setInUse k (some h)
  | none => d

theorem Dev.useSet_frame (d : Dev) (k : Option SetIx) (h : Nat) : d.TablesOnly (d.useSet k h) := by
  cases k with
  | none => exact .refl d
  | some k => exact .setInUse ..

theorem Dev.set?_useSet (d : Dev) (k : Option SetIx) (h : Nat) (j : SetIx) : (d.useSet k h).set? j =
    if k = some j then (d.set? j).map fun y => { y with inUse := some h } else d.set? j := by
  cases k with
  | none => rfl
  | some k =>
    rw [show d.useSet (some k) h = d.setInUse k (some h) from rfl, Dev.set?_setInUse]
    by_cases same : j = k
    · rw [if_pos same, if_pos (congrArg some same.symm), same]
    · rw [if_neg same, if_neg fun h => same (Option.some.inj h).symm]

/-- The device once an open has joined the wait list, before what follows is listed. -/
def Dev.listed (d : Dev) (r : ReqId) (k : OpenKind) (needed : Option CartIx) (h : Nat) : Dev :=
  ({ d with
    nextHandle := stepHandle h
    waitList := d.waitList ++ [{ req := r, handle := h, kind := k, needed := needed
                                 timer := if d.cfg.openWait = 0 then none else some (d.cfg.openWait * 1000) }] } : Dev).useSet k.set? h

section Offered
variable {d : Dev} (r : ReqId) (k : OpenKind) (needed : Option CartIx)

theorem Dev.offerOpen_absent (absent : (d.drive .ch0).state = .absent ∧ (d.drive .ch1).state = .absent) :
    d.offerOpen r k needed = d.answer r .fault := if_pos absent

variable (present : ¬ ((d.drive .ch0).state = .absent ∧ (d.drive .ch1).state = .absent))
include present

theorem Dev.offerOpen_full (full : Config.maxWaiting ≤ d.waitList.length) : d.offerOpen r k needed = d.answer r .busy :=
  (if_neg present).trans (if_pos full)

theorem Dev.offerOpen_room (room : d.waitList.length < Config.maxWaiting) : d.offerOpen r k needed =
    (d.listed r k needed (d.handleFrom 11 d.nextHandle)).pushAll
      (.grantRule :: if d.cfg.openWait = 0 then [.zeroWait (d.handleFrom 11 d.nextHandle)] else []) := by
  let h := d.handleFrom 11 d.nextHandle
  let e := (d.listed r k needed h).push .grantRule
  have cfg : e.cfg = d.cfg := (Dev.push_cfg ..).trans (Dev.useSet_frame ..).cfg
  have joined : d.offerOpen r k needed = if e.cfg.openWait = 0 then e.push (.zeroWait h) else e :=
    (if_neg present).trans (if_neg (Nat.not_le.mpr room))
  rw [joined, cfg]
  split <;> rfl

end Offered

theorem Dev.mem_pushAll {d : Dev} {t : Todo} {ts : List Todo} (h : t ∈ ts) : t ∈ (d.pushAll ts).todo := by
  have kept (ts : List Todo) (e : Dev) (old : t ∈ e.todo) : t ∈ (e.pushAll ts).todo := by
    induction ts generalizing e with
    | nil => exact old
    | cons u ts ih => exact ih _ (Dev.mem_push_of_mem old)
  induction ts generalizing d with
  | nil => cases h
  | cons u ts ih =>
    obtain rfl | h := List.mem_cons.mp h
    · exact kept ts _ (d.mem_push t)
    · exact ih h

@[simp] theorem Dev.useSet_cst (d : Dev) (k : Option SetIx) (h : Nat) : (d.useSet k h).cst = d.cst := by
  cases k <;> simp [Dev.useSet]
@[simp] theorem Dev.useSet_nextHandle (d : Dev) (k : Option SetIx) (h : Nat) : (d.useSet k h).nextHandle = d.nextHandle := by
  cases k <;> simp [Dev.useSet]
@[simp] theorem Dev.useSet_carts (d : Dev) (k : Option SetIx) (h : Nat) : (d.useSet k h).cat.carts = d.cat.carts := by
  cases k <;> simp [Dev.useSet]

section Listed
variable (d : Dev) (r : ReqId) (k : OpenKind) (needed : Option CartIx) (h : Nat)

theorem Dev.set?_listed (j : SetIx) : (d.listed r k needed h).set? j =
    if k.set? = some j then (d.set? j).map fun y => { y with inUse := some h } else d.set? j := Dev.set?_useSet ..

/-- What an open that joins the list leaves as it was. -/
theorem Dev.listed_frame (ts : List Todo) : let e := (d.listed r k needed h).pushAll ts
    e.cat.carts = d.cat.carts ∧ e.cst = d.cst ∧ e.ch = d.ch ∧ e.mqu = d.mqu ∧ e.smc = d.smc ∧ e.pa = d.pa ∧ e.pb = d.pb ∧
      e.pp = d.pp := by
  have frame : Dev.TablesOnly _ (d.listed r k needed h) := Dev.useSet_frame ..
  simpa [Dev.listed] using And.intro frame.ch ⟨frame.mqu, frame.smc, frame.pa, frame.pb, frame.pp⟩

theorem Dev.listed_waitList : (d.listed r k needed h).waitList = d.waitList ++
    [{ req := r, handle := h, kind := k, needed := needed
       timer := if d.cfg.openWait = 0 then none else some (d.cfg.openWait * 1000) }] := (Dev.useSet_frame ..).waitList

end Listed

end Sys2Proof.Machine
end

section
/-! The grant rule (R81): the open and the drive it takes. -/

namespace Sys2Proof.Machine

/-! ### Drives in order -/

theorem find?_chans_eq_some {p : Chan → Bool} {c : Chan} :
    [Chan.ch0, .ch1].find? p = some c ↔ p c = true ∧ (c = .ch0 ∨ ¬ p .ch0 = true) := by
  cases zero : p .ch0 <;> cases one : p .ch1 <;> cases c <;> simp [List.find?, zero, one]

theorem find?_chans_eq_none {p : Chan → Bool} : [Chan.ch0, .ch1].find? p = none ↔ ∀ c, ¬ p c = true := by
  rw [List.find?_eq_none]
  exact ⟨fun none c => by cases c <;> simpa using none _ (by simp), fun none c _ => none c⟩

theorem Dev.find?_freeDrives (d : Dev) (p : Chan → Bool) :
    d.freeDrives.find? p = [Chan.ch0, .ch1].find? fun c => (d.drive c).isFree && p c := by
  simp only [Dev.freeDrives, List.find?_filter, Bool.decide_and, Bool.decide_eq_true]

theorem Dev.head?_freeDrives (d : Dev) : d.freeDrives.head? = [Chan.ch0, .ch1].find? fun c => (d.drive c).isFree :=
  List.head?_filter

/-! ### Step 1: the cartridge is mounted in a free drive -/

theorem Dev.blocked_iff (d : Dev) (v : WaitEntry) : d.blocked v = true ↔ ∃ i, v.needed = some i ∧ d.cartBusy i = true := by
  unfold Dev.blocked
  cases v.needed <;> simp

/-- R81: the open is not blocked, and its needed cartridge is mounted in the drive, which is free. -/
def Dev.fits (d : Dev) (v : WaitEntry) (k : Chan) : Prop :=
  ¬ d.blocked v = true ∧ (d.drive k).isFree = true ∧ ∃ i, v.needed = some i ∧ (d.drive k).mounted = .cart i

/-- R81: the free drive that holds what an open needs. -/
def Dev.mountedFor (d : Dev) (v : WaitEntry) : Option Chan :=
  if d.blocked v then none else v.needed.bind fun i => d.freeDrives.find? fun c => (d.drive c).mounted = .cart i

theorem Dev.mountedFor_eq (d : Dev) (v : WaitEntry) (unblocked : ¬ d.blocked v = true) : d.mountedFor v =
    [Chan.ch0, .ch1].find? fun c => (d.drive c).isFree && v.needed.any fun i => (d.drive c).mounted = .cart i := by
  rw [Dev.mountedFor, if_neg unblocked]
  cases v.needed with
  | none => simp
  | some i => exact d.find?_freeDrives _

theorem Dev.fits_iff {d : Dev} {v : WaitEntry} (unblocked : ¬ d.blocked v = true) (k : Chan) :
    ((d.drive k).isFree && v.needed.any fun i => (d.drive k).mounted = .cart i) = true ↔ d.fits v k := by
  simp [Dev.fits, unblocked, Option.any_eq_true]

theorem Dev.mountedFor_eq_some {d : Dev} {v : WaitEntry} {c : Chan} (here : d.fits v c) (lowest : c = .ch0 ∨ ¬ d.fits v .ch0) :
    d.mountedFor v = some c := by
  rw [Dev.mountedFor_eq d v here.1, find?_chans_eq_some, Dev.fits_iff here.1, Dev.fits_iff here.1]
  exact ⟨here, lowest⟩

theorem Dev.mountedFor_eq_none {d : Dev} {v : WaitEntry} (nowhere : ∀ k, ¬ d.fits v k) : d.mountedFor v = none := by
  by_cases unblocked : d.blocked v = true
  · exact if_pos unblocked
  · rw [Dev.mountedFor_eq d v unblocked, find?_chans_eq_none]
    exact fun k => (Dev.fits_iff unblocked k).not.mpr (nowhere k)

theorem Dev.grantMounted_eq (d : Dev) : d.grantMounted = d.waitList.findSome? fun v => (d.mountedFor v).map fun c => (v, c) := by
  unfold Dev.grantMounted
  congr 1
  funext v
  unfold Dev.mountedFor
  split
  · rfl
  · cases v.needed <;> rfl

theorem Dev.grantMounted_first {d : Dev} {pre post : List WaitEntry} {w : WaitEntry} {c : Chan} (list : d.waitList = pre ++ w :: post)
    (earlier : ∀ v ∈ pre, ∀ k, ¬ d.fits v k) (here : d.fits w c) (lowest : c = .ch0 ∨ ¬ d.fits w .ch0) :
    d.grantMounted = some (w, c) := by
  have none : pre.findSome? (fun v => (d.mountedFor v).map fun c => (v, c)) = none :=
    List.findSome?_eq_none_iff.mpr fun v mem => by rw [Dev.mountedFor_eq_none (earlier v mem)]; rfl
  rw [Dev.grantMounted_eq, list, List.findSome?_append, none, List.findSome?_cons, Dev.mountedFor_eq_some here lowest]
  rfl

theorem Dev.grantMounted_none {d : Dev} (nowhere : ∀ v ∈ d.waitList, ∀ k, ¬ d.fits v k) : d.grantMounted = none := by
  rw [Dev.grantMounted_eq]
  exact List.findSome?_eq_none_iff.mpr fun v mem => by rw [Dev.mountedFor_eq_none (nowhere v mem)]; rfl

/-! ### Steps 2 and 3: the oldest open -/

/-- R81: no other open needs what the drive's place holds. -/
def Dev.spares (d : Dev) (w : WaitEntry) (k : Chan) : Bool :=
  match d.occ (.drive k) with
  | .cart i => !(d.waitList.any fun v => v.handle ≠ w.handle && v.needed = some i)
  | _ => true

theorem Dev.spares_iff (d : Dev) (w : WaitEntry) (k : Chan) : d.spares w k = true ↔
    ∀ i, d.occ (.drive k) = .cart i → ∀ v ∈ d.waitList, v.handle ≠ w.handle → v.needed ≠ some i := by
  unfold Dev.spares
  split
  · next i holds => simp [holds]
  · next other => exact ⟨fun _ i holds => absurd holds (other i), fun _ => rfl⟩

/-- R81: the drive of the oldest open not blocked: a free one to spare, or else a free one. -/
theorem Dev.grantOldest_eq {d : Dev} {w : WaitEntry} (oldest : d.waitList.find? (fun v => !d.blocked v) = some w) :
    d.grantOldest = ((d.freeDrives.find? (d.spares w)).orElse fun _ => d.freeDrives.head?).map fun c => (w, c) := by
  have choose (o : Option Chan) : (match o with | some c => some (w, c) | none => none) = o.map fun c => (w, c) := by cases o <;> rfl
  unfold Dev.grantOldest
  rw [oldest]
  dsimp only
  rw [List.filter_congr (q := d.spares w), List.head?_filter]
  · exact choose _
  · exact fun _ _ => rfl

/-- R81: the oldest open not blocked is taken in arrival order. -/
theorem Dev.oldest_eq {d : Dev} {pre post : List WaitEntry} {w : WaitEntry} (list : d.waitList = pre ++ w :: post)
    (unblocked : ¬ d.blocked w = true) (earlier : ∀ v ∈ pre, d.blocked v = true) : d.waitList.find? (fun v => !d.blocked v) = some w :=
  List.find?_eq_some_iff_append.mpr ⟨by simpa using unblocked, pre, post, list, fun v mem => by simp [earlier v mem]⟩

/-- R81: a free drive whose place holds nothing another open needs. -/
def Dev.spareFor (d : Dev) (w : WaitEntry) (k : Chan) : Prop :=
  (d.drive k).isFree = true ∧ ∀ i, d.occ (.drive k) = .cart i → ∀ v ∈ d.waitList, v.handle ≠ w.handle → v.needed ≠ some i

theorem Dev.spareFor_iff (d : Dev) (w : WaitEntry) (k : Chan) :
    ((d.drive k).isFree && d.spares w k) = true ↔ d.spareFor w k := by
  rw [Bool.and_eq_true, Dev.spares_iff, Dev.spareFor]

section Oldest
variable {d : Dev} {w : WaitEntry} {c : Chan} (oldest : d.waitList.find? (fun v => !d.blocked v) = some w)
include oldest

theorem Dev.grantOldest_spare (spare : d.spareFor w c) (lowest : c = .ch0 ∨ ¬ d.spareFor w .ch0) : d.grantOldest = some (w, c) := by
  have found : d.freeDrives.find? (d.spares w) = some c := by
    rw [Dev.find?_freeDrives, find?_chans_eq_some, Dev.spareFor_iff, Dev.spareFor_iff]
    exact ⟨spare, lowest⟩
  rw [Dev.grantOldest_eq oldest, found]
  rfl

theorem Dev.grantOldest_free (none : ∀ k, ¬ d.spareFor w k) (free : (d.drive c).isFree = true)
    (lowest : c = .ch0 ∨ ¬ (d.drive .ch0).isFree = true) : d.grantOldest = some (w, c) := by
  have missing : d.freeDrives.find? (d.spares w) = .none := by
    rw [Dev.find?_freeDrives, find?_chans_eq_none]
    exact fun k => (d.spareFor_iff w k).not.mpr (none k)
  have found : d.freeDrives.head? = some c := by
    rw [Dev.head?_freeDrives, find?_chans_eq_some]
    exact ⟨free, lowest⟩
  rw [Dev.grantOldest_eq oldest, missing, found]
  rfl

end Oldest

/-! ### The rule -/

section Rule
variable {d : Dev} {w : WaitEntry} {c : Chan}

theorem Dev.grantRule_mounted (mounted : d.grantMounted = some (w, c)) : d.grantRule = (d.grantTo w c).pushFront [.grantRule] := by
  rw [Dev.grantRule, mounted]
  rfl

theorem Dev.grantRule_oldest (mounted : d.grantMounted = none) (oldest : d.grantOldest = some (w, c)) :
    d.grantRule = (d.grantTo w c).pushFront [.grantRule] := by
  rw [Dev.grantRule, mounted, oldest]
  rfl

theorem Dev.grantRule_idle (idle : (∀ k, (d.drive k).isFree = false) ∨ ∀ v ∈ d.waitList, d.blocked v = true) : d.grantRule = d := by
  have mounted : d.grantMounted = none := Dev.grantMounted_none fun v mem k ⟨unblocked, free, _⟩ =>
    idle.elim (fun none => by simp [none k] at free) (fun all => unblocked (all v mem))
  have oldest : d.grantOldest = none := by
    cases found : d.waitList.find? fun v => !d.blocked v with
    | none => rw [Dev.grantOldest, found]
    | some v =>
      obtain none | all := idle
      · have empty : d.freeDrives = [] := by simp [Dev.freeDrives, none]
        rw [Dev.grantOldest_eq found, empty]
        rfl
      · have unblocked := List.find?_some found
        simp [all v (List.mem_of_find?_eq_some found)] at unblocked
  rw [Dev.grantRule, mounted, oldest]
  rfl

end Rule

end Sys2Proof.Machine
end

section
/-! The grant (R82): the session an open begins with on its channel, and the cartridge it takes. -/

namespace Sys2Proof.Machine

/-! ### The session cartridge of a session that has none (R79) -/

/-- R79: the cartridge is claimed when it is mounted in the drive that the handle's session claims. -/
def Dev.claimHere (d : Dev) (c : Chan) (i : CartIx) (h : Nat) : Dev :=
  if ((d.drive c).mounted = .cart i ∧ ((d.drive c).state = .ready ∨ (d.drive c).state = .inserting)) ∧
    (d.drive c).claim = some h ∧ (d.cart i).any (·.claim.isNone) = true then d.setClaim i (some h) else d

theorem Dev.claimHere_frame (d : Dev) (c : Chan) (i : CartIx) (h : Nat) : d.TablesOnly (d.claimHere c i h) := by
  unfold Dev.claimHere
  split
  · exact .setClaim ..
  · exact .refl d

theorem Dev.claim_claimHere {d : Dev} {c : Chan} {i : CartIx} {h : Nat} (mounted : (d.drive c).mounted = .cart i)
    (state : (d.drive c).state = .ready ∨ (d.drive c).state = .inserting) (claim : (d.drive c).claim = some h)
    (unclaimed : (d.cart i).map (·.claim) = some none) : ((d.claimHere c i h).cart i).bind (·.claim) = some h := by
  obtain ⟨u, entry, free⟩ := Option.map_eq_some_iff.mp unclaimed
  rw [Dev.claimHere, if_pos ⟨⟨mounted, state⟩, claim, by simp [entry, free]⟩, Dev.cart_setClaim, if_pos rfl, entry]
  rfl

theorem Dev.setSessCart_first {d : Dev} {c : Chan} {x : Session} (held : d.sess c = some x) (none : x.cart = none) (i : CartIx) :
    d.setSessCart c i = ((d.modSess c fun y =>
      { y with cart := some i, yields := d.sessionCartOf i (some x.handle), noted := .none }).claimHere c i x.handle).look := by
  rw [Dev.setSessCart, held]
  simp only [none, reduceCtorEq, if_false]
  rfl

/-! ### The session an open begins with -/

/-- R78, R80: what a session takes from the open it begins with. -/
structure Session.Opens (w : WaitEntry) (x : Session) : Prop where
  handle : x.handle = w.handle
  owner : x.owner = w.req.port
  set : x.set = w.kind.set?
  openReq : x.openReq = some w.req
  openTimer : x.openTimer = w.timer

theorem Dev.newSession_opens (d : Dev) (w : WaitEntry) : (d.newSession w).Opens w ∧ (d.newSession w).cart = none := by
  unfold Dev.newSession
  cases kind : w.kind <;> exact ⟨⟨rfl, rfl, by rw [kind]; rfl, rfl, rfl⟩, rfl⟩

theorem Dev.newSession_verify (d : Dev) {w : WaitEntry} {k : SetIx} (kind : w.kind = .verify k) :
    (d.newSession w).kind = .verify {} := by simp only [Dev.newSession, kind]
theorem Dev.newSession_restore (d : Dev) {w : WaitEntry} {k : SetIx} {fs : List Nat} (kind : w.kind = .restore k fs) :
    (d.newSession w).kind = .restore { files := fs.map fun f => { file := f } } := by simp only [Dev.newSession, kind]

/-- R82: the open has left the list, its session stands on the channel and has no session cartridge yet, and the drive is claimed. -/
structure Dev.Seated (d : Dev) (w : WaitEntry) (c : Chan) (e : Dev) : Prop where
  waitList : e.waitList = d.waitList.filter fun v => v.handle ≠ w.handle
  drive : e.drive c = { d.drive c with claim := some w.handle, idleTimer := none }
  other : e.sess (otherChan c) = d.sess (otherChan c)
  sess : ∃ x, e.sess c = some x ∧ x.Opens w ∧ x.cart = none
  carts : e.cat.carts = d.cat.carts

/-- R82: the first steps of a grant, whatever the open is of. -/
def Dev.seat (d : Dev) (w : WaitEntry) (c : Chan) : Dev :=
  (({ d with waitList := d.waitList.filter fun v => v.handle ≠ w.handle } : Dev).setSess c (some (d.newSession w))).modDrive c fun x =>
    { x with claim := some w.handle, idleTimer := none }

theorem Dev.sess_seat (d : Dev) (w : WaitEntry) (c : Chan) : (d.seat w c).sess c = some (d.newSession w) :=
  (Dev.sess_modDrive ..).trans (Dev.sess_setSess ..)

theorem Dev.seat_seated (d : Dev) (w : WaitEntry) (c : Chan) : d.Seated w c (d.seat w c) where
  waitList := rfl
  drive := by rw [Dev.seat, Dev.drive_modDrive, Dev.drive_setSess]; rfl
  other := by cases c <;> rfl
  sess := ⟨_, d.sess_seat w c, d.newSession_opens w⟩
  carts := rfl

namespace Dev.Seated
variable {d e g : Dev} {w : WaitEntry} {c : Chan}

theorem modSess {f : Session → Session} (h : d.Seated w c e) (opens : ∀ x : Session, x.Opens w → (f x).Opens w)
    (cart : ∀ x, (f x).cart = x.cart) : d.Seated w c (e.modSess c f) where
  waitList := h.waitList
  drive := (Dev.drive_modSess ..).trans h.drive
  other := (Dev.sess_modSess_ne _ _ (by cases c <;> nofun)).trans h.other
  sess := by
    obtain ⟨x, held, opened, none⟩ := h.sess
    exact ⟨f x, by rw [Dev.sess_modSess, held]; rfl, opens x opened, (cart x).trans none⟩
  carts := h.carts

theorem modVerify {f : Verify → Verify} (h : d.Seated w c e) : d.Seated w c (e.modVerify c f) := by
  refine h.modSess (fun x opened => ?_) fun x => ?_ <;> split
  · exact ⟨opened.handle, opened.owner, opened.set, opened.openReq, opened.openTimer⟩
  · exact opened
  all_goals rfl

theorem modRestore {f : Restore → Restore} (h : d.Seated w c e) : d.Seated w c (e.modRestore c f) := by
  refine h.modSess (fun x opened => ?_) fun x => ?_ <;> split
  · exact ⟨opened.handle, opened.owner, opened.set, opened.openReq, opened.openTimer⟩
  · exact opened
  all_goals rfl

/-- A change of the set table alone. -/
theorem ofSets (h : d.Seated w c e) (frame : e.TablesOnly g) (carts : g.cat.carts = e.cat.carts) : d.Seated w c g where
  waitList := frame.waitList.trans h.waitList
  drive := (frame.drive c).trans h.drive
  other := (frame.sess _).trans h.other
  sess := by rw [frame.sess]; exact h.sess
  carts := carts.trans h.carts

end Dev.Seated

/-- R82: an open that has been granted a drive, and needs a cartridge. -/
structure Dev.Granted (d : Dev) (w : WaitEntry) (c : Chan) (i : CartIx) (e : Dev) : Prop where
  waitList : e.waitList = d.waitList.filter fun v => v.handle ≠ w.handle
  drive : e.drive c = { d.drive c with claim := some w.handle, idleTimer := none }
  follows : Todo.bring c ∈ e.todo
  other : e.sess (otherChan c) = d.sess (otherChan c)
  sess : ∃ x, e.sess c = some x ∧ x.Opens w ∧ x.cart = some i
  claimed : (d.cart i).map (·.claim) = some none → (d.drive c).mounted = .cart i →
    (d.drive c).state = .ready ∨ (d.drive c).state = .inserting → (e.cart i).bind (·.claim) = some w.handle

/-- R79, R82: the session takes its cartridge, and what brings it follows. -/
theorem Dev.Seated.takesCart {d e : Dev} {w : WaitEntry} {c : Chan} (h : d.Seated w c e) (i : CartIx) :
    d.Granted w c i ((e.setSessCart c i).push (.bring c)) := by
  obtain ⟨x, held, opened, none⟩ := h.sess
  let g := e.modSess c fun y => { y with cart := some i, yields := e.sessionCartOf i (some x.handle), noted := .none }
  rw [Dev.setSessCart_first held none]
  have frame : g.TablesOnly (((g.claimHere c i x.handle).look).push (.bring c)) :=
    ((Dev.claimHere_frame ..).trans (.foldl (fun d t => .push d t) _ _)).trans (.push ..)
  have drive : g.drive c = { d.drive c with claim := some w.handle, idleTimer := .none } := (Dev.drive_modSess ..).trans h.drive
  refine ⟨frame.waitList.trans h.waitList, (frame.drive c).trans drive, Dev.mem_push .., ?_, ?_, fun unclaimed mounted state => ?_⟩
  · exact (frame.sess _).trans ((Dev.sess_modSess_ne _ _ (by cases c <;> nofun)).trans h.other)
  · refine ⟨_, (frame.sess c).trans ((Dev.sess_modSess ..).trans (congrArg _ held)), ?_, rfl⟩
    exact ⟨opened.handle, opened.owner, opened.set, opened.openReq, opened.openTimer⟩
  · have claimed := Dev.claim_claimHere (d := g) (h := x.handle) (by rw [drive]; exact mounted) (by rw [drive]; exact state)
      (by rw [drive, opened.handle]) (by rw [Dev.cart_of_carts (show g.cat.carts = d.cat.carts from h.carts)]; exact unclaimed)
    rw [Dev.cart_push, Dev.cart_congr (Dev.look_cat _), claimed, opened.handle]

/-! ### The grant of each open -/

theorem Dev.startMediaWait_untimed (d : Dev) (c : Chan) : d.startMediaWait c false = (d, false) := rfl

section Granted
variable {d : Dev} {w : WaitEntry} {c : Chan} {i : CartIx} {k : SetIx} {y : BackupSet}

theorem Dev.setOf_seat (named : w.kind.set? = some k) (held : d.set? k = some y) : (d.seat w c).setOf (d.newSession w) = some (k, y) := by
  have set := (d.newSession_opens w).1.set.trans named
  have entry : (d.seat w c).set? k = some y := held
  simp only [Dev.setOf, set, entry, Option.map_some]

theorem Dev.grantTo_verify (kind : w.kind = .verify k) (held : d.set? k = some y)
    (first : (y.segment 1).map (·.cart) = some i) (toRead : y.locator ≠ none ∨ ∃ g ∈ y.segments, g.count ≠ 0) :
    d.Granted w c i (d.grantTo w c) := by
  obtain ⟨g, segment, rfl⟩ := Option.map_eq_some_iff.mp first
  have seat : d.grantTo w c = (d.seat w c).verifyGranted c := by simp only [Dev.grantTo, kind]; rfl
  have verify := Dev.verify?_eq_some.mpr ⟨d.sess_seat w c, d.newSession_verify kind⟩
  have setOf := Dev.setOf_seat (c := c) (by rw [kind]; rfl) held
  have notEmpty : ¬ (y.locator.isNone = true ∧ y.segments.all (fun g => g.count = 0) = true) := by
    rintro ⟨none, zero⟩
    obtain index | ⟨g, mem, data⟩ := toRead
    · exact index (Option.isNone_iff_eq_none.mp none)
    · exact data (by simpa using List.all_eq_true.mp zero g mem)
  have waits : (d.seat w c).verifyGranted c =
      (((d.seat w c).modVerify c fun v => { v with state := .waitMedia, at_ := 0 }).setSessCart c g.cart).push (.bring c) := by
    simp only [Dev.verifyGranted, verify, setOf, if_neg notEmpty, Dev.verifyWait, Option.bind_some, segment, Dev.startMediaWait_untimed]
  rw [seat, waits]
  exact (d.seat_seated w c).modVerify.takesCart _

theorem Dev.grantTo_restore {fs : List Nat} (kind : w.kind = .restore k fs) (held : d.set? k = some y)
    (index : y.locator.map (·.cart) = some i) : d.Granted w c i (d.grantTo w c) := by
  obtain ⟨l, locator, rfl⟩ := Option.map_eq_some_iff.mp index
  have seat : d.grantTo w c = (d.seat w c).restoreGranted c := by simp only [Dev.grantTo, kind]; rfl
  have restore := Dev.restore?_eq_some.mpr ⟨d.sess_seat w c, d.newSession_restore kind⟩
  have setOf := Dev.setOf_seat (c := c) (by rw [kind]; rfl) held
  have waits : (d.seat w c).restoreGranted c =
      (((d.seat w c).modRestore c fun r => { r with state := .waitMedia }).setSessCart c l.cart).push (.bring c) := by
    simp only [Dev.restoreGranted, d.sess_seat w c, Option.bind_some, setOf, locator, Dev.restoreWait, restore,
      Dev.startMediaWait_untimed]
  rw [seat, waits]
  exact (d.seat_seated w c).modRestore.takesCart _

theorem Dev.grantTo_append {pool expiry : Nat} {va : Bool} (kind : w.kind = .append k pool expiry va) (held : d.set? k = some y)
    (fits : d.appendFits y = true) (last : y.lastSegment.map (·.cart) = some i) : d.Granted w c i (d.grantTo w c) := by
  obtain ⟨g, segment, rfl⟩ := Option.map_eq_some_iff.mp last
  have seat : d.grantTo w c = (d.seat w c).grantAppend c k := by simp only [Dev.grantTo, kind]; rfl
  have entry : (d.seat w c).set? k = some y := held
  have same : (d.seat w c).appendFits y = true := fits
  have takes : (d.seat w c).grantAppend c k = ((d.seat w c).setSessCart c g.cart).push (.bring c) := by
    simp only [Dev.grantAppend, entry, same, if_true, segment]
  rw [seat, takes]
  exact (d.seat_seated w c).takesCart _

theorem Dev.grantTo_rebuild (kind : w.kind = .rebuild i) (unused : ∀ k ∈ d.liveSetsOn i, ∀ y, d.set? k = some y → y.inUse = none) :
    d.Granted w c i (d.grantTo w c) := by
  have seat : d.grantTo w c = (d.seat w c).grantRebuild c i w.handle := by simp only [Dev.grantTo, kind]; rfl
  let used := ((d.seat w c).liveSetsOn i).foldl (fun d k => d.setInUse k (some w.handle)) (d.seat w c)
  have idle : ¬ ((d.seat w c).liveSetsOn i).any (fun k => ((d.seat w c).set? k).any fun y => y.inUse.isSome) = true := by
    rw [List.any_eq_true]
    rintro ⟨k, mem, inUse⟩
    obtain ⟨y, held, some⟩ := Option.any_eq_true _ _ |>.mp inUse
    simp [unused k mem y held] at some
  have takes : (d.seat w c).grantRebuild c i w.handle = (used.setSessCart c i).push (.bring c) := if_neg idle
  have carts (l : List SetIx) (e : Dev) : (l.foldl (fun d k => d.setInUse k (some w.handle)) e).cat.carts = e.cat.carts := by
    induction l generalizing e with
    | nil => rfl
    | cons k l ih => exact (ih _).trans (Dev.setInUse_carts ..)
  rw [seat, takes]
  exact ((d.seat_seated w c).ofSets (.foldl (fun d k => .setInUse d k _) _ _) (carts _ _)).takesCart i

end Granted

end Sys2Proof.Machine
end

section
/-! The arbiter's obligation (R78, R80 to R83). -/

namespace Sys2Proof.Machine

/-- Settles O13: the offers (`Dev.offerOpen_room`), the rule (`Dev.grantMounted_first`, `Dev.grantOldest_spare`, `Dev.grantOldest_free`)
and the grant of each open (`Dev.Granted`). -/
theorem offeredOpenJoinsTheWaitList : Obligations.OfferedOpenJoinsTheWaitList := by
  refine ⟨fun d r k needed => ?_, fun d pre post w c list => ?_, fun d w c i _ kinds => ?_⟩
  · intro absent
    refine ⟨Dev.offerOpen_absent r k needed, Dev.offerOpen_full r k needed, ?_⟩
    intro h
    refine ⟨fun low high => Dev.handleFrom_spec ⟨low, high⟩, fun g w found => Dev.zeroWait_waiting found, fun present room => ?_⟩
    rw [Dev.offerOpen_room r k needed present room]
    intro e
    have sets (i : SetIx) : e.set? i = _ := (Dev.set?_congr (Dev.pushAll_cat ..) i).trans (Dev.set?_listed d r k needed h i)
    refine ⟨?_, Dev.mem_pushAll (List.mem_cons_self ..), fun zero => Dev.mem_pushAll ?_, ?_, fun i x named held => ?_, fun i other => ?_,
      Dev.listed_frame ..⟩
    · exact (Dev.pushAll_waitList ..).trans (Dev.listed_waitList ..)
    · rw [if_pos zero]; exact List.mem_cons_of_mem _ (List.mem_singleton_self _)
    · exact (Dev.pushAll_nextHandle ..).trans (Dev.useSet_nextHandle ..)
    · rw [sets, if_pos named, held]; rfl
    · rw [sets, if_neg other]
  · intro blocked fits spare lowest granted
    have isBlocked (v : WaitEntry) : blocked v ↔ d.blocked v = true := (d.blocked_iff v).symm
    have isFit (v : WaitEntry) (k : Chan) : fits v k ↔ d.fits v k := and_congr_left' (isBlocked v).not
    refine ⟨fun ⟨here, least⟩ earlier => ?_, fun nowhere unblocked earlier => ?_, fun idle => ?_⟩
    · exact Dev.grantRule_mounted (Dev.grantMounted_first list (fun v mem k => (isFit v k).not.mp (earlier v mem k))
        ((isFit w c).mp here) (least.imp_right (isFit w .ch0).not.mp))
    · have mounted := Dev.grantMounted_none fun v mem k => (isFit v k).not.mp (nowhere v mem k)
      have oldest := Dev.oldest_eq list ((isBlocked w).not.mp unblocked) fun v mem => (isBlocked v).mp (earlier v mem)
      exact ⟨fun ⟨here, least⟩ => Dev.grantRule_oldest mounted (Dev.grantOldest_spare oldest here least),
        fun none ⟨free, least⟩ => Dev.grantRule_oldest mounted (Dev.grantOldest_free oldest none free least)⟩
    · exact Dev.grantRule_idle (idle.imp_right fun all v mem => (isBlocked v).mp (all v mem))
  · have granted : d.Granted w c i (d.grantTo w c) := by
      obtain ⟨k, y, held, ⟨kind, first, toRead⟩ | ⟨fs, kind, index⟩ | ⟨pool, expiry, va, kind, fits, last⟩⟩ | ⟨kind, unused⟩ := kinds
      · exact Dev.grantTo_verify kind held first toRead
      · exact Dev.grantTo_restore kind held index
      · exact Dev.grantTo_append kind held fits last
      · exact Dev.grantTo_rebuild kind unused
    obtain ⟨x, held, opened, cart⟩ := granted.sess
    intro e
    refine ⟨granted.waitList, ?_, ?_, ?_, granted.follows, granted.other,
      ⟨x, held, opened.handle, opened.owner, opened.set, cart, opened.openReq, opened.openTimer⟩, granted.claimed⟩
    all_goals rw [granted.drive]

end Sys2Proof.Machine
end

section
/-! The panel's movement requests (R101, R103, R107, R110 to R112, R187): how each reaches its operation, and what that answers. -/

namespace Sys2Proof.Machine

/-! ### The admission of orders (R92) -/

/-- R92: an order that is no scan, and that no LOAD of its cartridge waits for, is admitted by its cartridge and the queue's room alone. -/
theorem Dev.offerOrder_unmet {d : Dev} {o : Order} (move : o.kind ≠ .scan) (unmet : d.waitingLoad o = none) :
    d.offerOrder o = d.admitOrder o := by
  unfold Dev.offerOrder
  rw [if_neg fun scan => move scan.1, unmet]

theorem Dev.admitOrder_refused {d : Dev} {o : Order} (full : d.cartNamed o = true ∨ 16 ≤ d.mqu.queue.length) :
    d.admitOrder o = (d, .busy) := if_pos full

theorem Dev.admitOrder_taken {d : Dev} {o : Order} (fresh : d.cartNamed o = false) (room : d.mqu.queue.length < 16) :
    d.admitOrder o = ((d.modMqu fun m => { m with queue := m.queue ++ [o] }).push .send, .taken) :=
  if_neg (not_or.mpr ⟨by simp [fresh], Nat.not_le.mpr room⟩)

/-- Settles O29: an offer that meets no waiting LOAD is an admission, by the cartridge it names and the room there is. -/
theorem moveQueueAdmitsSixteenOrders : Obligations.MoveQueueAdmitsSixteenOrders := by
  intro d o move unmet
  rw [Dev.offerOrder_unmet move unmet]
  refine ⟨Dev.admitOrder_refused, fun fresh room => ?_⟩
  rw [Dev.admitOrder_taken fresh room]
  exact ⟨rfl, rfl⟩

/-! ### From `exec` to the operation -/

theorem exec_importCarts (f : Req) (s : State) : exec (.importCarts f) s = execImportCarts f s := by rfl
theorem exec_exportCart (f : Req) (s : State) : exec (.exportCart f) s = execExportCart f s := by rfl
theorem exec_relocate (f : Req) (s : State) : exec (.relocate f) s = execRelocate f s := by rfl
theorem exec_inventory (f : Req) (s : State) : exec (.inventory f) s = execInventory f s := by rfl
theorem exec_stopResume (f : Req) (s : State) : exec (.stopResume f) s = execStopResume f s := by rfl

/-- A request of the panel group, in the form of its kind, that port P takes: its own meaning on the device it has joined. -/
theorem State.does_panel {α : Type} {s : State} {f : Req} {x : α} {parsed : Option α} (k : ReqKind) (act : ReqId → α → Dev → Dev)
    (takes : s.dev.takes f) (panel : f.port = .P) (form : parsed = some x) :
    s.does (fun d => d.arrive f k fun r d => d.withForm r parsed fun x d => d.panelOnly r (act r x)) =
      .next { s with dev := (act (s.dev.begin.newReq f k) x (s.dev.begin.joined f k)).finish } := by
  rw [State.does_arrive k _ takes, form, Dev.withForm_some, Dev.panelOnly_panel _ _ _ (by rw [Dev.newReq_port, panel])]

theorem Dev.unlessHeld_held {d : Dev} (held : d.mqu.holdPower = true) (r : ReqId) (k : Dev → Dev) :
    d.unlessHeld r k = d.answer r .held := if_pos held
theorem Dev.unlessHeld_free {d : Dev} (free : d.mqu.holdPower = false) (r : ReqId) (k : Dev → Dev) : d.unlessHeld r k = k d :=
  if_neg (by simp [free])

section Taken
variable {s : State} {f : Req} (takes : s.dev.takes f) (panel : f.port = .P)
include takes panel

theorem exec_importCarts_taken {x : Unit} (form : parseNone f.payload = some x) :
    exec (.importCarts f) s = .next { s with dev := ((s.dev.begin.joined f .importCarts).unlessHeld (s.dev.begin.newReq f .importCarts)
      fun d => (d.answer (s.dev.begin.newReq f .importCarts) .ok).startImport).finish } :=
  (exec_importCarts f s).trans
    (State.does_panel .importCarts (fun r _ d => d.unlessHeld r fun d => (d.answer r .ok).startImport) takes panel form)

theorem exec_inventory_taken {x : Unit} (form : parseNone f.payload = some x) :
    exec (.inventory f) s = .next { s with dev := ((s.dev.begin.joined f .inventory).unlessHeld (s.dev.begin.newReq f .inventory)
      fun d => (d.answer (s.dev.begin.newReq f .inventory) .ok).startInventory).finish } :=
  (exec_inventory f s).trans
    (State.does_panel .inventory (fun r _ d => d.unlessHeld r fun d => (d.answer r .ok).startInventory) takes panel form)

theorem exec_exportCart_taken {l : Label} (form : parseLabel f.payload = some l) :
    exec (.exportCart f) s = .next { s with dev := ((s.dev.begin.joined f .exportCart).unlessHeld (s.dev.begin.newReq f .exportCart)
      fun d => d.exportLabel (s.dev.begin.newReq f .exportCart) l).finish } :=
  (exec_exportCart f s).trans
    (State.does_panel .exportCart (fun r l d => d.unlessHeld r fun d => d.exportLabel r l) takes panel form)

theorem exec_relocate_taken {q : Label × Nat} (form : parseRelocate f.payload = some q) :
    exec (.relocate f) s = .next { s with dev := ((s.dev.begin.joined f .relocate).unlessHeld (s.dev.begin.newReq f .relocate)
      fun d => d.relocate (s.dev.begin.newReq f .relocate) q.1 q.2).finish } :=
by
  rw [exec_relocate, execRelocate,
    State.does_panel .relocate (fun r q d => d.unlessHeld r fun d => d.relocate r q.1 q.2) takes panel form]

theorem exec_stopResume_taken (form : parseNone f.payload = some ()) :
    exec (.stopResume f) s = .next { s with dev :=
      ((s.dev.begin.joined f .stopResume).resume (s.dev.begin.newReq f .stopResume)).finish } :=
  (exec_stopResume f s).trans (State.does_panel .stopResume (fun r _ d => d.resume r) takes panel form)

end Taken

/-- R103: a request that is carried out unless the power hold stands, under the power hold. -/
theorem Dev.takes_held {s : State} {f : Req} (takes : s.dev.takes f) (held : s.dev.mqu.holdPower = true) (k : ReqKind)
    (act : Dev → Dev) :
    (s.dev.begin.joined f k).unlessHeld (s.dev.begin.newReq f k) act = s.dev.begin.answered f k .held f.handle.toNat [] := by
  rw [Dev.unlessHeld_held (by rw [Dev.joined_mqu]; exact held), Dev.takes_answer k takes]

/-- Settles O5: each of the four requests that is in its form comes to `Dev.unlessHeld` first. -/
theorem powerHoldRefusesMovement : Obligations.PowerHoldRefusesMovement := by
  intro s f panel takes held p mem form
  simp only [List.mem_cons, List.not_mem_nil, or_false] at mem
  obtain rfl | rfl | rfl | rfl := mem <;> obtain ⟨x, parsed⟩ := Option.isSome_iff_exists.mp form
  · rw [exec_importCarts_taken takes panel parsed, Dev.takes_held takes held]
  · rw [exec_exportCart_taken takes panel parsed, Dev.takes_held takes held]
  · rw [exec_relocate_taken takes panel parsed, Dev.takes_held takes held]
  · rw [exec_inventory_taken takes panel parsed, Dev.takes_held takes held]

/-! ### EXPORT and RELOCATE (R111, R112) -/

section Named
variable {d : Dev} {r : ReqId} {l : Label} {i : CartIx} (named : d.byLabel l = some i) (idle : d.cartBusy i = false)
include named idle

theorem Dev.exportLabel_slot {n : Fin 24} (lies : (d.cart i).bind (·.location) = some (.slot n)) : d.exportLabel r l =
    d.offerForPanel r { kind := .exporting, cart := .cart i, src := .slot n, reqs := [.panel r] } := by
  simp [Dev.exportLabel, named, idle, lies]

theorem Dev.exportLabel_mail {m : Fin 2} (lies : (d.cart i).bind (·.location) = some (.mail m)) : d.exportLabel r l =
    (d.markExport (.mail m) (some i)).answer r .ok := by
  simp [Dev.exportLabel, named, idle, lies]

theorem Dev.exportLabel_drive {c : Chan} (lies : (d.cart i).bind (·.location) = some (.drive c))
    (state : (d.drive c).state = .ready ∨ (d.drive c).state = .inserting) (unclaimed : (d.drive c).claim = none)
    (stays : (d.drive c).unload = none) : d.exportLabel r l = d.beginUnload c (some (.panel r)) := by
  simp [Dev.exportLabel, named, idle, lies, Dev.exportFromDrive, state, unclaimed, stays]

/-- R112: checks 4 to 6 of a RELOCATE, the cartridge lying in a slot. -/
theorem Dev.relocateTo_lying {q : Place} (lies : (d.cart i).bind (·.location) = some q) (slot : ∀ c, q ≠ .drive c) (p : Place) :
    d.relocateTo r l p = if q = p then d.answer r .ok else if d.occ p ≠ .none then d.answer r .badState
      else d.offerForPanel r { kind := .relocate, cart := .cart i, src := q, dst := some p, reqs := [.panel r] } := by
  cases q with
  | drive c => exact absurd rfl (slot c)
  | _ => simp [Dev.relocateTo, named, idle, lies]

end Named

theorem Dev.relocate_slot {code : Nat} {p : Place} (coded : placeOfCode code = some p) (slot : ∀ c, p ≠ .drive c) (d : Dev) (r : ReqId)
    (l : Label) : d.relocate r l code = d.relocateTo r l p := by
  cases p with
  | drive c => exact absurd rfl (slot c)
  | _ => simp [Dev.relocate, coded]

/-- Settles O31: the cartridge is looked up on the device the request has joined, whose catalogue and drives are the old ones. -/
theorem exportAndRelocateOfferAnOrder : Obligations.ExportAndRelocateOfferAnOrder := by
  intro s f l i takes panel free named idle at_ e r e' r'
  have cat (k : ReqKind) : (s.dev.begin.joined f k).cat = s.dev.cat := Dev.joined_cat ..
  have named (k : ReqKind) : (s.dev.begin.joined f k).byLabel l = some i := (Dev.byLabel_congr (cat k) l).trans named
  have idle (k : ReqKind) : (s.dev.begin.joined f k).cartBusy i = false :=
    (Dev.cartBusy_congr (cat k) (Dev.joined_ch ..) i).trans idle
  have lying (k : ReqKind) {p : Place} (lies : at_ p) : ((s.dev.begin.joined f k).cart i).bind (·.location) = some p := by
    rw [Dev.cart_congr (cat k)]; exact lies
  have free (k : ReqKind) : (s.dev.begin.joined f k).mqu.holdPower = false := by rw [Dev.joined_mqu]; exact free
  refine ⟨fun form => ?_, fun code p q form coded toSlot lies fromSlot => ?_⟩
  · have drive (c : Chan) : e.drive c = s.dev.drive c := Dev.drive_of_ch (Dev.joined_ch s.dev.begin f .exportCart) c
    rw [exec_exportCart_taken takes panel form, Dev.unlessHeld_free (free _)]
    refine ⟨fun n lies => ?_, fun m lies => ?_, fun c lies state unclaimed stays => ?_⟩
    · rw [Dev.exportLabel_slot (named _) (idle _) (lying _ lies)]
    · rw [Dev.exportLabel_mail (named _) (idle _) (lying _ lies)]
    · rw [← drive] at state unclaimed stays
      rw [Dev.exportLabel_drive (named _) (idle _) (lying _ lies) state unclaimed stays]
  · have occ : e'.occ p = s.dev.occ p := congrArg PlaceRec.occ (Dev.place_of_cat (Dev.joined_cat s.dev.begin f .relocate) p)
    rw [exec_relocate_taken takes panel form, Dev.unlessHeld_free (free _), Dev.relocate_slot coded toSlot,
      Dev.relocateTo_lying (named _) (idle _) (lying _ lies) fromSlot]
    refine ⟨fun elsewhere empty => ?_, fun there => ?_⟩
    · rw [if_neg elsewhere, if_neg (not_not.mpr (occ.trans empty))]
    · rw [if_pos there, Dev.takes_answer .relocate takes]

end Sys2Proof.Machine
end

section
/-! The changer link's events (R94, R97 to R102, R105): a completion under the tag of the message outstanding, and the picker and settle
timers. -/

namespace Sys2Proof.Machine

/-! ### From `exec` to the event -/

theorem exec_moveCompletion (tag : Nat) (k : MoveKind) (s : State) :
    exec (.moveCompletion tag k) s = s.does fun d => d.moveCompleted tag k := by rfl
theorem exec_scanCompletion (tag : Nat) (k : ScanKind) (s : State) :
    exec (.scanCompletion tag k) s = s.does fun d => d.scanCompleted tag k := by rfl
theorem exec_changerStatusCompletion (tag : Nat) (answered : Bool) (s : State) :
    exec (.changerStatusCompletion tag answered) s = s.does fun d => d.changerStatusDone tag answered := by rfl
theorem exec_pickerTimerExpiry (s : State) : exec .pickerTimerExpiry s = s.does Dev.pickerTimedOut := by rfl
theorem exec_settleTimerExpiry (c : Chan) (s : State) : exec (.settleTimerExpiry c) s = s.does fun d => d.settled c := by rfl

/-! ### The message outstanding (R97) -/

/-- R97: no message is outstanding on the changer link, and the picker timer stops. -/
def Dev.messageEnded (d : Dev) : Dev := d.modMqu fun m => { m with sent := none, picker := none }

/-- R97: the message outstanding has ended: the send rule and a wanted STATUS follow. -/
def Dev.linkFree (d : Dev) : Dev := (d.push .send).push .changerStatus

section Completed
variable {d : Dev} {tag : Nat} {o : Order}

/-- R97: the changer waits for the completion of this message, and none is left over from before a RESET request. -/
def Dev.outstanding (d : Dev) (tag : Nat) (msg : ChangerMsg) : Prop := d.mqu.stale ≠ some tag ∧ d.mqu.sent = some ⟨tag, msg⟩

theorem Dev.changerCompletion_outstanding {msg : ChangerMsg} (awaits : d.outstanding tag msg) (k : ChangerMsg → Dev → Dev) :
    d.changerCompletion tag k = (k msg d.messageEnded).linkFree := by
  obtain ⟨fresh, sent⟩ := awaits
  simp only [Dev.changerCompletion, if_neg fresh, Dev.takeChanger, sent, if_true]
  rfl

theorem Dev.sentOrder_messageEnded (d : Dev) : d.messageEnded.sentOrder = d.sentOrder := rfl

theorem Dev.moveCompleted_move (awaits : d.outstanding tag .order) (sent : d.sentOrder = some o) (move : o.kind ≠ .scan) (k : MoveKind) :
    d.moveCompleted tag k = (d.messageEnded.applyMove o k).linkFree := by
  simp only [Dev.moveCompleted, Dev.changerCompletion_outstanding awaits, Dev.sentOrder_messageEnded, sent, if_neg move]

theorem Dev.scanCompleted_scan (awaits : d.outstanding tag .order) (sent : d.sentOrder = some o) (scan : o.kind = .scan) (k : ScanKind) :
    d.scanCompleted tag k = (d.messageEnded.applyScan o k).linkFree := by
  simp only [Dev.scanCompleted, Dev.changerCompletion_outstanding awaits, Dev.sentOrder_messageEnded, sent, if_pos scan]

theorem Dev.changerStatusDone_status (awaits : d.outstanding tag .status) (answered : Bool) :
    d.changerStatusDone tag answered = (d.messageEnded.changerAnswered answered).linkFree := by
  rw [Dev.changerStatusDone, Dev.changerCompletion_outstanding awaits]

end Completed

section Taken
variable {s : State} {tag : Nat} {o : Order}

theorem exec_moveCompletion_taken (awaits : s.dev.begin.outstanding tag .order) (sent : s.dev.sentOrder = some o) (move : o.kind ≠ .scan)
    (k : MoveKind) : exec (.moveCompletion tag k) s =
      .next { s with dev := (s.dev.begin.messageEnded.applyMove o k).linkFree.finish } := by
  rw [exec_moveCompletion, State.does, Dev.moveCompleted_move awaits sent move]

theorem exec_scanCompletion_taken (awaits : s.dev.begin.outstanding tag .order) (sent : s.dev.sentOrder = some o) (scan : o.kind = .scan)
    (k : ScanKind) : exec (.scanCompletion tag k) s =
      .next { s with dev := (s.dev.begin.messageEnded.applyScan o k).linkFree.finish } := by
  rw [exec_scanCompletion, State.does, Dev.scanCompleted_scan awaits sent scan]

theorem exec_changerStatusCompletion_taken (awaits : s.dev.begin.outstanding tag .status) (answered : Bool) :
    exec (.changerStatusCompletion tag answered) s =
      .next { s with dev := (s.dev.begin.messageEnded.changerAnswered answered).linkFree.finish } := by
  rw [exec_changerStatusCompletion, State.does, Dev.changerStatusDone_status awaits]

end Taken

/-! ### MOVE completions (R98 to R100) -/

/-- R99: what a TO_OCCUPIED leaves of the destination, that is looked at again. -/
def Dev.foundOccupied (d : Dev) (p : Place) : Dev :=
  ((if d.occ p = .none then d.setOcc p .unregistered else d).setConfirmed p false).checkPlace p

section Moved
variable {o : Order} {p : Place} (dest : o.dst = some p) (d : Dev)
include dest

theorem Dev.applyMove_ok : d.applyMove o .ok = d.moveDone o p := by
  simp only [Dev.applyMove, dest]

/-- R100: the order in flight fails with an unclear outcome at both its places. -/
theorem Dev.orderFault_dest : d.orderFault o =
    (((d.setConfirmed o.src false).setConfirmed p false).failOrder o .fault).changerFault := by
  simp only [Dev.orderFault, Dev.doubt, dest]

theorem Dev.applyMove_toOccupied : d.applyMove o .toOccupied =
    if (o.kind = .unload ∨ o.kind = .importing ∨ o.kind = .exporting) ∧ o.retry < 2 then (d.foundOccupied p).requeue o (o.retry + 1)
    else (d.foundOccupied p).failOrder o .badState := by
  simp only [Dev.applyMove, dest]
  rfl

end Moved

/-- Settles O33: the completion is taken (`Dev.moveCompleted_move`), and each of its kinds is one arm of `Dev.applyMove`. -/
theorem moveCompletionAppliesTheOrder : Obligations.MoveCompletionAppliesTheOrder := by
  intro s tag o p fresh sent order move dest e gives
  have awaits : s.dev.begin.outstanding tag .order := ⟨fresh, sent⟩
  have taken {k : MoveKind} {d : Dev} (applied : e.applyMove o k = d) : gives k d := by
    subst applied
    exact exec_moveCompletion_taken awaits order move k
  refine ⟨taken (e.applyMove_ok dest), taken rfl, ⟨fun again => taken ?_, fun last => taken ?_⟩, taken (e.orderFault_dest dest),
    taken rfl⟩
  · rw [Dev.applyMove_toOccupied dest, if_pos again]; rfl
  · rw [Dev.applyMove_toOccupied dest, if_neg last]; rfl

/-! ### STATUS answers (R102, R105) -/

section Answered
variable {d : Dev}

theorem Dev.changerAnswered_ready (unasked : d.mqu.clearReq = none) :
    d.changerAnswered true = (d.modMqu fun m => { m with changer := .ready }).push .send := by
  simp [Dev.changerAnswered, unasked]

theorem Dev.changerAnswered_notReady (unasked : d.mqu.clearReq = none) (sound : d.mqu.changer ≠ .fault) :
    d.changerAnswered false = d.changerFault := by
  simp [Dev.changerAnswered, unasked, sound]

/-- R105: the changer is READY again, and its hold and the CLEAR_FAULT are gone. -/
def Dev.changerCleared (d : Dev) : Dev := d.modMqu fun m => { m with clearReq := none, changer := .ready, holdFault := false }

theorem Dev.changerAnswered_cleared {r : ReqId} (asked : d.mqu.clearReq = some r) : d.changerAnswered true =
    (((allSlots.filter fun p => !d.changerCleared.confirmed p).foldl (fun d p => d.joinScan false p) d.changerCleared).answer r .ok).push
      .send := by
  simp only [Dev.changerAnswered, asked]
  rfl

theorem Dev.changerAnswered_uncleared {r : ReqId} (asked : d.mqu.clearReq = some r) :
    d.changerAnswered false = (d.modMqu fun m => { m with clearReq := none }).answer r .fault := by
  simp [Dev.changerAnswered, asked]

/-- R100, R102: the picker timer expires while a message is outstanding. -/
theorem Dev.pickerTimedOut_order {t : Nat} {o : Order} (armed : d.mqu.picker ≠ none) (sent : d.mqu.sent = some ⟨t, .order⟩)
    (order : d.sentOrder = some o) : d.pickerTimedOut = (d.messageEnded.orderFault o).linkFree := by
  have same : d.messageEnded.sentOrder = some o := order
  simp only [Dev.messageEnded] at same
  simp only [Dev.pickerTimedOut, Option.isNone_iff_eq_none, if_neg armed, sent, same]
  rfl

theorem Dev.pickerTimedOut_status {t : Nat} (armed : d.mqu.picker ≠ none) (sent : d.mqu.sent = some ⟨t, .status⟩) :
    d.pickerTimedOut = (d.messageEnded.changerAnswered false).linkFree := by
  simp only [Dev.pickerTimedOut, Option.isNone_iff_eq_none, if_neg armed, sent]
  rfl

theorem Dev.settled_armed {c : Chan} (armed : d.mqu.settle.get c ≠ none) : d.settled c =
    (d.modMqu fun m => { m with settle := m.settle.set c none, settled := m.settled.set c true }).push .send := by
  rw [Dev.settled, if_pos (Option.isSome_iff_ne_none.mpr armed)]

end Answered

/-- Settles O36: the message ends, and a STATUS that was outstanding is taken by `Dev.changerAnswered` in each of its cases. -/
theorem changerStatusAndTimersAreTaken : Obligations.ChangerStatusAndTimersAreTaken := by
  refine ⟨fun s tag fresh sent => ?_, fun s armed => ⟨fun t o sent order => ?_, fun t sent => ?_⟩, fun s c armed => ?_⟩
  · intro e
    have awaits : s.dev.begin.outstanding tag .status := ⟨fresh, sent⟩
    have taken {answered : Bool} {d : Dev} (ended : e.changerAnswered answered = d) :
        exec (.changerStatusCompletion tag answered) s = .next { s with dev := d.linkFree.finish } := by
      subst ended
      exact exec_changerStatusCompletion_taken awaits answered
    exact ⟨fun unasked => taken (Dev.changerAnswered_ready unasked),
      fun unasked sound => taken (Dev.changerAnswered_notReady unasked sound),
      fun r asked => taken (Dev.changerAnswered_cleared asked), fun r asked => taken (Dev.changerAnswered_uncleared asked)⟩
  · rw [exec_pickerTimerExpiry, State.does, Dev.pickerTimedOut_order (d := s.dev.begin) armed sent order]
    rfl
  · rw [exec_pickerTimerExpiry, State.does, Dev.pickerTimedOut_status (d := s.dev.begin) armed sent]
    rfl
  · rw [exec_settleTimerExpiry, State.does, Dev.settled_armed (d := s.dev.begin) armed]

end Sys2Proof.Machine
end

section
/-! Places that become unconfirmed and the scan list (R2, R104, R106, R107, R110): what joining the list leaves as it was, and what the
starts of an inventory and of an import leave. -/

namespace Sys2Proof.Machine

/-! ### A place becomes unconfirmed (R2) -/

theorem mem_allSlots {p : Place} : p ∈ allSlots ↔ ∀ c, p ≠ .drive c := by
  cases p <;> simp [allSlots]
theorem mem_allPlaces (p : Place) : p ∈ allPlaces := by
  cases p with
  | drive c => cases c <;> simp [allPlaces]
  | _ => simp [allPlaces]

/-- R2: a place record whose occupant stands reads so at every place, the place being in the table or not. -/
theorem Dev.occ_setConfirmed_false (d : Dev) (p q : Place) : (d.setConfirmed p false).occ q = d.occ q := by
  simp only [Dev.occ, Dev.place, Dev.setConfirmed_cat, Dev.setPlace, Dev.modCat_cat]
  by_cases inside : placeCode p < d.cat.places.length
  · rw [getD_set_of_lt _ _ _ _ inside]
    split
    · next same => rw [same]
    · rfl
  · rw [List.set_eq_of_length_le (Nat.le_of_not_lt inside)]

theorem Dev.confirmed_setConfirmed_false (d : Dev) (p q : Place) :
    (d.setConfirmed p false).confirmed q = if q = p then false else d.confirmed q := by
  simp only [Dev.confirmed, Dev.place, Dev.setConfirmed_cat, Dev.setPlace, Dev.modCat_cat, ← placeCode_injective.eq_iff (a := q)]
  by_cases inside : placeCode p < d.cat.places.length
  · rw [getD_set_of_lt _ _ _ _ inside]
    split <;> rfl
  · rw [List.set_eq_of_length_le (Nat.le_of_not_lt inside)]
    split
    · next same => rw [same, List.getD, List.getElem?_eq_none (Nat.le_of_not_lt inside)]; rfl
    · rfl

/-- The second device differs from the first in places that became unconfirmed, slots that joined the scan list, and the follow-ups
alone. -/
structure Dev.Unconfirms (d e : Dev) : Prop where
  occ : ∀ p, e.occ p = d.occ p
  falls : ∀ p, d.confirmed p = false → e.confirmed p = false
  length : e.cat.places.length = d.cat.places.length
  carts : e.cat.carts = d.cat.carts
  sets : e.cat.sets = d.cat.sets
  mqu : e.mqu = { d.mqu with scanList := e.mqu.scanList }
  listed : ∀ p ∈ allSlots, p ∈ d.mqu.scanList → p ∈ e.mqu.scanList
  ch : e.ch = d.ch
  cfg : e.cfg = d.cfg
  smc : e.smc = d.smc
  cst : e.cst = d.cst
  waitList : e.waitList = d.waitList
  lines : e.lines = d.lines
  pa : e.pa = d.pa
  pb : e.pb = d.pb
  pp : e.pp = d.pp
  sent : e.sent = d.sent

namespace Dev.Unconfirms
variable {d e g : Dev}

theorem refl (d : Dev) : d.Unconfirms d := by constructor <;> simp

theorem trans (h : d.Unconfirms e) (k : e.Unconfirms g) : d.Unconfirms g where
  occ p := (k.occ p).trans (h.occ p)
  falls p unconfirmed := k.falls p (h.falls p unconfirmed)
  length := k.length.trans h.length
  carts := k.carts.trans h.carts
  sets := k.sets.trans h.sets
  mqu := by rw [k.mqu, h.mqu]
  listed p slot list := k.listed p slot (h.listed p slot list)
  ch := k.ch.trans h.ch
  cfg := k.cfg.trans h.cfg
  smc := k.smc.trans h.smc
  cst := k.cst.trans h.cst
  waitList := k.waitList.trans h.waitList
  lines := k.lines.trans h.lines
  pa := k.pa.trans h.pa
  pb := k.pb.trans h.pb
  pp := k.pp.trans h.pp
  sent := k.sent.trans h.sent

theorem foldl {α : Type} {step : Dev → α → Dev} (h : ∀ (e : Dev) (a : α), e.Unconfirms (step e a)) (l : List α) (d : Dev) :
    d.Unconfirms (l.foldl step d) :=
  foldl_keeps (P := d.Unconfirms) (fun e a k => k.trans (h e a)) l (refl d)

theorem queue (h : d.Unconfirms e) : e.mqu.queue = d.mqu.queue := by rw [h.mqu]

theorem setConfirmed (d : Dev) (p : Place) : d.Unconfirms (d.setConfirmed p false) := by
  constructor
  case occ => exact d.occ_setConfirmed_false p
  case falls =>
    intro q unconfirmed
    rw [Dev.confirmed_setConfirmed_false, unconfirmed, ite_self]
  all_goals simp

end Dev.Unconfirms

/-! ### The scan list (R106) -/

/-- R106: the place is to be scanned: it is on the scan list, or a SCAN of it is in the queue, which with `fresh` has not been sent. -/
def Dev.ToScan (d : Dev) (fresh : Bool) (p : Place) : Prop :=
  p ∈ d.mqu.scanList ∨ ∃ o ∈ d.mqu.queue, o.kind = .scan ∧ o.src = p ∧ (fresh = true → o.state ≠ .sent)

theorem Dev.ToScan.mono {d e : Dev} {fresh : Bool} {p : Place} (h : d.ToScan fresh p) (slot : p ∈ allSlots) (k : d.Unconfirms e) :
    e.ToScan fresh p := by
  unfold Dev.ToScan
  rw [k.queue]
  exact h.imp_left (k.listed p slot)

theorem Dev.ToScan.queued {d : Dev} {p : Place} (h : d.ToScan false p) : p ∈ d.mqu.scanList ∨ d.scanQueued p = true :=
  h.imp_right fun ⟨o, mem, scan, src, _⟩ => List.any_eq_true.mpr ⟨o, mem, by simp [scan, src]⟩

theorem Dev.ToScan.waiting {d : Dev} {p : Place} (h : d.ToScan true p) :
    p ∈ d.mqu.scanList ∨ ∃ o ∈ d.mqu.queue, o.kind = .scan ∧ o.src = p ∧ o.state = .waiting := by
  refine h.imp_right fun ⟨o, mem, scan, src, unsent⟩ => ⟨o, mem, scan, src, ?_⟩
  have := unsent rfl
  cases state : o.state <;> simp_all

/-- R106: a slot that is to be scanned already is unconfirmed, and any other joins the list too. -/
theorem Dev.joinScan_cases (d : Dev) (fresh : Bool) (p : Place) :
    d.ToScan fresh p ∧ d.joinScan fresh p = d.setConfirmed p false ∨
    d.joinScan fresh p = ((d.setConfirmed p false).modMqu fun m =>
      { m with scanList := allSlots.filter fun q => q ∈ m.scanList ∨ q = p }).push .feedScan := by
  unfold Dev.joinScan
  dsimp only
  rw [Dev.setConfirmed_mqu]
  split
  · next scanned =>
    refine .inl ⟨scanned.imp_right fun queued => ?_, rfl⟩
    obtain ⟨o, mem, is⟩ := List.any_eq_true.mp queued
    simp only [Bool.and_eq_true, decide_eq_true_eq, Bool.not_eq_true', Bool.and_eq_false_imp, decide_eq_false_iff_not] at is
    exact ⟨o, mem, is.1.1, is.1.2, is.2⟩
  · exact .inr rfl

theorem Dev.Unconfirms.joinScan (d : Dev) (fresh : Bool) (p : Place) : d.Unconfirms (d.joinScan fresh p) := by
  refine (Dev.Unconfirms.setConfirmed d p).trans ?_
  obtain ⟨-, same⟩ | joins := d.joinScan_cases fresh p
  · rw [same]; exact .refl _
  · rw [joins]
    constructor
    case occ | falls => intro q; simp [Dev.occ, Dev.confirmed, Dev.place]
    case listed =>
      intro q slot list
      simp only [Dev.push_mqu, Dev.modMqu_mqu, List.mem_filter, slot, true_and, decide_eq_true_eq]
      exact .inl list
    all_goals simp

theorem Dev.confirmed_joinScan (d : Dev) (fresh : Bool) (p q : Place) :
    (d.joinScan fresh p).confirmed q = if q = p then false else d.confirmed q := by
  rw [← Dev.confirmed_setConfirmed_false]
  obtain ⟨-, same⟩ | joins := d.joinScan_cases fresh p
  · rw [same]
  · rw [joins]
    exact congrArg PlaceRec.confirmed (Dev.place_of_cat (d := d.setConfirmed p false) (by simp) q)

theorem Dev.toScan_joinScan (d : Dev) (fresh : Bool) {p : Place} (slot : p ∈ allSlots) : (d.joinScan fresh p).ToScan fresh p := by
  obtain ⟨already, same⟩ | joins := d.joinScan_cases fresh p
  · rw [same]
    exact already.mono slot (.setConfirmed d p)
  · refine .inl ?_
    simp [joins, slot]

/-! ### A full inventory starts (R107) -/

/-- R107: the inventory runs, with the counts of the one it continues, or none. -/
def Mover.inventoryRuns (m : Mover) : Mover :=
  { m with inventory := true, missing := if m.inventory then m.missing else []
           missingErased := if m.inventory then m.missingErased else 0, registered := if m.inventory then m.registered else 0 }

/-- R107: a place that exists becomes unconfirmed. -/
def Dev.doubtExisting (d : Dev) (p : Place) : Dev := if d.placeExists p then d.setConfirmed p false else d

/-- R107: every place that exists is unconfirmed, and every slot is to be scanned. -/
def Dev.rescanAll (d : Dev) : Dev := allSlots.foldl (fun d p => d.joinScan false p) (allPlaces.foldl Dev.doubtExisting d)

theorem Dev.startInventory_eq (d : Dev) : d.startInventory =
    ((((d.modMqu Mover.inventoryRuns).rescanAll.wantStatus .ch0 { other := true }).wantStatus .ch1 { other := true }).push
      .inventoryEnd) := rfl

theorem Dev.Unconfirms.doubtExisting (d : Dev) (p : Place) : d.Unconfirms (d.doubtExisting p) := by
  unfold Dev.doubtExisting
  split
  · exact .setConfirmed d p
  · exact .refl d

theorem Dev.Unconfirms.rescanAll (d : Dev) : d.Unconfirms d.rescanAll :=
  (Dev.Unconfirms.foldl .doubtExisting allPlaces d).trans (.foldl (fun e p => .joinScan e false p) allSlots _)

/-- R2: whether a place exists rests on the drives alone. -/
theorem Dev.placeExists_of_ch {d e : Dev} (h : e.ch = d.ch) (p : Place) : e.placeExists p = d.placeExists p := by
  cases p with
  | drive c => simp [Dev.placeExists, Dev.drive_of_ch h]
  | _ => rfl

theorem Dev.confirmed_rescanAll (d : Dev) (p : Place) (exist : d.placeExists p = true) : d.rescanAll.confirmed p = false := by
  refine (Dev.Unconfirms.foldl (fun e p => .joinScan e false p) allSlots _).falls p ?_
  refine foldl_establishes (P := fun q e => e.placeExists q = true → e.confirmed q = false) (fun e q stands => ?_)
    (fun e q r done stands => ?_) allPlaces d p (mem_allPlaces p) ?_
  · rw [Dev.placeExists_of_ch (Dev.Unconfirms.doubtExisting e q).ch] at stands
    rw [Dev.doubtExisting, if_pos stands, Dev.confirmed_setConfirmed_false, if_pos rfl]
  · have step := Dev.Unconfirms.doubtExisting e q
    exact step.falls r (done (Dev.placeExists_of_ch step.ch r ▸ stands))
  · rw [Dev.placeExists_of_ch (Dev.Unconfirms.foldl .doubtExisting allPlaces d).ch, exist]

theorem Dev.toScan_rescanAll (d : Dev) {p : Place} (slot : p ∈ allSlots) : d.rescanAll.ToScan false p :=
  foldl_establishes (P := fun p e => p ∈ allSlots → e.ToScan false p) (fun e _ slot => e.toScan_joinScan false slot)
    (fun e q _ done slot => (done slot).mono slot (.joinScan e false q)) allSlots _ p slot slot

/-- R73: the drive context after a STATUS is wanted of it or of the other drive. -/
theorem Dev.drive_wantStatus (d : Dev) (c k : Chan) (w : Wants) : (d.wantStatus c w).drive k =
    if k = c ∧ (d.drive c).state ≠ .absent then { d.drive c with wants := (d.drive c).wants.merge w } else d.drive k := by
  unfold Dev.wantStatus
  split
  · next absent => simp [absent]
  · next present =>
    rw [Dev.drive_push]
    by_cases same : k = c
    · subst same; simp [present]
    · rw [if_neg (same ·.1)]
      exact congrArg Channel.drive (Dev.chan_setChan_of_ne d c k _ same)

/-- R107: the two STATUS that an inventory wants change what is wanted of the drives alone. -/
theorem Dev.drive_startInventory (d : Dev) (c : Chan) : d.startInventory.drive c =
    if (d.drive c).state = .absent then d.drive c else { d.drive c with wants := (d.drive c).wants.merge { other := true } } := by
  have before (k : Chan) : ((d.modMqu Mover.inventoryRuns).rescanAll).drive k = d.drive k :=
    Dev.drive_of_ch (Dev.Unconfirms.rescanAll (d.modMqu Mover.inventoryRuns)).ch k
  rw [Dev.startInventory_eq, Dev.drive_push, Dev.drive_wantStatus]
  cases c
  all_goals
    simp only [Dev.drive_wantStatus, before, ne_eq, reduceCtorEq, false_and, true_and, if_false, ite_not]

theorem Dev.startInventory_cat (d : Dev) : d.startInventory.cat = (d.modMqu Mover.inventoryRuns).rescanAll.cat := by
  simp [Dev.startInventory_eq]
theorem Dev.startInventory_mqu (d : Dev) : d.startInventory.mqu = (d.modMqu Mover.inventoryRuns).rescanAll.mqu := by
  simp [Dev.startInventory_eq]

/-- The second device has the first one's occupants, cartridges, sets, orders and states of the drives. -/
def Dev.SameStock (d e : Dev) : Prop :=
  (∀ p, e.occ p = d.occ p) ∧ e.cat.carts = d.cat.carts ∧ e.cat.sets = d.cat.sets ∧ e.mqu.queue = d.mqu.queue ∧
    ∀ c, (e.drive c).state = (d.drive c).state

theorem Dev.startInventory_keeps (d : Dev) : d.SameStock d.startInventory := by
  have work := Dev.Unconfirms.rescanAll (d.modMqu Mover.inventoryRuns)
  refine ⟨fun p => ?_, ?_, ?_, ?_, fun c => ?_⟩
  · exact (congrArg PlaceRec.occ (Dev.place_of_cat d.startInventory_cat p)).trans (work.occ p)
  · rw [Dev.startInventory_cat, work.carts, Dev.modMqu_cat]
  · rw [Dev.startInventory_cat, work.sets, Dev.modMqu_cat]
  · rw [Dev.startInventory_mqu, work.queue]; rfl
  · rw [Dev.drive_startInventory]; split <;> rfl

theorem Dev.confirmed_startInventory (d : Dev) {p : Place} (exist : d.placeExists p = true) : d.startInventory.confirmed p = false :=
  (congrArg PlaceRec.confirmed (Dev.place_of_cat d.startInventory_cat p)).trans (Dev.confirmed_rescanAll _ p exist)

theorem Dev.toScan_startInventory (d : Dev) {p : Place} (slot : p ∈ allSlots) : d.startInventory.ToScan false p := by
  unfold Dev.ToScan
  rw [Dev.startInventory_mqu]
  exact Dev.toScan_rescanAll _ slot

/-! ### An import starts (R110) -/

/-- R110: a mail slot is to be scanned for what has been put in. -/
def Dev.importAsked (d : Dev) (m : Fin 2) : Dev :=
  (d.joinScan true (.mail m)).modMqu fun q => { q with importMark := q.importMark.set (mailChan m) true }

theorem Dev.startImport_eq (d : Dev) : d.startImport = (d.importAsked 0).importAsked 1 := rfl

theorem mail_mem_allSlots (m : Fin 2) : Place.mail m ∈ allSlots := mem_allSlots.mpr nofun

@[simp] theorem Dev.occ_modMqu (d : Dev) (g : Mover → Mover) (p : Place) : (d.modMqu g).occ p = d.occ p := rfl
@[simp] theorem Dev.confirmed_modMqu (d : Dev) (g : Mover → Mover) (p : Place) : (d.modMqu g).confirmed p = d.confirmed p := rfl

section Asked
variable (d : Dev) (m : Fin 2)

/-- What a mail slot that is to be scanned leaves as it was. -/
theorem Dev.importAsked_frame : (d.importAsked m).cat = (d.joinScan true (.mail m)).cat ∧ (d.importAsked m).ch = d.ch ∧
    (d.importAsked m).mqu.queue = d.mqu.queue := by
  have work := Dev.Unconfirms.joinScan d true (.mail m)
  rw [Dev.importAsked]
  exact ⟨Dev.modMqu_cat .., (Dev.modMqu_ch ..).trans work.ch, (congrArg Mover.queue (Dev.modMqu_mqu ..)).trans work.queue⟩

theorem Dev.occ_importAsked (p : Place) : (d.importAsked m).occ p = d.occ p := by
  rw [Dev.importAsked, Dev.occ_modMqu, (Dev.Unconfirms.joinScan ..).occ]
theorem Dev.confirmed_importAsked (p : Place) : (d.importAsked m).confirmed p = if p = .mail m then false else d.confirmed p := by
  rw [Dev.importAsked, Dev.confirmed_modMqu, Dev.confirmed_joinScan]

theorem Dev.importMark_importAsked : (d.importAsked m).mqu.importMark = d.mqu.importMark.set (mailChan m) true := by
  rw [Dev.importAsked, Dev.modMqu_mqu, (Dev.Unconfirms.joinScan d true (.mail m)).mqu]

theorem Dev.toScan_importAsked_iff (p : Place) : (d.importAsked m).ToScan true p ↔ (d.joinScan true (.mail m)).ToScan true p := by
  unfold Dev.ToScan
  rw [Dev.importAsked, Dev.modMqu_mqu]

theorem Dev.toScan_importAsked : (d.importAsked m).ToScan true (.mail m) :=
  (d.toScan_importAsked_iff m _).mpr (d.toScan_joinScan true (mail_mem_allSlots m))

end Asked

theorem Dev.startImport_keeps (d : Dev) : d.SameStock d.startImport := by
  have work (e : Dev) (m : Fin 2) := Dev.Unconfirms.joinScan e true (.mail m)
  have frame := Dev.importAsked_frame
  rw [Dev.startImport_eq]
  refine ⟨fun p => ?_, ?_, ?_, ?_, fun c => ?_⟩
  · rw [Dev.occ_importAsked, Dev.occ_importAsked]
  · rw [(frame ..).1, (work ..).carts, (frame ..).1, (work ..).carts]
  · rw [(frame ..).1, (work ..).sets, (frame ..).1, (work ..).sets]
  · rw [(frame ..).2.2, (frame ..).2.2]
  · rw [Dev.drive_of_ch (frame ..).2.1, Dev.drive_of_ch (frame ..).2.1]

theorem Dev.toScan_startImport (d : Dev) (m : Fin 2) : d.startImport.ToScan true (.mail m) := by
  rw [Dev.startImport_eq]
  fin_cases m
  · exact (Dev.toScan_importAsked_iff _ 1 _).mpr ((d.toScan_importAsked 0).mono (mail_mem_allSlots 0) (.joinScan ..))
  · exact (d.importAsked 0).toScan_importAsked 1

theorem Dev.importMark_startImport (d : Dev) (m : Fin 2) : d.startImport.mqu.importMark.get (mailChan m) = true := by
  rw [Dev.startImport_eq, Dev.importMark_importAsked, Dev.importMark_importAsked]
  fin_cases m <;> rfl

theorem Dev.confirmed_startImport (d : Dev) (p : Place) :
    d.startImport.confirmed p = if ∃ m, p = .mail m then false else d.confirmed p := by
  rw [Dev.startImport_eq, Dev.confirmed_importAsked, Dev.confirmed_importAsked]
  cases p with
  | mail m => fin_cases m <;> simp
  | _ => simp

/-! ### The obligation -/

/-- R104: what a STOP_RESUME answers. -/
theorem Dev.resume_held {d : Dev} (held : d.mqu.holdStop = true) (r : ReqId) : d.resume r = d.stopResumed.answer r .ok := if_pos held
theorem Dev.resume_free {d : Dev} (free : d.mqu.holdStop = false) (r : ReqId) : d.resume r = d.answer r .badState :=
  if_neg (by simp [free])

theorem Dev.stopResumed_eq (d : Dev) : d.stopResumed = (((d.mqu.stopList.foldl Dev.checkPlace (d.modMqu fun m =>
    { m with holdStop := false, stopList := [], first := m.first ++ m.stopList.filter (· ∈ allSlots) })).pushFront [.feedScan]).push
      .send) := rfl

/-- Settles O30: the requests by their arms above; the starts are walks of `Dev.joinScan` along the slots. -/
theorem importInventoryAndResumeStartAtOnce : Obligations.ImportInventoryAndResumeStartAtOnce := by
  refine ⟨fun s f takes panel payload free => ?_, fun s f takes panel payload => ⟨fun held => ?_, fun free => ?_⟩, fun d _ => ?_⟩
  · have form : parseNone f.payload = some () := by rw [payload, parseNone_nil]
    have free (k : ReqKind) : (s.dev.begin.joined f k).mqu.holdPower = false := by rw [Dev.joined_mqu]; exact free
    rw [exec_importCarts_taken takes panel form, exec_inventory_taken takes panel form, Dev.unlessHeld_free (free _),
      Dev.unlessHeld_free (free _), Dev.takes_answer _ takes, Dev.takes_answer _ takes]
    exact ⟨rfl, rfl⟩
  · intro e
    have mqu : (s.dev.begin.joined f .stopResume).mqu = s.dev.mqu := Dev.joined_mqu ..
    rw [exec_stopResume_taken takes panel (by rw [payload, parseNone_nil]), Dev.resume_held (by rw [mqu]; exact held),
      Dev.stopResumed_eq, mqu]
  · rw [exec_stopResume_taken takes panel (by rw [payload, parseNone_nil]), Dev.resume_free (by rw [Dev.joined_mqu]; exact free),
      Dev.takes_answer _ takes]
  · have work := Dev.Unconfirms.rescanAll (d.modMqu Mover.inventoryRuns)
    refine ⟨⟨d.startInventory_keeps, ?_, ?_, ?_, ?_, fun p => d.confirmed_startInventory,
      fun p slot => (d.toScan_startInventory slot).queued, fun c present => ?_⟩, d.startImport_keeps, fun m => ⟨?_,
      d.importMark_startImport m, (d.toScan_startImport m).waiting, fun p other => ?_⟩⟩
    case refine_5 =>
      rw [Dev.drive_startInventory, if_neg present]
      exact Bool.or_true _
    case refine_6 => rw [Dev.confirmed_startImport, if_pos ⟨m, rfl⟩]
    case refine_7 => rw [Dev.confirmed_startImport, if_neg fun ⟨m, mail⟩ => other m mail]
    all_goals
      rw [Dev.startInventory_mqu, work.mqu]
      rfl

end Sys2Proof.Machine
end

section
/-! The library lines (R183 to R187): the debounce of a line's raw input, its edge, and what a STOP event leaves (R104). -/

namespace Sys2Proof.Machine

/-! ### The debounce of a line (R183) -/

theorem exec_lineInputChange (l : Fin 4) (v : Level) (s : State) :
    exec (.lineInputChange l v) s = s.does fun d => d.lineChanged l v := by rfl
theorem exec_debounceTimerExpiry (l : Fin 4) (s : State) : exec (.debounceTimerExpiry l) s = s.does fun d => d.debounced l := by rfl

section Debounce
variable {d : Dev} {l : Fin 4} {v : Level}

theorem Dev.lineChanged_change (change : (d.line l).raw ≠ v) :
    d.lineChanged l v = d.setLine l { d.line l with raw := v, timer := some 20 } := if_neg change
theorem Dev.lineChanged_same (same : (d.line l).raw = v) : d.lineChanged l v = d := if_pos same

/-- R183: the raw input is the line's level from now on. -/
def Dev.lineSettled (d : Dev) (l : Fin 4) : Dev := d.setLine l { d.line l with level := (d.line l).raw, timer := none }

theorem Dev.debounced_still (armed : (d.line l).timer ≠ none) (still : (d.line l).raw = (d.line l).level) :
    d.debounced l = d.lineSettled l := by
  simp [Dev.debounced, armed, still, Dev.lineSettled]

theorem Dev.debounced_edge (armed : (d.line l).timer ≠ none) (edge : (d.line l).raw ≠ (d.line l).level) (runs : d.phase = .running) :
    d.debounced l = (d.lineSettled l).edge l (decide ((d.line l).raw = .low)) := by
  have phase : (d.lineSettled l).phase = .running := runs
  unfold Dev.lineSettled at phase ⊢
  simp [Dev.debounced, armed, edge, phase]

end Debounce

/-! ### A STOP event (R104, R187) -/

/-- The places of a list become unconfirmed. -/
def Dev.doubtAll (d : Dev) (ps : List Place) : Dev := ps.foldl (fun d p => d.setConfirmed p false) d

theorem Dev.Unconfirms.doubtAll (d : Dev) (ps : List Place) : d.Unconfirms (d.doubtAll ps) := .foldl .setConfirmed ps d

theorem Dev.doubtAll_mqu (d : Dev) (ps : List Place) : (d.doubtAll ps).mqu = d.mqu :=
  foldl_keeps (P := fun e => e.mqu = d.mqu) (fun e p same => (Dev.setConfirmed_mqu e p false).trans same) ps rfl

theorem Dev.confirmed_doubtAll (d : Dev) (ps : List Place) (q : Place) :
    (d.doubtAll ps).confirmed q = if q ∈ ps then false else d.confirmed q := by
  unfold Dev.doubtAll
  induction ps generalizing d with
  | nil => simp
  | cons p ps ih =>
    rw [List.foldl_cons, ih, Dev.confirmed_setConfirmed_false]
    by_cases here : q = p <;> simp [here]

/-- The places an order moves between. -/
def Order.ends (o : Order) : List Place := o.src :: o.dst.toList

theorem Order.mem_ends {o : Order} {p : Place} : p ∈ o.ends ↔ p = o.src ∨ o.dst = some p := by
  simp [Order.ends]

/-- R104: HALT goes to a changer that is READY, and the STOP hold is set. -/
def Dev.stopHeld (d : Dev) : Dev := (if d.mqu.changer = .ready then d.emit .halt else d).modMqu fun m => { m with holdStop := true }

/-- R104: the order in flight is halted, and its places stand on the stop list. -/
def Mover.halted (m : Mover) (o : Order) : Mover :=
  { m with queue := m.queue.map fun x => if x = o then { o with halted := true } else x
           stopList := m.stopList ++ o.ends.filter fun p => p ∉ m.stopList }

/-- R104: a STOP event changes the hold, the confirmed marks and MQU's account of the order in flight. -/
theorem Dev.stopHeld_eq (d : Dev) : d.stopHeld =
    { d with mqu := { d.mqu with holdStop := true }, sent := d.sent ++ if d.mqu.changer = .ready then [.halt] else [] } := by
  unfold Dev.stopHeld
  split <;> simp [Dev.emit, Dev.modMqu]

theorem Dev.sentOrder_stopHeld (d : Dev) : d.stopHeld.sentOrder = d.sentOrder := by
  simp [Dev.stopHeld_eq, Dev.sentOrder]

theorem Dev.stopEvent_idle {d : Dev} (idle : ∀ o, d.sentOrder = some o → o.halted = true) : d.stopEvent = d.stopHeld := by
  have same := d.sentOrder_stopHeld
  unfold Dev.stopHeld at same ⊢
  simp only [Dev.stopEvent, same]
  cases sent : d.sentOrder with
  | none => rfl
  | some o => exact if_pos (idle o sent)

theorem Dev.stopEvent_halts {d : Dev} {o : Order} (sent : d.sentOrder = some o) (runs : o.halted = false) :
    d.stopEvent = (d.stopHeld.doubtAll o.ends).modMqu fun m => m.halted o := by
  have same := d.sentOrder_stopHeld
  unfold Dev.stopHeld at same ⊢
  simp only [Dev.stopEvent, same, sent, runs]
  rfl

/-- R104: whatever is in flight, a STOP event leaves what `Dev.stopHeld` does, but for marks that fall and MQU's account. -/
theorem Dev.stopEvent_cases (d : Dev) : ∃ (e : Dev) (g : Mover → Mover),
    d.stopHeld.Unconfirms e ∧ d.stopEvent = e.modMqu g ∧ (g e.mqu).holdStop = e.mqu.holdStop := by
  by_cases idle : ∀ o, d.sentOrder = some o → o.halted = true
  · exact ⟨d.stopHeld, id, .refl _, Dev.stopEvent_idle idle, rfl⟩
  · push Not at idle
    obtain ⟨o, sent, runs⟩ := idle
    exact ⟨_, _, .doubtAll _ o.ends, Dev.stopEvent_halts sent (by simpa using runs), rfl⟩

/-- R104, R187: a halted order, with its places unconfirmed and on the stop list. -/
theorem Dev.stopEvent_order {d : Dev} {o : Order} (sent : d.sentOrder = some o) (runs : o.halted = false) :
    d.stopEvent.mqu = ({ d.mqu with holdStop := true } : Mover).halted o ∧
      (∀ p, p ∈ d.stopEvent.mqu.stopList ↔ p ∈ d.mqu.stopList ∨ p ∈ o.ends) ∧
      ∀ p, d.stopEvent.confirmed p = if p ∈ o.ends then false else d.confirmed p := by
  have held : d.stopHeld.mqu = { d.mqu with holdStop := true } := by rw [Dev.stopHeld_eq]
  have mqu : d.stopEvent.mqu = ({ d.mqu with holdStop := true } : Mover).halted o := by
    rw [Dev.stopEvent_halts sent runs, Dev.modMqu_mqu, Dev.doubtAll_mqu, held]
  refine ⟨mqu, fun p => ?_, fun p => ?_⟩
  · rw [mqu]
    simp only [Mover.halted, List.mem_append, List.mem_filter, decide_eq_true_eq]
    tauto
  · have same : d.stopHeld.confirmed p = d.confirmed p := by rw [Dev.stopHeld_eq]; rfl
    rw [Dev.stopEvent_halts sent runs, Dev.confirmed_modMqu, Dev.confirmed_doubtAll, same]

/-- Settles O37: the debounce by its cases; a STOP event by `Dev.stopEvent_cases`, and by `Dev.stopEvent_order` of an order in flight. -/
theorem lineInputsAreDebounced : Obligations.LineInputsAreDebounced := by
  refine ⟨fun s l v => ⟨fun change => ?_, fun same => ?_⟩, fun s l armed => ?_, fun d _ => ?_⟩
  · rw [exec_lineInputChange, State.does, Dev.lineChanged_change (d := s.dev.begin) change]
    rfl
  · rw [exec_lineInputChange, State.does, Dev.lineChanged_same (d := s.dev.begin) same]
  · intro x e gives
    have taken {d : Dev} (ends : s.dev.begin.debounced l = d) : gives d := by
      subst ends
      exact exec_debounceTimerExpiry l s
    refine ⟨fun still => taken (Dev.debounced_still armed still), fun runs edge => ?_⟩
    have edged : s.dev.begin.debounced l = e.edge l (decide (x.raw = .low)) := Dev.debounced_edge armed edge runs
    have fn : e.cfg = s.dev.cfg := rfl
    refine ⟨fun none => taken ?_, fun door => taken ?_, fun power => taken ?_, fun mail => taken ?_, fun stop => taken ?_⟩
    all_goals
      rw [edged]
      simp only [Dev.edge, decide_eq_true_eq, *]
  · obtain ⟨e, g, frame, event, held⟩ := d.stopEvent_cases
    rw [d.stopHeld_eq] at frame
    have sent : d.stopEvent.sent = d.sent ++ if d.mqu.changer = .ready then [.halt] else [] := by
      rw [event, Dev.modMqu_sent, frame.sent]
    have hold : d.stopEvent.mqu.holdStop = true := by rw [event, Dev.modMqu_mqu, held, frame.mqu]
    refine ⟨sent, hold, event ▸ frame.carts, event ▸ frame.sets, event ▸ frame.occ, event ▸ frame.ch, event ▸ frame.cfg,
      event ▸ frame.smc, event ▸ frame.waitList, event ▸ frame.pa, event ▸ frame.pb, event ▸ frame.pp, event ▸ frame.cst,
      event ▸ frame.lines, fun idle => ?_, fun o order runs => ?_⟩
    · rw [Dev.stopEvent_idle idle, Dev.stopHeld_eq]
      exact ⟨rfl, rfl⟩
    · obtain ⟨mqu, stopList, confirmed⟩ := Dev.stopEvent_order order runs
      refine ⟨by rw [mqu]; rfl, fun p => by rw [stopList, Order.mem_ends], fun p => ?_⟩
      rw [confirmed]
      exact ⟨fun its => if_pos (Order.mem_ends.mpr its), fun other => if_neg (mt Order.mem_ends.mp other)⟩

end Sys2Proof.Machine
end

section
/-! What a SCAN shows (R97, R100, R108, R109): the cartridge displaced from the scanned place, the registration of an unknown one, the
label of a registered one, and the EXPORT mark of a mail slot (R110). -/

namespace Sys2Proof.Machine

/-! ### What a SCAN completion leads to (R100) -/

/-- R108, R109: what a SCAN read is taken into the catalogue; a label that R97 does not allow is taken as none. -/
def Dev.readAt (d : Dev) (p : Place) (k : ScanKind) : Dev :=
  match k with
  | .empty => (d.displaceAt p).setOcc p .none
  | .label l => if labelOk l then d.scanLabel p l else d.scanNoLabel p
  | .noLabel => d.scanNoLabel p
  | .doorOpen => d

theorem Dev.reconcile_eq (d : Dev) (p : Place) (k : ScanKind) : d.reconcile p k = (d.readAt p k).checkExportMark p k := rfl

/-- R100: what follows a SCAN whose reading has been taken: the scanned place is confirmed, and the order is done. -/
def Dev.scanDone (d : Dev) (o : Order) : Dev :=
  (((if o.halted then d else d.setConfirmed o.src true).dropOrder o).tell o .ok).importScanned o.src

theorem Dev.applyScan_read {k : ScanKind} (read : k ≠ .doorOpen) (d : Dev) (o : Order) :
    d.applyScan o k = ((d.readAt o.src k).checkExportMark o.src k).scanDone o := if_neg read

theorem Dev.applyScan_doorOpen (d : Dev) (o : Order) : d.applyScan o .doorOpen = d.requeue o o.retry := if_pos rfl

/-! ### Labels and locations (R3) -/

/-- R3: which entry holds a label rests on the labels alone. -/
theorem Dev.byLabel_of_labels {d e : Dev} (same : ∀ i, (e.cart i).map (·.label) = (d.cart i).map (·.label)) (l : Label) :
    e.byLabel l = d.byLabel l := by
  have held (d : Dev) (i : CartIx) : (d.cart i).any (fun x => x.label = some l) = ((d.cart i).map (·.label)).any (· = some l) := by
    cases d.cart i <;> rfl
  unfold Dev.byLabel
  simp only [held, same]

theorem Dev.label_of_byLabel {d : Dev} {l : Label} {i : CartIx} (named : d.byLabel l = some i) :
    (d.cart i).map (·.label) = some (some l) := by
  obtain ⟨held, -⟩ := find?_allCarts_eq_some.mp named
  obtain ⟨x, entry, label⟩ := (Option.any_eq_true _ _).mp held
  simpa [entry] using label

/-- R9: what a cartridge's entry says besides its home and its pool. -/
structure Cart.HomeFree {α : Type} (g : Cart → α) : Prop where
  inert : ∀ (x : Cart) (h : Option (Fin 24)) (n : Nat), g { x with home := h, pool := n } = g x

theorem Cart.HomeFree.label : Cart.HomeFree Cart.label := ⟨fun _ _ _ => rfl⟩
theorem Cart.HomeFree.location : Cart.HomeFree Cart.location := ⟨fun _ _ _ => rfl⟩

/-- R9: a cartridge that comes to rest changes homes and pools alone. -/
theorem Dev.settleHome_keeps {α : Type} {g : Cart → α} (free : Cart.HomeFree g) (d : Dev) (i j : CartIx) (p : Place) :
    ((d.settleHome i p).cart j).map g = (d.cart j).map g := by
  have changed (d : Dev) (k : CartIx) (h : Option (Fin 24)) (n : Cart → Nat) :
      ((d.modCart k fun x => { x with home := h, pool := n x }).cart j).map g = (d.cart j).map g := by
    rw [Dev.cart_modCart]
    split
    · next same => subst same; cases d.cart j <;> simp [free.inert]
    · rfl
  unfold Dev.settleHome
  split
  · split
    · rw [Dev.takeHome, Dev.cart_reselect, changed]
      refine foldl_keeps (P := fun e => (e.cart j).map g = (d.cart j).map g) (fun e k same => ?_) allCarts rfl
      split
      · exact (changed e k none Cart.pool).trans same
      · exact same
    · rfl
  · rfl

/-! ### A change of location: the occupants (R1) -/

theorem Dev.occ_vacate {d : Dev} (h : d.cat.places.length = 28) (i : CartIx) (q : Place) : (d.vacate i).occ q =
    if (d.cart i).bind (·.location) = some q ∧ d.occ q = .cart i then .none else d.occ q := by
  unfold Dev.vacate
  split
  · next p located =>
    split
    · next held =>
      rw [Dev.occ_setOcc h, located]
      by_cases same : q = p
      · subst same; simp [held]
      · simp [same, Ne.symm same]
    · next free => rw [located, if_neg]; rintro ⟨same, held⟩; cases same; exact free held
  · next absent => simp [absent]

theorem Dev.occ_moveCart {d : Dev} (h : d.cat.places.length = 28) (i : CartIx) (dest : Option Place) (q : Place) :
    (d.moveCart i dest).occ q = if dest = some q then .cart i else (d.vacate i).occ q := by
  have same : (d.moveCart i dest).occ q = ((d.vacate i).occupy i dest).occ q :=
    congrArg PlaceRec.occ (Dev.place_of_places (Dev.moveCart_places d i dest) q)
  rw [same]
  cases dest with
  | none => rfl
  | some p =>
    rw [Dev.occupy, Dev.occ_setOcc (by rw [Dev.vacate_length, h])]
    simp only [Option.some.injEq, eq_comm]

/-- R1: a change of location changes the catalogue, the drives' settled marks and what follows alone. -/
theorem Dev.moveCart_frame (d : Dev) (i : CartIx) (dest : Option Place) : (d.moveCart i dest).pp = d.pp ∧
    (d.moveCart i dest).cfg = d.cfg ∧ (d.moveCart i dest).cat.carts.length = d.cat.carts.length := by
  have frame := Dev.TablesOnly.modCart ((d.vacate i).occupy i dest) i fun x => { x with location := dest }
  have left : (d.vacate i).pp = d.pp ∧ (d.vacate i).cfg = d.cfg := by
    obtain same | ⟨x, p, -, -, -, same⟩ := d.vacate_cases i <;> simp [same]
  refine ⟨?_, ?_, ?_⟩
  · rw [Dev.moveCart_eq, Dev.push_pp, Dev.reselect_pp, frame.pp, ← left.1]
    cases dest <;> simp [Dev.occupy]
  · rw [Dev.moveCart_eq, Dev.push_cfg, Dev.reselect_cfg, frame.cfg, ← left.2]
    cases dest <;> simp [Dev.occupy]
  · rw [Dev.moveCart_eq, Dev.push_cat, Dev.reselect_cat, frame.cartsLength, Dev.occupy_carts, Dev.vacate_carts]

/-! ### The cartridge displaced (R108) -/

theorem Dev.displaceAt_cart {d : Dev} {p : Place} {i : CartIx} (held : d.occ p = .cart i) :
    ∃ g : Mover → Mover, d.displaceAt p = (d.moveCart i none).modMqu g ∧ ∀ m, (g m).exportMark = m.exportMark := by
  unfold Dev.displaceAt
  rw [held]
  dsimp only
  split
  · exact ⟨_, rfl, fun _ => rfl⟩
  · exact ⟨id, rfl, fun _ => rfl⟩

theorem Dev.displaceAt_other {d : Dev} {p : Place} (other : ∀ i, d.occ p ≠ .cart i) : d.displaceAt p = d := by
  unfold Dev.displaceAt
  split
  · next i held => exact absurd held (other i)
  · rfl

theorem Dev.cart_modMqu (d : Dev) (g : Mover → Mover) (i : CartIx) : (d.modMqu g).cart i = d.cart i := rfl

/-- R108: the cartridge recorded at the place is ABSENT, and every other entry is as it was. -/
theorem Dev.cart_displaceAt (d : Dev) (p : Place) (j : CartIx) : (d.displaceAt p).cart j =
    if d.occ p = .cart j then (d.cart j).map fun y => { y with location := none } else d.cart j := by
  by_cases held : ∃ i, d.occ p = .cart i
  · obtain ⟨i, held⟩ := held
    obtain ⟨g, same, -⟩ := Dev.displaceAt_cart held
    rw [same, Dev.cart_modMqu, Dev.cart_moveCart, held]
    by_cases here : j = i
    · subst here; simp
    · simp [here, Ne.symm here]
  · push Not at held
    rw [Dev.displaceAt_other held, if_neg (held j)]

theorem Dev.label_displaceAt (d : Dev) (p : Place) (j : CartIx) :
    ((d.displaceAt p).cart j).map (·.label) = (d.cart j).map (·.label) := by
  rw [Dev.cart_displaceAt]
  split <;> cases d.cart j <;> rfl

theorem Dev.free_displaceAt (d : Dev) (p : Place) (j : CartIx) : (d.displaceAt p).cart j = none ↔ d.cart j = none := by
  rw [Dev.cart_displaceAt]
  split <;> simp

theorem Dev.displaceAt_frame (d : Dev) (p : Place) : (d.displaceAt p).cat.places.length = d.cat.places.length ∧
    (d.displaceAt p).cat.carts.length = d.cat.carts.length ∧ (d.displaceAt p).cat.live = d.cat.live ∧ (d.displaceAt p).pp = d.pp ∧
    (d.displaceAt p).cfg = d.cfg ∧ (d.displaceAt p).mqu.exportMark = d.mqu.exportMark := by
  by_cases held : ∃ i, d.occ p = .cart i
  · obtain ⟨i, held⟩ := held
    obtain ⟨g, same, mark⟩ := Dev.displaceAt_cart held
    obtain ⟨pp, cfg, carts⟩ := d.moveCart_frame i none
    rw [same, Dev.modMqu_cat, Dev.modMqu_pp, Dev.modMqu_cfg, Dev.modMqu_mqu, mark]
    exact ⟨Dev.moveCart_length .., carts, Dev.moveCart_live .., pp, cfg, Dev.moveCart_exportMark ..⟩
  · push Not at held
    rw [Dev.displaceAt_other held]
    exact ⟨rfl, rfl, rfl, rfl, rfl, rfl⟩

/-- R1: every registered cartridge that a place records has that place as its location. -/
def Dev.OccupantsLocated (d : Dev) : Prop := ∀ q j, d.occ q = .cart j → ∃ y, d.cart j = some y ∧ y.location = some q

/-- R108: the places apart from the scanned one are as they were. -/
theorem Dev.occ_displaceAt {d : Dev} (h : d.cat.places.length = 28) (located : d.OccupantsLocated) {p q : Place} (other : q ≠ p) :
    (d.displaceAt p).occ q = d.occ q := by
  by_cases held : ∃ i, d.occ p = .cart i
  · obtain ⟨i, held⟩ := held
    obtain ⟨y, entry, location⟩ := located p i held
    obtain ⟨g, same, -⟩ := Dev.displaceAt_cart held
    rw [same, Dev.occ_modMqu, Dev.occ_moveCart h, if_neg (by simp), Dev.occ_vacate h, entry, if_neg]
    rintro ⟨here, -⟩
    exact other (Option.some.inj (location.symm.trans here)).symm
  · push Not at held
    rw [Dev.displaceAt_other held]

/-! ### Registration (R4, R108, R109) -/

/-- R4: the entry of a cartridge that a SCAN registers. -/
def newCart (l : Option Label) (p : Place) : Cart := { label := l, location := some p }

/-- R4: a cartridge is registered in an entry. -/
def Dev.registerIn (d : Dev) (k : CartIx) (p : Place) (l : Option Label) : Dev :=
  ((((d.putCart k (some (newCart l p))).setOcc p (.cart k)).settleHome k p).modMqu fun m =>
    { m with registered := m.registered + 1 }).reselect

theorem Dev.lowestFree {d : Dev} {k : CartIx} (free : d.cart k = none) (lowest : ∀ j, j < k → d.cart j ≠ none) :
    (allCarts.find? fun i => (d.cart i).isNone) = some k :=
  find?_allCarts_eq_some.mpr ⟨by simp [free], fun j below => by simpa [Option.isSome_iff_ne_none] using lowest j below⟩

theorem Dev.registerAt_free {d : Dev} {k : CartIx} (lowest : (allCarts.find? fun i => (d.cart i).isNone) = some k) (p : Place)
    (l : Option Label) : d.registerAt p l = d.registerIn k p l := by
  rw [Dev.registerAt, Dev.register, lowest]
  rfl

theorem Dev.registerAt_full {d : Dev} (full : (allCarts.find? fun i => (d.cart i).isNone) = none) (p : Place) (l : Option Label) :
    d.registerAt p l = (d.setOcc p .unregistered).notice .P (.tableFull p) := by
  rw [Dev.registerAt, Dev.register, full]

theorem Dev.cart_registerIn_same {d : Dev} (h : d.cat.carts.length = 64) (k : CartIx) (p : Place) (l : Option Label) :
    (d.registerIn k p l).cart k = some ((newCart l p).atRest d.cat.live p) := by
  have entry : ((d.putCart k (some (newCart l p))).setOcc p (.cart k)).cart k = some (newCart l p) := by
    rw [Dev.cart_setOcc, Dev.cart_putCart _ _ _ _ h, if_pos rfl]
  rw [Dev.registerIn, Dev.cart_reselect, Dev.cart_modMqu, Dev.cart_settleHome entry, Dev.setOcc_live, (Dev.TablesOnly.putCart ..).live]

theorem Dev.cart_registerIn_keeps {α : Type} {g : Cart → α} (inert : Cart.HomeFree g) {d : Dev} (h : d.cat.carts.length = 64)
    {k j : CartIx} (other : j ≠ k) (p : Place) (l : Option Label) : ((d.registerIn k p l).cart j).map g = (d.cart j).map g := by
  rw [Dev.registerIn, Dev.cart_reselect, Dev.cart_modMqu, Dev.settleHome_keeps inert, Dev.cart_setOcc, Dev.cart_putCart _ _ _ _ h,
    if_neg other]

theorem Dev.occ_registerIn {d : Dev} (h : d.cat.places.length = 28) (k : CartIx) (p : Place) (l : Option Label) :
    (d.registerIn k p l).occ p = .cart k := by
  have put := Dev.TablesOnly.putCart d k (some (newCart l p))
  rw [Dev.registerIn, (Dev.TablesOnly.reselect _).occ, Dev.occ_modMqu, (Dev.settleHome_frame ..).occ,
    Dev.occ_setOcc (by rw [put.places, h]), if_pos rfl]

theorem Dev.exportMark_registerAt (d : Dev) (p : Place) (l : Option Label) : (d.registerAt p l).mqu.exportMark = d.mqu.exportMark := by
  cases free : allCarts.find? fun i => (d.cart i).isNone with
  | none => rw [Dev.registerAt_full free, Dev.notice_mqu, Dev.setOcc_exportMark]
  | some k =>
    rw [Dev.registerAt_free free, Dev.registerIn, Dev.reselect_mqu, Dev.modMqu_mqu]
    simp only [(Dev.settleHome_frame ..).mqu, Dev.setOcc_exportMark, Dev.putCart_mqu]

/-- R4: a registration leaves what the other entries say besides their homes and pools as it was, and takes no entry that is in use. -/
theorem Dev.cart_registerAt_keeps {α : Type} {g : Cart → α} (inert : Cart.HomeFree g) {d : Dev} (h : d.cat.carts.length = 64)
    {j : CartIx} (used : d.cart j ≠ none) (p : Place) (l : Option Label) :
    ((d.registerAt p l).cart j).map g = (d.cart j).map g := by
  cases free : allCarts.find? fun i => (d.cart i).isNone with
  | none => rw [Dev.registerAt_full free, Dev.cart_congr (Dev.notice_cat ..), Dev.cart_setOcc]
  | some k =>
    have other : j ≠ k := by
      rintro rfl
      exact used (Option.isNone_iff_eq_none.mp (find?_allCarts_eq_some.mp free).1)
    rw [Dev.registerAt_free free, Dev.cart_registerIn_keeps inert h other]

/-- R108, R109: what a SCAN leaves of a cartridge with this label, or none, that no entry holds. -/
def Dev.Registers (d e : Dev) (p : Place) (l : Option Label) : Prop :=
  (∀ k, d.cart k = none → (∀ j, j < k → d.cart j ≠ none) → e.occ p = .cart k ∧
    ∃ z, e.cart k = some z ∧ z.label = l ∧ z.location = some p ∧ z.state = .foreign ∧
      ∀ n, p = .slot n → z.home = some n ∧ z.pool = d.cat.live.poolOf n.val) ∧
  ((∀ k, d.cart k ≠ none) → e.occ p = .unregistered ∧ (d.pp.link = .up → d.pp.notices.length < 16 →
    d.cfg.maskP.getD (Notice.tableFull p).index true = true → Notice.tableFull p ∈ e.pp.notices))

/-- R176: the notice of a full table waits at a port P that has room for it. -/
theorem Dev.mem_notice_tableFull {d : Dev} {p : Place} (up : d.pp.link = .up) (room : d.pp.notices.length < 16)
    (enabled : d.cfg.maskP.getD (Notice.tableFull p).index true = true) :
    Notice.tableFull p ∈ (d.notice .P (.tableFull p)).pp.notices := by
  have joins := (Dev.offer_uncoalesced (d := d) (p := .P) enabled up fun h k r credit => nomatch credit).trans
    (if_neg (Nat.not_le.mpr room))
  rw [Dev.notice, joins, Dev.noticeJoined, Dev.push_pp]
  exact List.mem_append_right _ (List.mem_singleton_self _)

theorem Dev.registers_displaced {d : Dev} (places : d.cat.places.length = 28) (carts : d.cat.carts.length = 64) (p : Place)
    (l : Option Label) : d.Registers ((d.displaceAt p).registerAt p l) p l := by
  obtain ⟨samePlaces, sameCarts, live, pp, cfg, -⟩ := d.displaceAt_frame p
  refine ⟨fun k free lowest => ?_, fun full => ?_⟩
  · have free' := (d.free_displaceAt p k).mpr free
    have lowest' (j : CartIx) (below : j < k) := mt (d.free_displaceAt p j).mp (lowest j below)
    rw [Dev.registerAt_free (Dev.lowestFree free' lowest'), Dev.occ_registerIn (samePlaces.trans places),
      Dev.cart_registerIn_same (sameCarts.trans carts), live]
    refine ⟨rfl, _, rfl, ?_⟩
    cases p with
    | slot n => exact ⟨rfl, rfl, rfl, fun m same => Place.slot.inj same ▸ ⟨rfl, rfl⟩⟩
    | _ => exact ⟨rfl, rfl, rfl, nofun⟩
  · have noneFree : (allCarts.find? fun i => ((d.displaceAt p).cart i).isNone) = none :=
      find?_allCarts_eq_none.mpr fun k => by
      simpa [Option.isSome_iff_ne_none] using mt (d.free_displaceAt p k).mp (full k)
    rw [Dev.registerAt_full noneFree]
    refine ⟨?_, fun up room enabled => Dev.mem_notice_tableFull ?_ ?_ ?_⟩
    · exact (congrArg PlaceRec.occ (Dev.place_of_cat (Dev.notice_cat ..) p)).trans
        ((Dev.occ_setOcc (samePlaces.trans places) p p _).trans (if_pos rfl))
    · rw [Dev.setOcc_pp, pp, up]
    · rw [Dev.setOcc_pp, pp]; exact room
    · rw [Dev.setOcc_cfg, cfg, enabled]

/-! ### The label of a registered cartridge (R108) -/

/-- R108: the cartridge displaced from the place is ABSENT, when it is not the one scanned there. -/
def Dev.Displaced (d e : Dev) (p : Place) (i : Option CartIx) : Prop :=
  ∀ j, d.occ p = .cart j → some j ≠ i → (e.cart j).bind (·.location) = none

/-- R108: a registered cartridge is found at the place: it is recorded there, and it is missing no longer. -/
def Dev.foundAt (d : Dev) (p : Place) (i : CartIx) : Dev :=
  ((d.displaceAt p).moveCart i (some p)).modMqu fun m => { m with missing := m.missing.filter (· ≠ i) }

section Registered
variable {d : Dev} {p : Place} {l : Label} {i : CartIx} {x : Cart}

theorem Dev.scanLabel_unknown (unknown : d.byLabel l = none) : d.scanLabel p l = (d.displaceAt p).registerAt p (some l) := by
  rw [Dev.scanLabel, unknown]

variable (named : d.byLabel l = some i) (entry : d.cart i = some x)
include named entry

theorem Dev.scanLabel_absent (absent : x.location = none) : d.scanLabel p l = d.foundAt p i := by
  simp only [Dev.scanLabel, named, entry, Option.bind_some, absent]
  rfl

theorem Dev.scanLabel_there (there : x.location = some p) (slot : ∀ c, p ≠ .drive c) : d.scanLabel p l = d := by
  cases p with
  | drive c => exact absurd rfl (slot c)
  | _ => simp [Dev.scanLabel, named, entry, there]

theorem Dev.scanLabel_elsewhere {q : Place} (recorded : x.location = some q)
    (stands : (∃ c, q = .drive c) ∨ q ≠ p ∧ d.confirmed q = true) :
    d.scanLabel p l = (d.displaceAt p).setOcc p .unregistered := by
  cases q with
  | drive c => simp [Dev.scanLabel, named, entry, recorded]
  | _ =>
    obtain ⟨other, confirmed⟩ := stands.resolve_left (by simp)
    simp [Dev.scanLabel, named, entry, recorded, other, confirmed]

theorem Dev.scanLabel_moved {q : Place} (recorded : x.location = some q) (slot : ∀ c, q ≠ .drive c) (other : q ≠ p)
    (unconfirmed : d.confirmed q = false) :
    d.scanLabel p l = (d.foundAt p i).joinScan false q := by
  cases q with
  | drive c => exact absurd rfl (slot c)
  | _ =>
    simp only [Dev.scanLabel, named, entry, Option.bind_some, recorded, if_neg other, unconfirmed, Bool.false_eq_true, if_false,
      Dev.foundAt]

end Registered

/-- R108: what a label that an entry holds can lead to. -/
theorem Dev.scanLabel_known {d : Dev} {l : Label} {i : CartIx} (named : d.byLabel l = some i) (p : Place) : d.scanLabel p l = d ∨
    d.scanLabel p l = (d.displaceAt p).setOcc p .unregistered ∨ d.scanLabel p l = d.foundAt p i ∨
    ∃ q, d.scanLabel p l = (d.foundAt p i).joinScan false q := by
  obtain ⟨x, entry, -⟩ := Option.map_eq_some_iff.mp (Dev.label_of_byLabel named)
  cases recorded : x.location with
  | none => exact .inr (.inr (.inl (Dev.scanLabel_absent named entry recorded)))
  | some q =>
    by_cases stands : (∃ c, q = .drive c) ∨ q ≠ p ∧ d.confirmed q = true
    · exact .inr (.inl (Dev.scanLabel_elsewhere named entry recorded stands))
    · push Not at stands
      obtain ⟨slot, unconfirmed⟩ := stands
      by_cases there : q = p
      · subst there
        exact .inl (Dev.scanLabel_there named entry recorded slot)
      · exact .inr (.inr (.inr ⟨q, Dev.scanLabel_moved named entry recorded slot there (by simpa using unconfirmed there)⟩))

section Found
variable {d : Dev} {p : Place} {i : CartIx} {x : Cart}

theorem Dev.cart_foundAt (d : Dev) (p : Place) (i j : CartIx) : (d.foundAt p i).cart j =
    if j = i then ((d.displaceAt p).cart i).map fun x => { x with location := some p } else (d.displaceAt p).cart j := by
  rw [Dev.foundAt, Dev.cart_modMqu, Dev.cart_moveCart]

theorem Dev.label_foundAt (d : Dev) (p : Place) (i j : CartIx) : ((d.foundAt p i).cart j).map (·.label) = (d.cart j).map (·.label) := by
  rw [← d.label_displaceAt p j, Dev.cart_foundAt]
  split
  · next same => subst same; cases (d.displaceAt p).cart j <;> rfl
  · rfl

theorem Dev.exportMark_foundAt (d : Dev) (p : Place) (i : CartIx) : (d.foundAt p i).mqu.exportMark = d.mqu.exportMark := by
  obtain ⟨-, -, -, -, -, mark⟩ := d.displaceAt_frame p
  rw [Dev.foundAt, Dev.modMqu_mqu]
  exact (Dev.moveCart_exportMark ..).trans mark

theorem Dev.occ_foundAt (places : d.cat.places.length = 28) : (d.foundAt p i).occ p = .cart i := by
  obtain ⟨same, -⟩ := d.displaceAt_frame p
  rw [Dev.foundAt, Dev.occ_modMqu, Dev.occ_moveCart (same.trans places), if_pos rfl]

variable (entry : d.cart i = some x) (apart : d.occ p ≠ .cart i)
include entry apart

theorem Dev.cart_foundAt_same : (d.foundAt p i).cart i = some { x with location := some p } := by
  rw [Dev.cart_foundAt, if_pos rfl, Dev.cart_displaceAt, if_neg apart, entry]
  rfl

/-- R1: the place the cartridge was recorded at has it no longer. -/
theorem Dev.occ_foundAt_left (places : d.cat.places.length = 28) (located : d.OccupantsLocated) {q : Place} (other : q ≠ p)
    (recorded : x.location = some q) (held : d.occ q = .cart i) : (d.foundAt p i).occ q = .none := by
  obtain ⟨same, -⟩ := d.displaceAt_frame p
  have stood : (d.displaceAt p).cart i = some x := by rw [Dev.cart_displaceAt, if_neg apart, entry]
  rw [Dev.foundAt, Dev.occ_modMqu, Dev.occ_moveCart (same.trans places), if_neg (fun here => other (Option.some.inj here).symm),
    Dev.occ_vacate (same.trans places), if_pos]
  exact ⟨by rw [stood]; exact recorded, by rw [Dev.occ_displaceAt places located other, held]⟩

end Found

theorem Dev.displaced_displaceAt (d : Dev) (p : Place) (i : Option CartIx) : d.Displaced (d.displaceAt p) p i := by
  intro j held _
  rw [Dev.cart_displaceAt, if_pos held]
  cases d.cart j <;> rfl

theorem Dev.displaced_foundAt (d : Dev) (p : Place) (i : CartIx) : d.Displaced (d.foundAt p i) p (some i) := by
  intro j held other
  rw [Dev.cart_foundAt, if_neg fun same => other (congrArg some same)]
  exact d.displaced_displaceAt p none j held nofun

theorem Dev.Displaced.of_carts {d e g : Dev} {p : Place} {i : Option CartIx} (h : d.Displaced e p i) (same : ∀ j, g.cart j = e.cart j) :
    d.Displaced g p i := fun j held other => by rw [same]; exact h j held other

theorem Dev.displaced_registerAt {d : Dev} (carts : d.cat.carts.length = 64) (located : d.OccupantsLocated) (p : Place)
    (l : Option Label) : d.Displaced ((d.displaceAt p).registerAt p l) p none := by
  intro j held _
  obtain ⟨-, length, -⟩ := d.displaceAt_frame p
  obtain ⟨y, entry, -⟩ := located p j held
  have left : (d.displaceAt p).cart j = some { y with location := none } := by rw [Dev.cart_displaceAt, if_pos held, entry]; rfl
  have kept := Dev.cart_registerAt_keeps Cart.HomeFree.location (length.trans carts) (by rw [left]; simp) p l
  rw [left] at kept
  obtain ⟨z, now, location⟩ := Option.map_eq_some_iff.mp kept
  rw [now]
  exact location

/-! ### No label (R109) -/

theorem Dev.scanNoLabel_unlabelled {d : Dev} {p : Place} {i : CartIx} {x : Cart} (held : d.occ p = .cart i) (entry : d.cart i = some x)
    (unlabelled : x.label = none) : d.scanNoLabel p = d := by
  simp [Dev.scanNoLabel, held, entry, unlabelled]

theorem Dev.scanNoLabel_labelled {d : Dev} {p : Place}
    (labelled : ∀ i x, d.occ p = .cart i → d.cart i = some x → x.label ≠ none) :
    d.scanNoLabel p = (d.displaceAt p).registerAt p none := by
  unfold Dev.scanNoLabel
  split
  · next i held =>
    refine if_neg fun unlabelled => ?_
    obtain ⟨x, entry, blank⟩ := (Option.any_eq_true _ _).mp unlabelled
    exact labelled i x held entry (Option.isNone_iff_eq_none.mp blank)
  · next other => rw [Dev.displaceAt_other other]

/-! ### The EXPORT mark of a mail slot (R108, R110) -/

/-- The EXPORT mark of a mail slot. -/
def Dev.mark (d : Dev) (m : Fin 2) : Option Marked := d.mqu.exportMark.get (mailChan m)

/-- R110: the mark stays when the scan shows what it names, and goes otherwise. -/
theorem Dev.mark_checkExportMark (d : Dev) (m : Fin 2) (k : ScanKind) :
    (d.checkExportMark (.mail m) k).mark m = (d.mark m).filter (d.shows (.mail m) k) := by
  unfold Dev.checkExportMark Dev.mark
  dsimp only
  split
  · next unmarked => rw [unmarked]; rfl
  · next t marked =>
    split
    · next shown => rw [marked, Option.filter_some_pos shown]
    · next hidden => rw [marked, Option.filter_some_neg (Bool.eq_false_iff.mpr hidden), Dev.push_mqu, Dev.modMqu_mqu, Pair.get_set]

theorem Dev.exportMark_scanLabel (d : Dev) (p : Place) (l : Label) : (d.scanLabel p l).mqu.exportMark = d.mqu.exportMark := by
  obtain ⟨-, -, -, -, -, mark⟩ := d.displaceAt_frame p
  cases named : d.byLabel l with
  | none => rw [Dev.scanLabel_unknown named, Dev.exportMark_registerAt, mark]
  | some i =>
    obtain same | same | same | ⟨q, same⟩ := Dev.scanLabel_known named p <;> rw [same]
    · rw [Dev.setOcc_exportMark, mark]
    · rw [Dev.exportMark_foundAt]
    · rw [(Dev.Unconfirms.joinScan ..).mqu, Dev.exportMark_foundAt]

/-- R3: a scanned label changes the label of no registered cartridge. -/
theorem Dev.label_scanLabel {d : Dev} (carts : d.cat.carts.length = 64) (p : Place) (l : Label) {j : CartIx}
    (h : d.cart j ≠ none ∨ d.byLabel l ≠ none) : ((d.scanLabel p l).cart j).map (·.label) = (d.cart j).map (·.label) := by
  cases named : d.byLabel l with
  | none =>
    obtain ⟨-, length, -⟩ := d.displaceAt_frame p
    have used : (d.displaceAt p).cart j ≠ none := mt (d.free_displaceAt p j).mp (h.resolve_right (not_not.mpr named))
    rw [Dev.scanLabel_unknown named, Dev.cart_registerAt_keeps Cart.HomeFree.label (length.trans carts) used, Dev.label_displaceAt]
  | some i =>
    obtain same | same | same | ⟨q, same⟩ := Dev.scanLabel_known named p <;> rw [same]
    · rw [Dev.cart_setOcc, Dev.label_displaceAt]
    · rw [Dev.label_foundAt]
    · rw [Dev.cart_of_carts (Dev.Unconfirms.joinScan ..).carts, Dev.label_foundAt]

theorem Dev.mark_reconcile_empty (d : Dev) (m : Fin 2) : (d.reconcile (.mail m) .empty).mark m = none := by
  rw [Dev.reconcile_eq, Dev.mark_checkExportMark]
  refine Option.filter_eq_none_iff.mpr fun t _ => ?_
  cases t <;> simp [Dev.shows]

theorem Dev.mark_reconcile_label {l : Label} (allowed : labelOk l = true) (d : Dev) (m : Fin 2) :
    (d.reconcile (.mail m) (.label l)).mark m =
      (d.mark m).filter ((d.scanLabel (.mail m) l).shows (.mail m) (.label l)) := by
  rw [Dev.reconcile_eq, Dev.mark_checkExportMark, Dev.readAt, if_pos allowed, Dev.mark, Dev.exportMark_scanLabel]
  rfl

/-- R108: the label of the cartridge that the mark names, and of no other, keeps the mark. -/
theorem Dev.byLabel_scanLabel_marked {d : Dev} (carts : d.cat.carts.length = 64) (p : Place) (l : Label) {i : CartIx} {x : Cart}
    (entry : d.cart i = some x) (alone : ∀ j y, d.cart j = some y → y.label = x.label → j = i) :
    (d.scanLabel p l).byLabel l = some i ↔ x.label = some l := by
  constructor
  · intro named
    have now := Dev.label_of_byLabel named
    rw [Dev.label_scanLabel carts p l (.inl (by simp [entry])), entry] at now
    exact Option.some.inj now
  · intro label
    have named : d.byLabel l = some i := by
      refine find?_allCarts_eq_some.mpr ⟨by simp [entry, label], fun j below => ?_⟩
      refine Bool.eq_false_iff.mpr fun held => ?_
      obtain ⟨y, other, same⟩ := (Option.any_eq_true _ _).mp held
      exact below.ne (alone j y other ((of_decide_eq_true same).trans label.symm))
    rw [Dev.byLabel_of_labels (fun j => Dev.label_scanLabel carts p l (.inr (by simp [named]))), named]

/-! ### The obligation -/

/-- R108: what the label of a registered cartridge leaves, by where the catalogue records it. -/
theorem Dev.scanLabel_registered {d : Dev} (places : d.cat.places.length = 28) (located : d.OccupantsLocated) (p : Place) {l : Label}
    {i : CartIx} {x : Cart} (named : d.byLabel l = some i) (entry : d.cart i = some x) :
    let e := d.scanLabel p l
    (x.location = none → e.occ p = .cart i ∧ (e.cart i).bind (·.location) = some p ∧ d.Displaced e p (some i)) ∧
    (x.location = some p → (∀ c, p ≠ .drive c) → e = d) ∧
    ∀ q, x.location = some q → q ≠ p →
      ((∃ c, q = .drive c) ∨ d.confirmed q = true → e.occ p = .unregistered ∧ d.Displaced e p (some i) ∧ e.cart i = d.cart i) ∧
      ((∀ c, q ≠ .drive c) → d.confirmed q = false → e.occ p = .cart i ∧ (e.cart i).bind (·.location) = some p ∧
        d.Displaced e p (some i) ∧ (d.occ q = .cart i → e.occ q = .none) ∧ (q ∈ e.mqu.scanList ∨ e.scanQueued q = true)) := by
  intro e
  have apart (other : x.location ≠ some p) : d.occ p ≠ .cart i := by
    intro held
    obtain ⟨y, same, here⟩ := located p i held
    rw [entry] at same
    exact other (Option.some.inj same ▸ here)
  refine ⟨fun absent => ?_, fun there slot => Dev.scanLabel_there named entry there slot, fun q recorded other => ⟨fun stands => ?_,
    fun slot unconfirmed => ?_⟩⟩
  · have apart := apart (by simp [absent])
    have found : e = d.foundAt p i := Dev.scanLabel_absent named entry absent
    rw [found, Dev.cart_foundAt_same entry apart]
    exact ⟨Dev.occ_foundAt places, rfl, d.displaced_foundAt p i⟩
  · have apart := apart (by simpa [recorded] using other)
    have unknown : e = (d.displaceAt p).setOcc p .unregistered :=
      Dev.scanLabel_elsewhere named entry recorded (stands.imp_right fun confirmed => ⟨other, confirmed⟩)
    obtain ⟨length, -⟩ := d.displaceAt_frame p
    rw [unknown, Dev.occ_setOcc (length.trans places), if_pos rfl, Dev.cart_setOcc, Dev.cart_displaceAt, if_neg apart]
    exact ⟨rfl, (d.displaced_displaceAt p (some i)).of_carts fun j => Dev.cart_setOcc .., rfl⟩
  · have apart := apart (by simpa [recorded] using other)
    have moved : e = (d.foundAt p i).joinScan false q := Dev.scanLabel_moved named entry recorded slot other unconfirmed
    have work := Dev.Unconfirms.joinScan (d.foundAt p i) false q
    have same (j : CartIx) := Dev.cart_of_carts work.carts j
    rw [moved, work.occ, work.occ, same, Dev.cart_foundAt_same entry apart]
    exact ⟨Dev.occ_foundAt places, rfl, (d.displaced_foundAt p i).of_carts same,
      Dev.occ_foundAt_left entry apart places located other recorded, (Dev.toScan_joinScan _ false (mem_allSlots.mpr slot)).queued⟩

/-- Settles O35: the completion by its kind (`Dev.applyScan_read`); a registered cartridge's label by where it is recorded
(`Dev.scanLabel_registered`), any other reading as a registration, and the mark as what the scan shows. -/
theorem emptyScanClearsThePlace : Obligations.EmptyScanClearsThePlace := by
  refine ⟨fun s tag o fresh sent order scan => ?_, fun d p places carts located => ?_⟩
  · intro e gives shows
    have awaits : s.dev.begin.outstanding tag .order := ⟨fresh, sent⟩
    have taken {k : ScanKind} {d : Dev} (applied : e.applyScan o k = d) : gives k d := by
      subst applied
      exact exec_scanCompletion_taken awaits order scan k
    have read {k : ScanKind} (is : k ≠ .doorOpen) : shows k (e.readAt o.src k) := taken (Dev.applyScan_read is e o)
    exact ⟨read nofun, fun l => read nofun, read nofun, taken (Dev.applyScan_doorOpen e o)⟩
  · intro registers displaced
    refine ⟨fun l i x named entry => Dev.scanLabel_registered places located p named entry, fun l unknown => ?_,
      fun i x held entry unlabelled => Dev.scanNoLabel_unlabelled held entry unlabelled, fun labelled => ?_, fun m mail => ?_⟩
    · rw [Dev.scanLabel_unknown unknown]
      exact ⟨Dev.registers_displaced places carts p _, Dev.displaced_registerAt carts located p _⟩
    · rw [Dev.scanNoLabel_labelled labelled]
      exact ⟨Dev.registers_displaced places carts p _, Dev.displaced_registerAt carts located p _⟩
    · subst mail
      intro mark
      refine ⟨d.mark_reconcile_empty m, fun l allowed => ⟨fun i x marked entry _ alone => ?_, fun t marked => ?_⟩⟩
      · have stays := d.mark_reconcile_label allowed m
        have known := Dev.byLabel_scanLabel_marked carts (.mail m) l entry alone
        rw [show d.mark m = some (.cart i) from marked] at stays
        refine stays.trans ?_
        simp [Option.filter_some, Dev.shows, allowed, known]
      · have stays := d.mark_reconcile_label allowed m
        rw [show d.mark m = some (.erased t) from marked] at stays
        refine stays.trans ?_
        simp [Option.filter_some, Dev.shows, allowed]

end Sys2Proof.Machine
end

section
/-! OPEN_BACKUP (R114, R115): each shape of an open that passes its checks is offered to the wait list. -/

namespace Sys2Proof.Machine

theorem exec_openBackup (f : Req) (s : State) : exec (.openBackup f) s = s.does fun d => d.arrive f .openBackup fun r d =>
    d.withForm r (parseOpenBackup f.payload) fun q d => d.openBackup r q := by rfl

theorem exec_openBackup_taken {s : State} {f : Req} {q : BackupOpen} (takes : s.dev.takes f)
    (payload : parseOpenBackup f.payload = some q) : exec (.openBackup f) s = .next { s with dev :=
      ((s.dev.begin.joined f .openBackup).openBackup (s.dev.begin.newReq f .openBackup) q).finish } := by
  rw [exec_openBackup, State.does_arrive _ _ takes, payload, Dev.withForm_some]

theorem Dev.byLabel_of_cat {d e : Dev} (h : e.cat = d.cat) (l : Label) : e.byLabel l = d.byLabel l := by
  simp only [Dev.byLabel, Dev.cart_congr h]
theorem Dev.liveSet_of_cat {d e : Dev} (h : e.cat = d.cat) (n : Nat) : e.liveSet n = d.liveSet n := by
  simp only [Dev.liveSet, Dev.set?_congr h]
theorem Dev.appendFits_of_cat {d e : Dev} (h : e.cat = d.cat) (x : BackupSet) : e.appendFits x = d.appendFits x := by
  simp only [Dev.appendFits, Dev.cart_congr h]

/-! ### R114, by what the open names -/

section Passed
variable {d : Dev} {r : ReqId} {q : BackupOpen} (pool : q.pool ≤ 4) (client : r.port ≠ .P)
  (allowed : (d.cat.live.pool q.pool).allows r.port = true)
include pool client allowed

theorem Dev.openBackup_new (target : q.target = none) (append : q.append = none) :
    d.openBackup r q = d.offerOpen r (.backup q.pool q.expiry q.verifyAfter none) none := by
  simp [Dev.openBackup, Nat.not_lt.mpr pool, client, allowed, target, append]

theorem Dev.openBackup_target {l : Label} {i : CartIx} (target : q.target = some l) (append : q.append = none)
    (registered : d.byLabel l = some i) :
    d.openBackup r q = d.offerOpen r (.backup q.pool q.expiry q.verifyAfter (some l)) (some i) := by
  simp [Dev.openBackup, Nat.not_lt.mpr pool, client, allowed, target, append, registered]

theorem Dev.openBackup_append {n : Nat} (target : q.target = none) (append : q.append = some n) :
    d.openBackup r q = d.openAppend r q n := by
  simp [Dev.openBackup, Nat.not_lt.mpr pool, client, allowed, target, append]

end Passed

/-- R114, check 4, R115: the set an append names passes. -/
theorem Dev.openAppend_fits {d : Dev} {r : ReqId} {q : BackupOpen} {n : Nat} {i : SetIx} {x : BackupSet}
    (named : d.liveSet n = some i) (set : d.set? i = some x) (owner : x.owner = r.port) (unused : x.inUse = none)
    (closed : x.state = .closed) (pool : q.pool = x.pool) (located : x.locator ≠ none) (fits : d.appendFits x = true) :
    d.openAppend r q n = d.offerOpen r (.append i q.pool q.expiry q.verifyAfter) (x.lastSegment.map (·.cart)) := by
  simp [Dev.openAppend, named, set, owner, unused, closed, pool, located, fits]

/-- Settles O11: the checks are made on the device the request has joined, whose catalogue is the old one. -/
theorem backupOpenIsOffered : Obligations.BackupOpenIsOffered := by
  intro s f q takes payload pool client allowed e r
  have cat : e.cat = s.dev.cat := by simp [e]
  have allowed : (e.cat.live.pool q.pool).allows r.port = true := by rw [cat]; exact allowed
  have named : exec (.openBackup f) s = .next { s with dev := (e.openBackup r q).finish } := exec_openBackup_taken takes payload
  rw [named]
  refine ⟨fun target append => ?_, fun l i target append registered => ?_,
    fun n i x target append live set owner unused closed same located fits => ?_⟩
  · rw [Dev.openBackup_new pool client allowed target append]
  · rw [Dev.openBackup_target pool client allowed target append ((Dev.byLabel_of_cat cat l).trans registered)]
  · rw [Dev.openBackup_append pool client allowed target append,
      Dev.openAppend_fits ((Dev.liveSet_of_cat cat n).trans live) ((Dev.set?_congr cat i).trans set) owner unused closed same located
        ((Dev.appendFits_of_cat cat x).trans fits)]

end Sys2Proof.Machine
end

section
/-! FILE_BEGIN and FILE_END (R122, R124), and the taking of a CLOSE_SET (R128). -/

namespace Sys2Proof.Machine

/-! ### From `exec` to the operation -/

theorem exec_fileBegin (f : Req) (s : State) : exec (.fileBegin f) s = s.does fun d => d.arrive f .fileBegin fun r d =>
    d.withForm r (parseTag f.payload) fun tag d => d.withFiles r fun c _ b d => d.fileBegin r tag c b := by rfl
theorem exec_fileEnd (f : Req) (s : State) : exec (.fileEnd f) s = s.does fun d => d.arrive f .fileEnd fun r d =>
    d.withForm r (parseNone f.payload) fun _ d => d.withFiles r fun c x b d => d.fileEnd r c x b := by rfl
theorem exec_closeSet (f : Req) (s : State) : exec (.closeSet f) s = s.does fun d => d.arrive f .closeSet fun r d =>
    d.withForm r (parseNone f.payload) fun _ d => d.withFiles r fun c x b d => d.closeSet r c x b := by rfl

theorem exec_fileBegin_badTag {s : State} {f : Req} (takes : s.dev.takes f) (payload : parseTag f.payload = none) :
    exec (.fileBegin f) s = .next { s with dev := (s.dev.begin.answered f .fileBegin .badRequest f.handle.toNat []).finish } := by
  rw [exec_fileBegin, State.does_arrive _ _ takes, payload, Dev.withForm_none, Dev.takes_answer .fileBegin takes]

section Named
variable {s : State} {f : Req} {c : Chan} {x : Session} {b : Backup} (takes : s.dev.takes f) (named : s.dev.names f c x)
  (kind : x.kind = .backup b) (granting : b.granting = true)
include takes named kind granting

theorem exec_fileBegin_named {tag : List Byte} (payload : parseTag f.payload = some tag) : exec (.fileBegin f) s = .next { s with dev :=
    ((s.dev.begin.joined f .fileBegin).fileBegin (s.dev.begin.newReq f .fileBegin) tag c b).finish } := by
  rw [exec_fileBegin, State.does_arrive _ _ takes, payload, Dev.withForm_some, Dev.withFiles_joined named _ kind granting]

theorem exec_fileEnd_named (payload : f.payload = []) : exec (.fileEnd f) s = .next { s with dev :=
    ((s.dev.begin.joined f .fileEnd).fileEnd (s.dev.begin.newReq f .fileEnd) c x b).finish } := by
  rw [exec_fileEnd, State.does_arrive _ _ takes, payload, parseNone_nil, Dev.withForm_some, Dev.withFiles_joined named _ kind granting]

theorem exec_closeSet_named (payload : f.payload = []) : exec (.closeSet f) s = .next { s with dev :=
    ((s.dev.begin.joined f .closeSet).closeSet (s.dev.begin.newReq f .closeSet) c x b).finish } := by
  rw [exec_closeSet, State.does_arrive _ _ takes, payload, parseNone_nil, Dev.withForm_some, Dev.withFiles_joined named _ kind granting]

end Named

/-! ### FILE_BEGIN (R122) -/

section Begun
variable {d : Dev} {r : ReqId} {tag : List Byte} {c : Chan} {b : Backup}

theorem Dev.fileBegin_open (file : b.openFile ≠ none) : d.fileBegin r tag c b = d.answer r .badState :=
  if_pos (Option.isSome_iff_ne_none.mpr file)

theorem Dev.fileBegin_full (closed : b.openFile = none) (full : 2048 < b.nextFile) : d.fileBegin r tag c b = d.answer r .setFull := by
  simp [Dev.fileBegin, closed, Config.maxFiles, full]

theorem Dev.fileBegin_opens (closed : b.openFile = none) (room : b.nextFile ≤ 2048) : d.fileBegin r tag c b =
    (d.modBackup c fun b' => { b' with
      openFile := some { file := b.nextFile, tag := tag, startSeq := b.nextData, startOff := (d.chan c).nextOffset
                         crc := crc32Preset }
      nextFile := b'.nextFile + 1 }).answerWith r .ok r.handle (leBytes 2 b.nextFile) := by
  simp [Dev.fileBegin, closed, Config.maxFiles, Nat.not_lt.mpr room]

end Begun

/-- Settles O15: each request reaches its operation on the device it has joined (`exec_fileBegin_named`, `exec_fileEnd_named`). -/
theorem filesOpenAndClose : Obligations.FilesOpenAndClose := by
  refine ⟨fun s f c x b tag takes payload named kind granting => ?_, fun s f takes => ⟨exec_fileBegin_badTag takes, ?_⟩,
    fun s f c x b o takes payload named kind granting file => ?_⟩
  · intro half file
    rw [exec_fileBegin_named takes named kind granting payload]
    refine ⟨fun closed room => ?_, fun opened => ?_, fun closed full => ?_⟩
    · rw [Dev.fileBegin_opens closed room, Dev.takes_modBackup_answerWith .fileBegin takes, Dev.chan_of_ch (Dev.joined_ch ..)]
      rfl
    · rw [Dev.fileBegin_open opened, Dev.takes_answer .fileBegin takes]
    · rw [Dev.fileBegin_full closed full, Dev.takes_answer .fileBegin takes]
  · intro c x b payload named kind granting closed
    rw [exec_fileEnd_named takes named kind granting payload, Dev.fileEnd, closed, Dev.takes_answer .fileEnd takes]
  · rw [exec_fileEnd_named takes named kind granting payload, Dev.fileEnd, file]
    rfl

end Sys2Proof.Machine
end

section
/-! What a session's work and its end leave of the ports (R173, R176) and of its channel (R67, R78, R79). -/

namespace Sys2Proof.Machine

/-! ### The ports -/

/-- R176: what becomes of a notice other than CREDIT: nothing when it is masked, LOST set, or it joins the queue. -/
theorem Dev.notice_plain (d : Dev) (p : Port) {n : Notice} (plain : n.isCredit = false) :
    d.notice p n = d ∨ d.notice p n = d.setPort p { d.port p with lost := true } ∨ d.notice p n = d.noticeJoined p n := by
  have dropped : d.noticeDropped p n = d.setPort p { d.port p with lost := true } := if_neg (by simp [plain])
  unfold Dev.notice
  by_cases enabled : (d.cfg.mask p).getD n.index true = true
  · by_cases up : (d.port p).link = .up
    · rw [Dev.offer_uncoalesced enabled up fun h k r credit => by simp [credit, Notice.isCredit] at plain]
      split
      · exact .inr (.inl dropped)
      · exact .inr (.inr rfl)
    · rw [Dev.offer_down enabled up]
      exact .inr (.inl dropped)
  · rw [Dev.offer_masked enabled]
    exact .inl rfl

/-- R176: a notice other than CREDIT changes a port at most by joining its queue or setting LOST. -/
theorem Dev.port_notice (d : Dev) (p q : Port) {n : Notice} (plain : n.isCredit = false) :
    let u := (d.notice p n).port q
    u.link = (d.port q).link ∧ u.path = (d.port q).path ∧
      (u.notices = (d.port q).notices ∨ q = p ∧ u.notices = (d.port q).notices ++ [n]) := by
  by_cases same : q = p
  · subst same
    rcases d.notice_plain q plain with eq | eq | eq <;> simp [eq, Dev.noticeJoined]
  · simp [Dev.port_notice_of_ne d n same]

/-- R177: a notice for an owner port and port P joins each queue at most once. -/
theorem Dev.port_noticeOwner (d : Dev) (p q : Port) {n : Notice} (plain : n.isCredit = false) :
    let u := (d.noticeOwner p n).port q
    u.link = (d.port q).link ∧ u.path = (d.port q).path ∧
      (u.notices = (d.port q).notices ∨ u.notices = (d.port q).notices ++ [n]) := by
  unfold Dev.noticeOwner
  split
  · obtain ⟨link, path, notices⟩ := d.port_notice .P q plain
    exact ⟨link, path, notices.imp_right And.right⟩
  · next client =>
    obtain ⟨link, path, notices⟩ := d.port_notice p q plain
    by_cases panel : q = .P
    · subst panel
      obtain ⟨link', path', notices'⟩ := (d.notice p n).port_notice .P .P plain
      have before : ((d.notice p n).port .P).notices = (d.port .P).notices := notices.resolve_right fun h => client h.1.symm
      exact ⟨link'.trans link, path'.trans path, before ▸ notices'.imp_right And.right⟩
    · rw [Dev.port_notice_of_ne _ n panel]
      exact ⟨link, path, notices.imp_right And.right⟩

/-- An answer leaves the link and the notices of every port, and every frame on its way out. -/
theorem Dev.port_answerWith (d : Dev) (r : ReqId) (st : Status) (h : Nat) (bs : List Byte) (p : Port) :
    let u := (d.answerWith r st h bs).port p
    u.link = (d.port p).link ∧ u.notices = (d.port p).notices ∧ ∀ m ∈ (d.port p).path, m ∈ u.path := by
  unfold Dev.answerWith
  dsimp only
  by_cases same : p = r.port
  · subst same
    split <;> [split; skip] <;> simp +contextual
  · split <;> [split; skip] <;> simp [Dev.port_setPort_of_ne _ _ _ _ same]

/-- R173: a request that is still to be answered is answered at a port whose link is UP. -/
theorem Dev.mem_path_answer {d : Dev} {r : ReqId} (waits : r ∈ (d.port r.port).unanswered) (up : (d.port r.port).link = .up)
    (st : Status) : ∃ n, OutFrame.answer n r.tag r.handle st [] ∈ ((d.answer r st).port r.port).path := by
  simp [Dev.answer, Dev.answerWith, waits, up]

/-- What the work of a session does at the ports: the settings and the links stay, no frame leaves a response path and no notice its
queue, and at most `k` notices join each queue. -/
structure Dev.Outgoing (k : Nat) (d e : Dev) : Prop where
  cfg : e.cfg = d.cfg
  link : ∀ p, (e.port p).link = (d.port p).link
  path : ∀ p, ∀ m ∈ (d.port p).path, m ∈ (e.port p).path
  notices : ∀ p, ∀ n ∈ (d.port p).notices, n ∈ (e.port p).notices
  length : ∀ p, (e.port p).notices.length ≤ (d.port p).notices.length + k

theorem Dev.port_of_units {d e : Dev} (pa : e.pa = d.pa) (pb : e.pb = d.pb) (pp : e.pp = d.pp) (p : Port) : e.port p = d.port p := by
  cases p
  · exact pa
  · exact pb
  · exact pp

namespace Dev.Outgoing

variable {k : Nat} {d e g : Dev} {c : Chan} {p q : Port} {n : Notice} {st : Status}

theorem refl (d : Dev) : d.Outgoing 0 d := ⟨rfl, fun _ => rfl, fun _ _ h => h, fun _ _ h => h, fun _ => le_refl _⟩

theorem mono {l : Nat} (h : d.Outgoing k e) (le : k ≤ l) : d.Outgoing l e :=
  { h with length := fun p => (h.length p).trans (Nat.add_le_add_left le _) }

theorem of_ports (h : d.Outgoing k e) (cfg : g.cfg = e.cfg) (port : ∀ p, g.port p = e.port p) : d.Outgoing k g where
  cfg := cfg.trans h.cfg
  link p := by rw [port]; exact h.link p
  path p := by rw [port]; exact h.path p
  notices p := by rw [port]; exact h.notices p
  length p := by rw [port]; exact h.length p

theorem of_units (h : d.Outgoing k e) (cfg : g.cfg = e.cfg) (pa : g.pa = e.pa) (pb : g.pb = e.pb) (pp : g.pp = e.pp) :
    d.Outgoing k g := h.of_ports cfg (Dev.port_of_units pa pb pp)

theorem of_tables (h : d.Outgoing k e) (same : e.TablesOnly g) : d.Outgoing k g := h.of_ports same.cfg same.port

theorem answerWith {r : ReqId} {m : Nat} {bs : List Byte} (h : d.Outgoing k e) : d.Outgoing k (e.answerWith r st m bs) := by
  have answered := e.port_answerWith r st m bs
  refine ⟨by simp [h.cfg], fun p => ?_, fun p f hf => ?_, fun p => ?_, fun p => ?_⟩
  all_goals obtain ⟨link, notices, path⟩ := answered p
  · exact link.trans (h.link p)
  · exact path f (h.path p f hf)
  · rw [notices]; exact h.notices p
  · rw [notices]; exact h.length p

theorem answerOpt {r : Option ReqId} (h : d.Outgoing k e) : d.Outgoing k (e.answerOpt r st) := by
  cases r with
  | none => exact h
  | some r => exact h.answerWith

theorem noticeOwner (h : d.Outgoing k e) (plain : n.isCredit = false) : d.Outgoing (k + 1) (e.noticeOwner p n) := by
  have offered (q : Port) := e.port_noticeOwner p q plain
  refine ⟨by simp [h.cfg], fun q => ?_, fun q => ?_, fun q m hm => ?_, fun q => ?_⟩
  all_goals obtain ⟨link, path, notices⟩ := offered q
  · exact link.trans (h.link q)
  · rw [path]; exact h.path q
  · have old := h.notices q m hm
    rcases notices with eq | eq <;> simp [eq, old]
  · have le := h.length q
    rcases notices with eq | eq <;> simp only [eq, List.length_append, List.length_singleton] <;> omega

theorem sessionEnded {s : Session} {why : Reason} {stat : Option Status} {counts : EndCounts} (h : d.Outgoing k e) :
    d.Outgoing (k + 1) (e.sessionEnded s why stat counts) := h.noticeOwner rfl

/-- R176, R177: with one notice or none offered before it, a notice joins the queues of the ports that had room for it. -/
theorem told (h : d.Outgoing k e) (few : k ≤ 1) (plain : n.isCredit = false) (whom : q = p ∨ q = .P) (room : d.roomFor q n) :
    n ∈ ((e.noticeOwner p n).port q).notices := by
  obtain ⟨up, short, enabled⟩ := room
  have length := h.length q
  have joins {g : Dev} (port : g.port q = e.port q) (cfg : g.cfg = e.cfg) : n ∈ ((g.notice q n).port q).notices := by
    have eq := Dev.offer_uncoalesced (d := g) (p := q) (n := n) (by rw [cfg, h.cfg]; exact enabled)
      (by rw [port, h.link]; exact up) fun h k r credit => by simp [credit, Notice.isCredit] at plain
    rw [if_neg (by rw [port]; omega)] at eq
    simp [Dev.notice, eq, Dev.noticeJoined]
  unfold Dev.noticeOwner
  by_cases panel : p = .P
  · obtain rfl : q = .P := whom.elim (·.trans panel) id
    rw [if_pos panel]
    exact joins rfl rfl
  · rw [if_neg panel]
    rcases whom with rfl | rfl
    · exact Dev.mem_notices_notice plain (joins rfl rfl)
    · exact joins (Dev.port_notice_of_ne e n (Ne.symm panel)) (by simp)

theorem modChan {f : Channel → Channel} (h : d.Outgoing k e) : d.Outgoing k (e.modChan c f) := h.of_units rfl rfl rfl rfl
theorem modSess {f : Session → Session} (h : d.Outgoing k e) : d.Outgoing k (e.modSess c f) := h.of_units rfl rfl rfl rfl
theorem modBackup {f : Backup → Backup} (h : d.Outgoing k e) : d.Outgoing k (e.modBackup c f) := h.modSess
theorem modVerify {f : Verify → Verify} (h : d.Outgoing k e) : d.Outgoing k (e.modVerify c f) := h.modSess
theorem modDrive {f : Drive → Drive} (h : d.Outgoing k e) : d.Outgoing k (e.modDrive c f) := h.of_units rfl rfl rfl rfl
theorem modMqu {f : Mover → Mover} (h : d.Outgoing k e) : d.Outgoing k (e.modMqu f) := h.of_units rfl rfl rfl rfl
theorem setSess {s : Option Session} (h : d.Outgoing k e) : d.Outgoing k (e.setSess c s) := h.of_units rfl rfl rfl rfl
theorem modSet {i : SetIx} {f : BackupSet → BackupSet} (h : d.Outgoing k e) : d.Outgoing k (e.modSet i f) := h.of_tables (.modSet ..)
theorem setInUse {i : SetIx} {o : Option Nat} (h : d.Outgoing k e) : d.Outgoing k (e.setInUse i o) := h.of_tables (.setInUse ..)
theorem freeSet {i : Option SetIx} (h : d.Outgoing k e) : d.Outgoing k (e.freeSet i) := h.of_tables (.freeSet ..)
theorem push {t : Todo} (h : d.Outgoing k e) : d.Outgoing k (e.push t) := h.of_tables (.push ..)
theorem pushAll {ts : List Todo} (h : d.Outgoing k e) : d.Outgoing k (e.pushAll ts) :=
  h.of_units (by simp) (by simp) (by simp) (by simp)
theorem look (h : d.Outgoing k e) : d.Outgoing k e.look := h.pushAll
theorem freePages {m : Nat} (h : d.Outgoing k e) : d.Outgoing k (e.freePages c m) :=
  h.of_units (by simp) (by simp) (by simp) (by simp)
theorem freeChannelMemory (h : d.Outgoing k e) : d.Outgoing k (e.freeChannelMemory c) := h.modChan.freePages

theorem endRun (h : d.Outgoing k e) : d.Outgoing k (e.endRun c) := by
  refine freePages (modChan ?_)
  split
  · exact h.modChan.push
  · exact h

theorem refuseOpen (h : d.Outgoing k e) : d.Outgoing k (e.refuseOpen c st) := by
  unfold Dev.refuseOpen
  split
  · refine modSess ?_
    split
    · exact h.answerWith
    · exact h
  · exact h

theorem ite {P : Prop} [Decidable P] (h : d.Outgoing k e) (h' : d.Outgoing k g) : d.Outgoing k (if P then e else g) := by
  split <;> assumption

/-- R78, R79: the end of a session says nothing at a port of its own. -/
theorem endSession (h : d.Outgoing k e) : d.Outgoing k (e.endSession c) := by
  have forgotten {g : Dev} (m : Nat) (h : d.Outgoing k g) : d.Outgoing k (g.forgetRequester m) := by
    rw [Dev.forgetRequester_eq]
    exact h.modMqu.modDrive.modDrive.push.push
  have idle {g : Dev} (h : d.Outgoing k g) : d.Outgoing k (g.startIdle c) := by
    obtain ⟨t, eq, -⟩ := g.startIdle_eq c
    rw [eq]
    exact h.modDrive
  cases sess : e.sess c with
  | none => rw [Dev.endSession, sess]; exact h
  | some s =>
    have left {g : Dev} (h : d.Outgoing k g) : d.Outgoing k (g.cartLeft s) := by
      unfold Dev.cartLeft
      split
      · exact h.push.look
      · exact h
    have unclaimed {g : Dev} (h : d.Outgoing k g) : d.Outgoing k (g.cartUnclaimed s) := by
      unfold Dev.cartUnclaimed
      split
      · exact h.of_tables (g.unclaim_frame ..)
      · exact h
    rw [Dev.endSession_eq sess]
    exact (idle (forgotten _ (left (unclaimed h.freeChannelMemory).setSess.modDrive).modSess)).pushAll.look

end Dev.Outgoing

/-! ### The channel of a session that has ended -/

/-- R78, R79, R67: a channel without session, claim, pages or queued records. -/
structure Dev.Vacant (c : Chan) (d : Dev) : Prop where
  gone : d.SessionOver c
  pages : d.smc.heldBy c = 0
  wq : (d.chan c).wq = []
  rq : (d.chan c).rq = []

theorem Dev.Vacant.of_ch {c : Chan} {d e : Dev} (h : d.Vacant c) (ch : e.ch = d.ch) (smc : e.smc = d.smc) : e.Vacant c where
  gone := Dev.sessionOver_of_ch ch h.gone
  pages := by rw [smc]; exact h.pages
  wq := by rw [Dev.chan_of_ch ch]; exact h.wq
  rq := by rw [Dev.chan_of_ch ch]; exact h.rq

/-- R51: a channel that frees all its pages holds none. -/
theorem Smc.heldBy_release (m : Smc) (c : Chan) : (m.release c (m.heldBy c)).heldBy c = 0 := by
  simp [Smc.release, Smc.heldBy]

theorem Dev.heldBy_freeChannelMemory (d : Dev) (c : Chan) : (d.freeChannelMemory c).smc.heldBy c = 0 := by
  unfold Dev.freeChannelMemory Dev.freePages
  dsimp only
  split
  · next none => exact none
  · exact d.smc.heldBy_release c

theorem Dev.queues_freeChannelMemory (d : Dev) (c : Chan) :
    ((d.freeChannelMemory c).chan c).wq = [] ∧ ((d.freeChannelMemory c).chan c).rq = [] := by
  unfold Dev.freeChannelMemory
  rw [Dev.chan_of_ch (Dev.freePages_ch ..), Dev.chan_modChan]
  exact ⟨rfl, rfl⟩

@[simp] theorem Dev.rq_modSess (d : Dev) (c k : Chan) (f : Session → Session) : ((d.modSess c f).chan k).rq = (d.chan k).rq := by
  cases c <;> cases k <;> rfl
@[simp] theorem Dev.rq_modDrive (d : Dev) (c k : Chan) (f : Drive → Drive) : ((d.modDrive c f).chan k).rq = (d.chan k).rq := by
  cases c <;> cases k <;> rfl
@[simp] theorem Dev.rq_setSess (d : Dev) (c k : Chan) (s : Option Session) : ((d.setSess c s).chan k).rq = (d.chan k).rq := by
  cases c <;> cases k <;> rfl
@[simp] theorem Dev.wq_setSess (d : Dev) (c k : Chan) (s : Option Session) : ((d.setSess c s).chan k).wq = (d.chan k).wq := by
  cases c <;> cases k <;> rfl

theorem Dev.cartUnclaimed_frame (d : Dev) (s : Session) : d.TablesOnly (d.cartUnclaimed s) := by
  unfold Dev.cartUnclaimed
  split
  · exact d.unclaim_frame ..
  · exact .refl d

/-- R67, R78, R79: nothing is left on the channel of a session that has ended. -/
theorem Dev.vacant_endSession {d : Dev} {c : Chan} {s : Session} (h : d.sess c = some s) : (d.endSession c).Vacant c := by
  obtain ⟨wq, rq⟩ := d.queues_freeChannelMemory c
  have frame := (d.freeChannelMemory c).cartUnclaimed_frame s
  have kept : let e := d.endSession c
      (e.chan c).wq = ((d.freeChannelMemory c).chan c).wq ∧ (e.chan c).rq = ((d.freeChannelMemory c).chan c).rq ∧
        e.smc = (d.freeChannelMemory c).smc := by
    obtain ⟨t, idle, -⟩ := ((((d.released c s).cartLeft s).stopYielding c).forgetRequester s.handle).startIdle_eq c
    have left (e : Dev) : (e.cartLeft s).smc = e.smc := by unfold Dev.cartLeft; split <;> simp [Dev.cartReleased]
    rw [Dev.endSession_eq h, idle, Dev.forgetRequester_eq]
    simp only [Dev.chan_of_ch (Dev.look_ch _), Dev.chan_of_ch (Dev.pushAll_ch ..), Dev.chan_push, Dev.wq_modDrive, Dev.rq_modDrive,
      Dev.chan_modMqu, Dev.stopYielding, Dev.wq_modSess, Dev.rq_modSess, Dev.chan_of_ch (Dev.cartLeft_ch ..), Dev.released,
      Dev.wq_setSess, Dev.rq_setSess, Dev.chan_of_ch frame.ch, Dev.look_smc, Dev.pushAll_smc, Dev.modDrive_smc, Dev.push_smc,
      Dev.modMqu_smc, Dev.modSess_smc, left, Dev.setSess_smc, frame.smc, and_self]
  obtain ⟨keptWq, keptRq, smc⟩ := kept
  exact ⟨Dev.sessionOver_endSession h, by rw [smc]; exact d.heldBy_freeChannelMemory c, keptWq.trans wq, keptRq.trans rq⟩

section Ended
variable {d g : Dev} {c : Chan} {t : Session} (s : Session) (why : Reason) (st : Option Status) (counts : EndCounts) (r : Option ReqId)
  (answer : Status)

/-- R136 to R169: the session's end, its notice and the answer to an ABORT that waited leave the channel vacant. -/
theorem Dev.vacant_ended (h : g.sess c = some t) :
    (((g.endSession c).sessionEnded s why st counts).answerOpt r answer).Vacant c :=
  (Dev.vacant_endSession h).of_ch (by rw [Dev.answerOpt_ch, Dev.sessionEnded_ch]) (by simp [Dev.sessionEnded])

theorem Dev.set?_ended (j : SetIx) :
    (((g.endSession c).sessionEnded s why st counts).answerOpt r answer).set? j = g.set? j :=
  Dev.set?_of_sets (by simp [Dev.sessionEnded, Dev.endSession_sets]) j

/-- R177: SESSION_ENDED goes to the owner port and to port P. -/
theorem Dev.Outgoing.ended {k : Nat} (h : d.Outgoing k g) (few : k ≤ 1) (p : Port) (whom : p = s.owner ∨ p = .P)
    (room : d.roomFor p (.sessionEnded s.handle why st counts)) : Notice.sessionEnded s.handle why st counts ∈
      ((((g.endSession c).sessionEnded s why st counts).answerOpt r answer).port p).notices := by
  have offered := h.endSession (c := c).told few rfl whom room
  exact (Dev.Outgoing.refl ((g.endSession c).sessionEnded s why st counts)).answerOpt.notices p _ offered

end Ended

end Sys2Proof.Machine
end

section
/-! The aborts of a session (R136, R137, R152, R163, R169): what each leaves of the sets, the ports and the channel. -/

namespace Sys2Proof.Machine

/-! ### The sets -/

theorem Dev.refuseOpen_cat (d : Dev) (c : Chan) (st : Status) : (d.refuseOpen c st).cat = d.cat := by
  unfold Dev.refuseOpen
  split
  · dsimp only
    split <;> simp
  · rfl

theorem Dev.set?_freeSet (d : Dev) (k : Option SetIx) (j : SetIx) : (d.freeSet k).set? j =
    if k = some j then (d.set? j).map fun y => { y with inUse := none } else d.set? j := by
  cases k with
  | none => rfl
  | some k => rw [Dev.freeSet, Dev.set?_setInUse]; by_cases same : j = k <;> simp [same, Ne.symm]

/-- A session that names no set, or an entry that holds none, changes none. -/
theorem Dev.set?_of_unheld {d : Dev} {s : Session} (unheld : d.setOf s = none) (f : BackupSet → BackupSet) (j : SetIx) :
    d.set? j = if s.set = some j then (d.set? j).map f else d.set? j := by
  split
  · next names =>
    have free : d.set? j = none := by simpa [Dev.setOf, names] using unheld
    rw [free]; rfl
  · rfl

/-- R137: a set whose backup session has ended after an abort. -/
def BackupSet.abandoned (y : BackupSet) : BackupSet :=
  if y.state = .opened then { y with state := .aborted, digest := none, locator := none, inUse := none } else { y with inUse := none }

theorem Dev.set?_setAborted (d : Dev) (s : Session) (j : SetIx) : (d.setAborted s).set? j =
    if s.set = some j then (d.set? j).map BackupSet.abandoned else d.set? j := by
  unfold Dev.setAborted
  split
  · next i y found =>
    obtain ⟨names, set⟩ := Dev.setOf_eq_some.mp found
    by_cases same : j = i
    · subst same
      by_cases opened : y.state = .opened <;> simp [names, set, opened, Dev.set?_setInUse, BackupSet.abandoned]
    · have other : ¬ some i = some j := by simp [Ne.symm same]
      rw [names, if_neg other, Dev.set?_setInUse, if_neg same]
      split
      · rw [Dev.set?_modSet, if_neg same]
      · rfl
  · next none => exact Dev.set?_of_unheld none _ j

/-- R152: a set whose verify session ended early on a day. -/
def BackupSet.verifyLeft (started : Bool) (day : Nat) (y : BackupSet) : BackupSet :=
  { y with
    inUse := none
    verify := if started then { y.verify with result := if 0 < y.verify.hard then .failed else .incomplete, day := some day }
      else y.verify }

theorem Dev.set?_writeResult (d : Dev) (i j : SetIx) (res : VerifyResult) (announce : Bool) :
    (d.writeResult i res announce).set? j =
      if j = i then (d.set? i).map fun y => { y with verify := { y.verify with result := res, day := some d.cat.day } }
      else d.set? j := by
  rw [← Dev.set?_modSet]
  refine Dev.set?_congr ?_ j
  unfold Dev.writeResult
  dsimp only
  split
  · split <;> simp
  · rfl

theorem Dev.set?_verifyReleased (d : Dev) (s : Session) (started : Bool) (why : Reason) (j : SetIx) :
    (d.verifyReleased s started why).set? j =
      if s.set = some j then (d.set? j).map (BackupSet.verifyLeft started d.cat.day) else d.set? j := by
  unfold Dev.verifyReleased
  split
  · next i y found =>
    obtain ⟨names, set⟩ := Dev.setOf_eq_some.mp found
    by_cases same : j = i
    · subst same
      cases started <;> simp [names, set, Dev.set?_freeSet, Dev.set?_writeResult, BackupSet.verifyLeft]
    · have other : ¬ some i = some j := by simp [Ne.symm same]
      rw [names, if_neg other, Dev.set?_freeSet, if_neg other]
      split
      · rw [Dev.set?_writeResult, if_neg same]
      · rfl
  · next none => exact Dev.set?_of_unheld none _ j

/-- R169: a set that is in use no longer by the session of a handle. -/
def BackupSet.leftBy (h : Nat) (y : BackupSet) : BackupSet := if y.inUse = some h then { y with inUse := none } else y

theorem BackupSet.leftBy_leftBy (h : Nat) (y : BackupSet) : (y.leftBy h).leftBy h = y.leftBy h := by
  unfold leftBy
  by_cases used : y.inUse = some h <;> simp [used]

/-- R169: the in-use field of a set is cleared when it names the handle. -/
def Dev.leave (h : Nat) (d : Dev) (k : SetIx) : Dev := if (d.set? k).any (fun y => y.inUse = some h) then d.setInUse k none else d

theorem Dev.set?_leave (d : Dev) (h : Nat) (k j : SetIx) :
    (d.leave h k).set? j = if j = k then (d.set? j).map (BackupSet.leftBy h) else d.set? j := by
  unfold Dev.leave
  by_cases same : j = k
  · subst same
    cases set : d.set? j with
    | none => simp [set]
    | some y => by_cases used : y.inUse = some h <;> simp [set, used, BackupSet.leftBy, Dev.set?_setInUse]
  · rw [if_neg same]
    split
    · rw [Dev.set?_setInUse, if_neg same]
    · rfl

theorem Dev.set?_foldl_leave (h : Nat) (l : List SetIx) (d : Dev) (j : SetIx) :
    (l.foldl (Dev.leave h) d).set? j = if j ∈ l then (d.set? j).map (BackupSet.leftBy h) else d.set? j := by
  induction l generalizing d with
  | nil => simp
  | cons k l ih =>
    rw [List.foldl_cons, ih, Dev.set?_leave]
    by_cases same : j = k
    · subst same
      by_cases later : j ∈ l <;> simp [later, Function.comp_def, BackupSet.leftBy_leftBy]
    · simp [same]

/-- R169: no set is in use by the session of the handle any more. -/
theorem Dev.set?_freeHandle (d : Dev) (h : Nat) (j : SetIx) : (d.freeHandle h).set? j = (d.set? j).map (BackupSet.leftBy h) :=
  (Dev.set?_foldl_leave h allSets d j).trans (if_pos (List.mem_finRange j))

/-! ### The abort of a backup (R136, R137) -/

/-- R136: the backup that an abort ends or turns to its trailer: its CLOSE_SET is answered, and its media-wait timer stopped. -/
def Dev.closeRefused (d : Dev) (c : Chan) (b : Backup) (st : Option Status) : Dev :=
  (d.answerOpt b.pendingClose (st.getD .aborted)).modSess c fun s => { s with mediaTimer := none }

/-- R136, R137: the context of a backup that is ABORTING. -/
def Backup.aborted (why : Reason) (st : Option Status) (b : Backup) : Backup :=
  { b with state := .aborting, window := none, credits := 0, undelivered := false, openFile := none, pendingClose := none
           writer := .stream, digest := none, building := false, selecting := false, span := .none, ending := some (why, st) }

/-- R67, R137: a backup that has been ACTIVE is ABORTING, and its stage memory is given back. -/
def Dev.turnAborting (d : Dev) (c : Chan) (b : Backup) (why : Reason) (st : Option Status) : Dev :=
  ((d.closeRefused c b st).freeChannelMemory c).modBackup c (Backup.aborted why st)

theorem Dev.drive_freeChannelMemory (d : Dev) (c k : Chan) : (d.freeChannelMemory c).drive k = d.drive k := by
  unfold Dev.freeChannelMemory
  rw [Dev.drive_of_ch (Dev.freePages_ch ..)]
  exact Dev.drive_modChan d c k _ fun _ => rfl

section Backup
variable {d : Dev} {c : Chan} {s : Session} {b : Backup} {why : Reason} {st : Option Status} (backup : d.backup? c = some (s, b))
include backup

theorem Dev.backupAbort_eq : d.backupAbort c why st =
    if b.state = .aborting ∧ why.allowsTrailer = true then d
    else if b.wasActive then
      if !why.allowsTrailer then (d.turnAborting c b why st).finishAbort c why st
      else if ((d.turnAborting c b why st).writeInFlight c s.handle).isSome then d.turnAborting c b why st
      else (d.turnAborting c b why st).decideTrailer c why st
    else (d.closeRefused c b st).finishAbort c why st := by
  rw [Dev.backupAbort, backup]
  rfl

theorem Dev.backup?_closeRefused : (d.closeRefused c b st).backup? c = some ({ s with mediaTimer := none }, b) :=
  Dev.backup?_modSess ((Dev.backup?_of_sess (Dev.sess_answerOpt ..)).trans backup) _ rfl

theorem Dev.backup?_turnAborting : (d.turnAborting c b why st).backup? c =
    some ({ s with mediaTimer := none, kind := .backup (b.aborted why st) }, b.aborted why st) :=
  Dev.backup?_modBackup ((Dev.backup?_of_sess (Dev.sess_freeChannelMemory ..)).trans (Dev.backup?_closeRefused backup)) _

end Backup

section Turned
variable (d : Dev) (c : Chan) (b : Backup) (why : Reason) (st : Option Status)

theorem Dev.outgoing_closeRefused : d.Outgoing 0 (d.closeRefused c b st) := (Dev.Outgoing.refl d).answerOpt.modSess
theorem Dev.outgoing_turnAborting : d.Outgoing 0 (d.turnAborting c b why st) :=
  (d.outgoing_closeRefused c b st).freeChannelMemory.modBackup

theorem Dev.closeRefused_cat : (d.closeRefused c b st).cat = d.cat := by simp [Dev.closeRefused]
theorem Dev.turnAborting_cat : (d.turnAborting c b why st).cat = d.cat := by
  simp [Dev.turnAborting, Dev.freeChannelMemory, Dev.closeRefused_cat]

/-- R67: an ABORTING backup's queues are empty and its pages free; its drive is left as it was. -/
theorem Dev.turnAborting_chan : let e := d.turnAborting c b why st
    (e.chan c).wq = [] ∧ (e.chan c).rq = [] ∧ e.smc.heldBy c = 0 ∧ e.drive c = d.drive c := by
  obtain ⟨wq, rq⟩ := (d.closeRefused c b st).queues_freeChannelMemory c
  refine ⟨(Dev.wq_modBackup ..).trans wq, (Dev.rq_modSess ..).trans rq, (d.closeRefused c b st).heldBy_freeChannelMemory c, ?_⟩
  rw [Dev.turnAborting, Dev.drive_modBackup, Dev.drive_freeChannelMemory, Dev.closeRefused, Dev.drive_modSess,
    Dev.drive_of_ch (Dev.answerOpt_ch ..)]

theorem Dev.writeInFlight_of_drive {d e : Dev} {c : Chan} (h : e.drive c = d.drive c) (n : Nat) :
    e.writeInFlight c n = d.writeInFlight c n := by
  unfold Dev.writeInFlight
  rw [h]

end Turned

/-- R51, R52: a channel that holds no page may take one. -/
theorem Smc.mayTake_of_none {m : Smc} {c : Chan} (balanced : m.balanced) (none : m.heldBy c = 0) : m.mayTake c = true := by
  obtain ⟨total, zero, one⟩ := balanced
  cases c <;>
    simp only [Smc.heldBy, Pair.get, Config.pages, Config.maxHeld] at total zero one none <;>
    simp [Smc.mayTake, Smc.heldBy, Pair.get, otherChan, Config.maxHeld, Config.reserve, none] <;> omega

theorem Smc.heldBy_take (m : Smc) (c : Chan) : (m.take c).heldBy c = m.heldBy c + 1 := by simp [Smc.take, Smc.heldBy]

/-- R137: a drive that can write a session's trailer: READY with the cartridge mounted, no unload under way, its position known. -/
structure Drive.writesOn (i : CartIx) (x : Drive) : Prop where
  state : x.state = .ready
  unload : x.unload = none
  pos : x.pos ≠ none
  mounted : x.mounted = .cart i

/-- R137: the ABORT trailer heads the write queue, alone and with its page. -/
theorem Dev.decideTrailer_granted {d : Dev} {c : Chan} {s : Session} {b : Backup} {i : SetIx} {y : BackupSet} {g : Segment}
    (backup : d.backup? c = some (s, b)) (set : d.setOf s = some (i, y)) (last : y.lastSegment = some g)
    (drive : (d.drive c).writesOn g.cart) (page : d.smc.mayTake c = true) (why : Reason) (st : Option Status) :
    d.decideTrailer c why st =
      (({ d with smc := d.smc.take c } : Dev).modChan c fun y => { y with wq := [.trailer .abort] }).push (.command c) := by
  obtain ⟨state, unload, pos, mounted⟩ := drive
  rw [Dev.decideTrailer, backup]
  simp [set, last, state, unload, mounted, Option.isSome_iff_ne_none.mpr pos, Dev.takePage, page]

/-! ### What every abort that ends its session leaves -/

/-- R78, R177: a session has ended: its channel is vacant, and SESSION_ENDED reaches the owner port and port P when they had room. -/
structure Dev.EndTold (c : Chan) (x : Session) (why : Reason) (counts : EndCounts) (d e : Dev) : Prop where
  vacant : e.Vacant c
  told : ∀ p, p = x.owner ∨ p = .P → d.roomFor p (.sessionEnded x.handle why none counts) →
    .sessionEnded x.handle why none counts ∈ (e.port p).notices

section Ends
variable {d : Dev} {c : Chan} {x : Session} (why : Reason)

/-- R137: the end of an aborted backup, on a device `g` that has come of `d`. -/
theorem Dev.finishAbort_leaves {g : Dev} {t : Session} {b : Backup} (backup : g.backup? c = some (t, b)) (owner : t.owner = x.owner)
    (handle : t.handle = x.handle) (ports : d.Outgoing 0 g) : let e := g.finishAbort c why none
    Dev.EndTold c x why .none d e ∧
      ∀ j, e.set? j = if t.set = some j then (g.set? j).map BackupSet.abandoned else g.set? j := by
  have frame := g.setAborted_frame t
  have sess := Dev.sess_refuseOpen ((frame.sess c).trans (Dev.backup?_eq_some.mp backup).1) (abortStatus true why)
  have ports := (ports.of_tables frame).refuseOpen (c := c) (st := abortStatus true why)
  rw [Dev.finishAbort_eq why none backup]
  refine ⟨⟨Dev.vacant_ended _ _ _ _ _ _ sess, ?_⟩,
    fun j => by rw [Dev.set?_ended, Dev.set?_congr (Dev.refuseOpen_cat ..), Dev.set?_setAborted]⟩
  rw [← owner, ← handle]
  exact ports.ended t why none .none _ _ (by omega)

/-- R136: a backup that may write no trailer, or that has not been ACTIVE, ends at once. -/
theorem Dev.backupAbort_leaves {b : Backup} (backup : d.backup? c = some (x, b))
    (atOnce : why.allowsTrailer = false ∨ b.wasActive = false ∧ b.state ≠ .aborting) : let e := d.backupAbort c why none
    Dev.EndTold c x why .none d e ∧
      ∀ j, e.set? j = if x.set = some j then (d.set? j).map BackupSet.abandoned else d.set? j := by
  have refused := Dev.finishAbort_leaves (x := x) why (Dev.backup?_closeRefused (st := none) backup) rfl rfl
    (d.outgoing_closeRefused c b none)
  have turned := Dev.finishAbort_leaves (x := x) why (Dev.backup?_turnAborting (why := why) (st := none) backup) rfl rfl
    (d.outgoing_turnAborting c b why none)
  simp only [Dev.set?_congr (d.closeRefused_cat c b none)] at refused
  simp only [Dev.set?_congr (d.turnAborting_cat c b why none)] at turned
  have eq := Dev.backupAbort_eq (why := why) (st := none) backup
  have goesOn : ¬ (b.state = .aborting ∧ why.allowsTrailer = true) := by
    rintro ⟨aborting, allows⟩
    rcases atOnce with refuses | ⟨-, other⟩
    · simp [allows] at refuses
    · exact other aborting
  rw [if_neg goesOn] at eq
  by_cases active : b.wasActive = true
  · have refuses : why.allowsTrailer = false := atOnce.resolve_right fun h => by simp [active] at h
    rw [if_pos active, if_pos (by simp [refuses])] at eq
    rw [eq]
    exact turned
  · rw [if_neg active] at eq
    rw [eq]
    exact refused

theorem Dev.outgoing_refuseUnless (d : Dev) (c : Chan) (started : Bool) (st : Status) :
    d.Outgoing 0 (d.refuseUnless c started st) := (Dev.Outgoing.refl d).ite (Dev.Outgoing.refl d).refuseOpen

theorem Dev.refuseUnless_cat (d : Dev) (c : Chan) (started : Bool) (st : Status) : (d.refuseUnless c started st).cat = d.cat := by
  unfold Dev.refuseUnless
  split
  · rfl
  · exact d.refuseOpen_cat c st

/-- R152: at most VERIFY_DONE is said of a verify that ends early, before its SESSION_ENDED. -/
theorem Dev.Outgoing.verifyReleased {k : Nat} {e : Dev} {started : Bool} (h : d.Outgoing k e) :
    d.Outgoing (k + 1) (e.verifyReleased x started why) := by
  have result (i : SetIx) (res : VerifyResult) (announce : Bool) : d.Outgoing (k + 1) (e.writeResult i res announce) := by
    unfold Dev.writeResult
    dsimp only
    split
    · exact (h.modSet.noticeOwner rfl).ite (h.modSet.mono (Nat.le_succ k))
    · exact h.modSet.mono (Nat.le_succ k)
  unfold Dev.verifyReleased
  split
  · exact freeSet ((result ..).ite (h.mono (Nat.le_succ k)))
  · exact h.mono (Nat.le_succ k)

theorem Dev.verifyAbort_eq {v : Verify} (verify : d.verify? c = some (x, v)) : d.verifyAbort c why =
    ((((d.refuseUnless c v.started (abortStatus false why)).verifyReleased x v.started why).endSession c).sessionEnded x why none
      .none).answerOpt x.pendingAbort .ok := by
  rw [Dev.verifyAbort, verify]
  rfl

theorem Dev.verifyAbort_leaves {v : Verify} (verify : d.verify? c = some (x, v)) : let e := d.verifyAbort c why
    Dev.EndTold c x why .none d e ∧
      ∀ j, e.set? j = if x.set = some j then (d.set? j).map (BackupSet.verifyLeft v.started d.cat.day) else d.set? j := by
  obtain ⟨-, stands⟩ := Dev.refuseUnless_spec v.started (abortStatus false why) (c := c) (d := d)
    (by rw [(Dev.verify?_eq_some.mp verify).1]; rfl)
  have cat := d.refuseUnless_cat c v.started (abortStatus false why)
  have ports := d.outgoing_refuseUnless c v.started (abortStatus false why)
  rw [Dev.verifyAbort_eq why verify]
  generalize d.refuseUnless c v.started (abortStatus false why) = g at stands cat ports
  obtain ⟨t, sess⟩ := Option.isSome_iff_exists.mp stands
  have sess := (g.verifyReleased_spec c x v.started why).2.trans sess
  exact ⟨⟨Dev.vacant_ended _ _ _ _ _ _ sess, (ports.verifyReleased why).ended x why none .none _ _ (by omega)⟩,
    fun j => by rw [Dev.set?_ended, Dev.set?_verifyReleased, Dev.set?_congr cat, cat]⟩

theorem Dev.restoreAbort_leaves {r : Restore} (restore : d.restore? c = some (x, r)) : let e := d.restoreAbort c why
    Dev.EndTold c x why .none d e ∧
      ∀ j, e.set? j = if x.set = some j then (d.set? j).map (fun y => { y with inUse := none }) else d.set? j := by
  have eq : d.restoreAbort c why = ((((d.refuseUnless c r.started (abortStatus false why)).freeSet x.set).endSession
      c).sessionEnded x why none .none).answerOpt x.pendingAbort .ok := by
    rw [Dev.restoreAbort, restore]; rfl
  obtain ⟨-, stands⟩ := Dev.refuseUnless_spec r.started (abortStatus false why) (c := c) (d := d)
    (by rw [(Dev.restore?_eq_some.mp restore).1]; rfl)
  have cat := d.refuseUnless_cat c r.started (abortStatus false why)
  have ports := d.outgoing_refuseUnless c r.started (abortStatus false why)
  rw [eq]
  generalize d.refuseUnless c r.started (abortStatus false why) = g at stands cat ports
  obtain ⟨t, sess⟩ := Option.isSome_iff_exists.mp stands
  have sess := ((Dev.TablesOnly.freeSet g x.set).sess c).trans sess
  exact ⟨⟨Dev.vacant_ended _ _ _ _ _ _ sess, ports.freeSet.ended x why none .none _ _ (by omega)⟩,
    fun j => by rw [Dev.set?_ended, Dev.set?_freeSet, Dev.set?_congr cat]⟩

/-- R169: the end of every rebuild, on a device `g` that has come of `d`. -/
theorem Dev.rebuildOver_leaves {g : Dev} {t : Session} {b : Rebuild} (rebuild : g.rebuild? c = some (t, b)) :
    let e := g.rebuildOver c why
    e.Vacant c ∧ (∀ j, e.set? j = (g.set? j).map (BackupSet.leftBy t.handle)) ∧
      (d.Outgoing 0 g → Dev.EndTold c t why (rebuildCounts b) d e) := by
  have sess : ((g.endRun c).freeHandle t.handle).sess c = some t := by
    rw [(Dev.freeHandle_frame _ _).sess, Dev.sess_endRun, (Dev.rebuild?_eq_some.mp rebuild).1]
  have vacant := Dev.vacant_ended t why none (rebuildCounts b) t.pendingAbort .ok sess
  rw [Dev.rebuildOver, rebuild]
  exact ⟨vacant, fun j => by rw [Dev.set?_ended, Dev.set?_freeHandle, Dev.set?_congr (Dev.endRun_cat ..)],
    fun ports => ⟨vacant, (ports.endRun.of_tables (Dev.freeHandle_frame ..)).ended t why none _ _ _ (by omega)⟩⟩

/-- R169: an incomplete rebuild is over once its cartridge is set. -/
theorem Dev.rebuildIncomplete_over (stands : (d.rebuild? c).isSome = true) :
    ∃ g : Dev, (g.rebuild? c).isSome = true ∧ d.rebuildIncomplete c why = g.rebuildOver c why := by
  have closed := (Dev.RebuildWork.closeGroup (c := c) d .none none).stands stands
  have set (e : Dev) (i : CartIx) (header : Bool) (f : Cart → Cart) :
      e.RebuildWork c ((if header then (e.modCart i f).reselect else e).flagSuspect i) := by
    refine .of_tables (.trans ?_ ((Dev.TablesOnly.modCart ..).trans (.reselect _)))
    split
    · exact (Dev.TablesOnly.modCart ..).trans (.reselect _)
    · exact .refl e
  unfold Dev.rebuildIncomplete
  generalize (d.closeGroup c .none none).1 = e at closed
  obtain ⟨⟨s, b⟩, rebuild⟩ := Option.isSome_iff_exists.mp closed
  dsimp only
  rw [rebuild]
  dsimp only
  cases s.cart with
  | none => exact ⟨e, closed, rfl⟩
  | some i => exact ⟨_, (set e i b.anyHeader _).stands closed, rfl⟩

theorem Dev.rebuildAbort_leaves {b : Rebuild} (rebuild : d.rebuild? c = some (x, b)) : let e := d.rebuildAbort c why
    e.Vacant c ∧ (b.state ≠ .reading → Dev.EndTold c x why (rebuildCounts b) d e ∧
      ∀ j, e.set? j = (d.set? j).map (BackupSet.leftBy x.handle)) := by
  obtain ⟨sess, kind⟩ := Dev.rebuild?_eq_some.mp rebuild
  rw [Dev.rebuildAbort, rebuild]
  dsimp only
  split
  · next reading =>
    obtain ⟨g, stands, eq⟩ := Dev.rebuildIncomplete_over (c := c) why (by rw [rebuild]; rfl)
    obtain ⟨⟨t, b'⟩, rebuild'⟩ := Option.isSome_iff_exists.mp stands
    rw [eq]
    exact ⟨(Dev.rebuildOver_leaves (d := d) why rebuild').1, fun other => absurd reading other⟩
  · have refused : (d.refuseOpen c (abortStatus false why)).rebuild? c = some ({ x with openReq := none, openTimer := none }, b) :=
      Dev.rebuild?_eq_some.mpr ⟨Dev.sess_refuseOpen sess _, kind⟩
    obtain ⟨vacant, sets, told⟩ := Dev.rebuildOver_leaves (d := d) why refused
    obtain ⟨-, told⟩ := told (Dev.Outgoing.refl d).refuseOpen
    exact ⟨vacant, fun _ => ⟨⟨vacant, told⟩, fun j => by rw [sets, Dev.set?_congr (Dev.refuseOpen_cat ..)]⟩⟩

end Ends

/-! ### A backup that turns to its ABORT trailer (R136, R137) -/

section Trailer
variable {d : Dev} {c : Chan} {x : Session} {b : Backup} {why : Reason} (backup : d.backup? c = some (x, b))
  (active : b.wasActive = true) (first : b.state ≠ .aborting) (allows : why.allowsTrailer = true)
include backup active first allows

theorem Dev.backupAbort_turns : d.backupAbort c why none =
    if (d.writeInFlight c x.handle).isSome then d.turnAborting c b why none
    else (d.turnAborting c b why none).decideTrailer c why none := by
  obtain ⟨-, -, -, drive⟩ := d.turnAborting_chan c b why none
  rw [Dev.backupAbort_eq backup, if_neg (fun h => first h.1), if_pos active, if_neg (by simp [allows]),
    Dev.writeInFlight_of_drive drive]

theorem Dev.backupAbort_writes {i : SetIx} {y : BackupSet} {g : Segment} (balanced : d.smc.balanced)
    (idle : (d.writeInFlight c x.handle).isSome = false) (names : x.set = some i) (set : d.set? i = some y)
    (last : y.lastSegment = some g) (drive : (d.drive c).writesOn g.cart) :
    let e := d.turnAborting c b why none
    d.backupAbort c why none =
      (({ e with smc := e.smc.take c } : Dev).modChan c fun y => { y with wq := [.trailer .abort] }).push (.command c) := by
  intro e
  obtain ⟨-, -, none, same⟩ := d.turnAborting_chan c b why .none
  have balanced : e.smc.balanced := (Dev.Steady.refl d).answerOpt.modSess.freeChannelMemory.modBackup.pages balanced
  have set : e.set? i = some y := (Dev.set?_congr (d.turnAborting_cat c b why .none) i).trans set
  rw [Dev.backupAbort_turns backup active first allows, if_neg (by simp [idle])]
  exact Dev.decideTrailer_granted (Dev.backup?_turnAborting backup) (Dev.setOf_eq_some.mpr ⟨names, set⟩) last
    (by rw [same]; exact drive) (Smc.mayTake_of_none balanced none) why .none

end Trailer

/-! ### ABORT (R138, R151, R163, R164) -/

theorem exec_abort (f : Req) (s : State) : exec (.abort f) s = s.does fun d => d.arrive f .abort fun r d =>
    d.withForm r (parseNone f.payload) fun _ d => d.withSession r fun c x d => d.abortRequest r c x := by rfl

theorem exec_abort_named {s : State} {f : Req} {c : Chan} {x : Session} (takes : s.dev.takes f) (payload : f.payload = [])
    (named : s.dev.names f c x) : exec (.abort f) s = .next { s with dev :=
      ((s.dev.begin.joined f .abort).abortRequest (s.dev.begin.newReq f .abort) c x).finish } := by
  rw [exec_abort, State.does_arrive _ _ takes, payload, parseNone_nil, Dev.withForm_some, Dev.withSession_joined named]

theorem Dev.abortAllowed_joined (s : State) (f : Req) (k : ReqKind) (c : Chan) (x : Session) (b : Backup) :
    (s.dev.begin.joined f k).abortAllowed c x b = s.dev.abortAllowed c x b := by
  have drive : (s.dev.begin.joined f k).drive c = s.dev.drive c := Dev.drive_of_ch (Dev.joined_ch ..) c
  unfold Dev.abortAllowed
  rw [Dev.writeInFlight_of_drive drive]

theorem Dev.abortRequest_taken {d : Dev} (r : ReqId) {c : Chan} {x : Session}
    (allowed : ∀ b, x.kind = .backup b → d.abortAllowed c x b = true) : d.abortRequest r c x =
      (d.modSess c fun x => { x with pendingAbort := some r }).abortSession c .abortedByClient := by
  unfold Dev.abortRequest
  cases kind : x.kind with
  | backup b => simp [allowed b kind]
  | _ => rfl

theorem Dev.abortRequest_refused {d : Dev} (r : ReqId) {c : Chan} {x : Session} {b : Backup} (kind : x.kind = .backup b)
    (refused : d.abortAllowed c x b = false) : d.abortRequest r c x = d.answer r .badState := by
  simp [Dev.abortRequest, kind, refused]

/-- R136, R152, R163, R169: the abort of a session is that of its kind. -/
theorem Dev.abortSession_eq {d : Dev} {c : Chan} {x : Session} (sess : d.sess c = some x) (why : Reason) :
    (∀ b, x.kind = .backup b → d.abortSession c why = d.backupAbort c why none) ∧
    (∀ v, x.kind = .verify v → d.abortSession c why = d.verifyAbort c why) ∧
    (∀ r, x.kind = .restore r → d.abortSession c why = d.restoreAbort c why) ∧
    ∀ r, x.kind = .rebuild r → d.abortSession c why = d.rebuildAbort c why := by
  refine ⟨fun b kind => ?_, fun v kind => ?_, fun r kind => ?_, fun r kind => ?_⟩ <;> simp only [Dev.abortSession, sess, kind]

/-- Settles O20: the request on the device it has joined; then the abort of each kind of session by what it leaves
(`Dev.backupAbort_leaves` and its like), and a backup's turn to its trailer (`Dev.backupAbort_turns`, `Dev.backupAbort_writes`). -/
theorem abortEndsTheSession : Obligations.AbortEndsTheSession := by
  refine ⟨fun s f c x takes payload named => ?_, fun d c x why sess => ?_, fun d c x b why backup active first allows balanced => ?_⟩
  · intro taken
    have allowed (ok : ∀ b, x.kind = .backup b → s.dev.abortAllowed c x b = true) : taken := by
      have ok (b : Backup) (kind : x.kind = .backup b) := (Dev.abortAllowed_joined s f .abort c x b).trans (ok b kind)
      exact (exec_abort_named takes payload named).trans (by rw [Dev.abortRequest_taken _ ok])
    refine ⟨fun other => allowed fun b kind => absurd kind (other b), fun b kind ok => allowed fun b' kind' => ?_,
      fun b kind refused => ?_⟩
    · obtain rfl : b = b' := SessKind.backup.inj (kind.symm.trans kind')
      exact ok
    · rw [exec_abort_named takes payload named, Dev.abortRequest_refused _ kind ((Dev.abortAllowed_joined ..).trans refused),
        Dev.takes_answer .abort takes]
  · intro e ended told setsBut
    have vacant (h : e.Vacant c) : ended := ⟨h.gone.sess, h.gone.claim, h.pages, h.wq, h.rq⟩
    have leaves {g : Dev} {f : BackupSet → BackupSet} (eq : e = g) (left : Dev.EndTold c x why .none d g ∧
        ∀ j, g.set? j = if x.set = some j then (d.set? j).map f else d.set? j) :
        ended ∧ told .none ∧ setsBut ∧ ∀ i y, x.set = some i → d.set? i = some y → e.set? i = some (f y) := by
      rw [← eq] at left
      obtain ⟨gone, sets⟩ := left
      exact ⟨vacant gone.vacant, gone.told, fun j other => (sets j).trans (if_neg other),
        fun i y names set => by rw [sets, if_pos names, set]; rfl⟩
    obtain ⟨ofBackup, ofVerify, ofRestore, ofRebuild⟩ := Dev.abortSession_eq sess why
    refine ⟨fun b kind atOnce => ?_, fun v kind => ?_, fun r kind => ?_, fun r kind => ?_⟩
    · exact leaves (ofBackup b kind) (Dev.backupAbort_leaves why (Dev.backup?_eq_some.mpr ⟨sess, kind⟩) atOnce)
    · exact leaves (ofVerify v kind) (Dev.verifyAbort_leaves why (Dev.verify?_eq_some.mpr ⟨sess, kind⟩))
    · exact leaves (ofRestore r kind) (Dev.restoreAbort_leaves why (Dev.restore?_eq_some.mpr ⟨sess, kind⟩))
    · have eq : e = d.rebuildAbort c why := ofRebuild r kind
      obtain ⟨empty, early⟩ := Dev.rebuildAbort_leaves why (Dev.rebuild?_eq_some.mpr ⟨sess, kind⟩)
      rw [← eq] at empty early
      refine ⟨vacant empty, fun other => ?_⟩
      obtain ⟨gone, sets⟩ := early other
      exact ⟨gone.told, fun i y set => by rw [sets, set]; rfl⟩
  · intro e aborting
    let g := d.turnAborting c b why none
    obtain ⟨wq, rq, pages, -⟩ := d.turnAborting_chan c b why none
    have eq : e = d.backupAbort c why none := Dev.abortSession_backup backup why
    have same (cat : e.cat = g.cat) (queue : (e.chan c).rq = (g.chan c).rq) (sess : e.sess c = g.sess c) : aborting :=
      ⟨cat.trans (d.turnAborting_cat c b why none), queue.trans rq, _, _,
        (Dev.backup?_of_sess sess).trans (Dev.backup?_turnAborting backup), rfl, rfl, rfl, rfl, rfl, rfl⟩
    refine ⟨fun flying => ?_, fun i y s idle names set last state unload pos mounted => ?_⟩
    · have turned : e = g := eq.trans ((Dev.backupAbort_turns backup active first allows).trans (if_pos flying))
      exact ⟨same (by rw [turned]) (by rw [turned]) (by rw [turned]), by rw [turned]; exact wq, by rw [turned]; exact pages⟩
    · have writes := eq.trans (Dev.backupAbort_writes backup active first allows balanced idle names set last
        ⟨state, unload, pos, mounted⟩)
      have chan : e.chan c = { g.chan c with wq := [.trailer .abort] } := by
        rw [writes, Dev.chan_push, Dev.chan_modChan]; rfl
      have held : e.smc = g.smc.take c := by rw [writes, Dev.push_smc]; rfl
      refine ⟨same (by rw [writes, Dev.push_cat]; rfl) (by rw [chan]) (by rw [Dev.sess, chan]; rfl), by rw [chan], ?_⟩
      rw [held, Smc.heldBy_take, show g.smc.heldBy c = 0 from pages]

end Sys2Proof.Machine
end

section
/-! CLOSE_SET (R128), the end of the CLOSE trailer's WRITE (R131, R138), and the verify session that may follow it (R141, R142). -/

namespace Sys2Proof.Machine

/-! ### CLOSE_SET is taken (R128) -/

/-- R128: the context of a backup whose CLOSE_SET has been taken. -/
def Backup.closeAsked (r : ReqId) (b : Backup) : Backup :=
  { b with pendingClose := some r, credits := 0, undelivered := false, window := none, writer := .stream, building := true
           state := if b.state = .active then .closing else b.state, returnClosing := decide (b.state = .spanning) }

/-- R54, R128: a half is handed over as the last DATA block. -/
def Dev.lastBlock (d : Dev) (c : Chan) (fromB : Bool) (bytes : List Byte) (tape seq : Nat) : Dev :=
  (d.handBlock c .data fromB bytes tape seq).modBackup c fun b => { b with nextData := b.nextData + 1 }

/-- R128: the current half is handed over when it is filling. -/
def Dev.handLast (d : Dev) (c : Chan) (tape : Nat) : Dev :=
  let y := d.chan c
  match (y.half y.curB).state, d.backup? c with
  | .filling, some (_, b) => d.lastBlock c y.curB (y.half y.curB).bytes tape b.nextData
  | _, _ => d

theorem Dev.handLast_filling {d : Dev} {c : Chan} {s : Session} {b : Backup} (backup : d.backup? c = some (s, b)) (tape : Nat)
    (filling : ((d.chan c).half (d.chan c).curB).state = .filling) :
    d.handLast c tape = d.lastBlock c (d.chan c).curB ((d.chan c).half (d.chan c).curB).bytes tape b.nextData := by
  simp only [Dev.handLast, filling, backup]

theorem Dev.handLast_of_ne {d : Dev} {c : Chan} (tape : Nat) (other : ((d.chan c).half (d.chan c).curB).state ≠ .filling) :
    d.handLast c tape = d := by
  unfold Dev.handLast
  dsimp only
  split
  · exact absurd ‹_› other
  · rfl

theorem Dev.closeTaken_eq (d : Dev) (r : ReqId) (c : Chan) (s : Session) : d.closeTaken r c s =
    (((d.modBackup c (Backup.closeAsked r)).handLast c (((d.setOf s).map fun p => p.2.tape).getD 0)).push (.build c)).push
      (.command c) := rfl

theorem Dev.chan_modBackup (d : Dev) (c : Chan) (f : Backup → Backup) :
    (d.modBackup c f).chan c = { d.chan c with sess := (d.modBackup c f).sess c } := by
  rw [Dev.sess, Dev.modBackup, Dev.modSess, Dev.chan_modChan]

section Taken
variable {d : Dev} (r : ReqId) {c : Chan} (s : Session)

theorem Dev.closeTaken_empty (empty : ((d.chan c).half (d.chan c).curB).state ≠ .filling) :
    d.closeTaken r c s = ((d.modBackup c (Backup.closeAsked r)).push (.build c)).push (.command c) := by
  rw [Dev.closeTaken_eq, Dev.handLast_of_ne]
  rw [Dev.chan_modBackup]
  exact empty

theorem Dev.closeTaken_filling {x : Session} {b : Backup} (backup : d.backup? c = some (x, b))
    (filling : ((d.chan c).half (d.chan c).curB).state = .filling) : d.closeTaken r c s =
      (((d.modBackup c (Backup.closeAsked r)).lastBlock c (d.chan c).curB ((d.chan c).half (d.chan c).curB).bytes
        (((d.setOf s).map fun p => p.2.tape).getD 0) b.nextData).push (.build c)).push (.command c) := by
  have chan := d.chan_modBackup c (Backup.closeAsked r)
  rw [Dev.closeTaken_eq, Dev.handLast_filling (Dev.backup?_modBackup backup _) _ (by rw [chan]; exact filling), chan]
  rfl

end Taken

/-! ### What a session that goes on keeps -/

/-- R142: the start of the media-wait timer: there is none, it expires at once, or it runs. -/
theorem Dev.startMediaWait_cases (d : Dev) (c : Chan) (timed : Bool) : d.startMediaWait c timed = (d, false) ∨
    d.cfg.openWait = 0 ∧ d.startMediaWait c timed = (d, true) ∨
    d.startMediaWait c timed = (d.modSess c (Session.waitsFor (d.cfg.openWait * 1000)), false) := by
  have third {P Q : Prop} [Decidable P] [Decidable Q] (x y z : Dev × Bool) : let e := if P then x else if Q then y else z
      e = x ∨ Q ∧ e = y ∨ e = z := by
    by_cases hP : P <;> by_cases hQ : Q <;> simp [hP, hQ]
  exact third ..

theorem Dev.look_frame (d : Dev) : d.TablesOnly d.look := by constructor <;> simp

theorem Dev.cartLeft_frame (d : Dev) (s : Session) : d.TablesOnly (d.cartLeft s) := by
  unfold Dev.cartLeft
  split
  · exact (Dev.TablesOnly.reselect d).trans (Dev.look_frame _)
  · exact .refl d

/-- R79: another session cartridge is taken, on the channel whose session is `s`. -/
def Dev.cartTaken (d : Dev) (c : Chan) (i : CartIx) (s : Session) (yields : Bool) : Dev :=
  ((((d.cartUnclaimed s).modSess c (Session.movedTo i yields)).cartLeft s).claimHere c i s.handle).look

/-- R79: a session keeps the cartridge it has, or takes another. -/
theorem Dev.setSessCart_cases (d : Dev) (c : Chan) (i : CartIx) :
    d.setSessCart c i = d ∨ ∃ s y, d.setSessCart c i = d.cartTaken c i s y := by
  unfold Dev.setSessCart
  split
  · exact .inl rfl
  · next s _ =>
    split
    · exact .inl rfl
    · exact .inr ⟨s, (d.cartUnclaimed s).sessionCartOf i (some s.handle), rfl⟩

theorem Dev.cartTaken_sets (d : Dev) (c : Chan) (i : CartIx) (s : Session) (y : Bool) :
    (d.cartTaken c i s y).cat.sets = d.cat.sets := by
  have claimed (e : Dev) : (e.claimHere c i s.handle).cat.sets = e.cat.sets := by unfold Dev.claimHere; split <;> simp
  have left (e : Dev) : (e.cartLeft s).cat = e.cat := by unfold Dev.cartLeft; split <;> simp
  have unclaimed : (d.cartUnclaimed s).cat.sets = d.cat.sets := by unfold Dev.cartUnclaimed; split <;> simp [Dev.unclaim_sets]
  rw [Dev.cartTaken, Dev.look_cat, claimed, left, Dev.modSess_cat, unclaimed]

theorem Dev.setSessCart_sets (d : Dev) (c : Chan) (i : CartIx) : (d.setSessCart c i).cat.sets = d.cat.sets := by
  rcases d.setSessCart_cases c i with eq | ⟨s, y, eq⟩ <;> rw [eq]
  exact d.cartTaken_sets c i s y

theorem Dev.startMediaWait_cat (d : Dev) (c : Chan) (timed : Bool) : (d.startMediaWait c timed).1.cat = d.cat := by
  rcases d.startMediaWait_cases c timed with eq | ⟨-, eq⟩ | eq <;> rw [eq]
  rfl

theorem Dev.startMediaWait_waits {d : Dev} (wait : d.cfg.openWait ≠ 0) (c : Chan) (timed : Bool) :
    (d.startMediaWait c timed).2 = false := by
  rcases d.startMediaWait_cases c timed with eq | ⟨zero, -⟩ | eq
  · rw [eq]
  · exact absurd zero wait
  · rw [eq]

/-- R142: a verify session in WAIT_MEDIA, a cartridge its session cartridge. -/
def Dev.verifyPlaced (d : Dev) (c : Chan) (i : CartIx) : Dev :=
  (d.modVerify c fun v => { v with state := .waitMedia, at_ := 0 }).setSessCart c i

/-- Whose session it is, and of which set. -/
def Session.identity (s : Session) : Nat × Port × Option SetIx := (s.handle, s.owner, s.set)

/-- The session on a channel is the same, and its drive and pages are left as they were. -/
structure Dev.SessionStays (c : Chan) (d e : Dev) : Prop where
  identity : (e.sess c).map Session.identity = (d.sess c).map Session.identity
  drive : e.drive c = d.drive c
  smc : e.smc = d.smc

namespace Dev.SessionStays

variable {d e g : Dev} {c : Chan}

theorem refl (d : Dev) : d.SessionStays c d := ⟨rfl, rfl, rfl⟩

theorem of_ch (h : d.SessionStays c e) (ch : g.ch = e.ch) (smc : g.smc = e.smc) : d.SessionStays c g where
  identity := by rw [Dev.sess_of_ch ch]; exact h.identity
  drive := (Dev.drive_of_ch ch c).trans h.drive
  smc := smc.trans h.smc

theorem of_tables (h : d.SessionStays c e) (same : e.TablesOnly g) : d.SessionStays c g := h.of_ch same.ch same.smc

theorem modSess (h : d.SessionStays c e) {f : Session → Session} (same : ∀ s, (f s).identity = s.identity) :
    d.SessionStays c (e.modSess c f) where
  identity := by rw [Dev.sess_modSess, Option.map_map, ← h.identity]; exact congrArg (Option.map · _) (funext same)
  drive := (Dev.drive_modSess ..).trans h.drive
  smc := h.smc

theorem modVerify (h : d.SessionStays c e) (f : Verify → Verify) : d.SessionStays c (e.modVerify c f) :=
  h.modSess fun s => by split <;> rfl

theorem setSessCart (h : d.SessionStays c e) (i : CartIx) : d.SessionStays c (e.setSessCart c i) := by
  rcases e.setSessCart_cases c i with eq | ⟨s, y, eq⟩ <;> rw [eq]
  · exact h
  · have moved := (h.of_tables (e.cartUnclaimed_frame s)).modSess (f := Session.movedTo i y) fun _ => rfl
    exact ((moved.of_tables (Dev.cartLeft_frame ..)).of_tables (Dev.claimHere_frame ..)).of_tables (Dev.look_frame _)

theorem startMediaWait (h : d.SessionStays c e) (timed : Bool) : d.SessionStays c (e.startMediaWait c timed).1 := by
  rcases e.startMediaWait_cases c timed with eq | ⟨-, eq⟩ | eq <;> rw [eq]
  · exact h
  · exact h
  · exact h.modSess fun _ => rfl

theorem verifyPlaced (h : d.SessionStays c e) (i : CartIx) : d.SessionStays c (e.verifyPlaced c i) := (h.modVerify _).setSessCart i

/-- The set a session works on stays the same. -/
theorem set (h : d.SessionStays c e) : (e.sess c).bind (·.set) = (d.sess c).bind (·.set) := by
  have of (o : Option Session) : o.bind (·.set) = (o.map Session.identity).bind (·.2.2) := by cases o <;> rfl
  rw [of, of, h.identity]

end Dev.SessionStays

/-! ### A verify waits for its segment's cartridge (R142) -/

theorem Dev.verifyWait_eq {d : Dev} {c : Chan} {s : Session} {v : Verify} {g : Segment} (verify : d.verify? c = some (s, v))
    (segment : ((d.setOf s).bind fun p => p.2.segment v.segment) = some g) : d.verifyWait c =
      if ((d.verifyPlaced c g.cart).startMediaWait c v.started).2 then
        ((d.verifyPlaced c g.cart).startMediaWait c v.started).1.verifyAbort c .mediaTimeout
      else ((d.verifyPlaced c g.cart).startMediaWait c v.started).1.push (.bring c) := by
  rw [Dev.verifyWait, verify]
  simp only [segment]
  split
  all_goals
    next e eq =>
    rw [show (d.verifyPlaced c g.cart).startMediaWait c v.started = _ from eq]
    rfl

theorem Dev.verifyPlaced_sets (d : Dev) (c : Chan) (i : CartIx) : (d.verifyPlaced c i).cat.sets = d.cat.sets :=
  Dev.setSessCart_sets ..

/-- R142, R152: no set but the session's own is touched, whether it waits or is aborted. -/
theorem Dev.set?_verifyAbort_of_ne {d : Dev} {c : Chan} {j : SetIx} (other : (d.sess c).bind (·.set) ≠ some j) (why : Reason) :
    (d.verifyAbort c why).set? j = d.set? j := by
  cases verify : d.verify? c with
  | none => rw [Dev.verifyAbort, verify]
  | some p =>
    obtain ⟨sess, -⟩ := Dev.verify?_eq_some.mp (show d.verify? c = some (p.1, p.2) from verify)
    rw [sess, Option.bind_some] at other
    obtain ⟨-, sets⟩ := Dev.verifyAbort_leaves why (show d.verify? c = some (p.1, p.2) from verify)
    exact (sets j).trans (if_neg other)

theorem Dev.set?_verifyWait_of_ne {d : Dev} {c : Chan} {j : SetIx} (other : (d.sess c).bind (·.set) ≠ some j) :
    (d.verifyWait c).set? j = d.set? j := by
  cases verify : d.verify? c with
  | none => rw [Dev.verifyWait, verify]
  | some p =>
    obtain ⟨s, v⟩ := p
    cases segment : (d.setOf s).bind fun p => p.2.segment v.segment with
    | none =>
      have eq : d.verifyWait c = d.verifyAbort c .driveFault := by rw [Dev.verifyWait, verify]; simp only [segment]
      rw [eq, Dev.set?_verifyAbort_of_ne other]
    | some g =>
      have stays := ((Dev.SessionStays.refl (c := c) d).verifyPlaced g.cart).startMediaWait v.started
      have sets : ((d.verifyPlaced c g.cart).startMediaWait c v.started).1.set? j = d.set? j :=
        (Dev.set?_congr (Dev.startMediaWait_cat ..) j).trans (Dev.set?_of_sets (Dev.verifyPlaced_sets ..) j)
      rw [Dev.verifyWait_eq verify segment]
      split
      · rw [Dev.set?_verifyAbort_of_ne (by rw [stays.set]; exact other), sets]
      · rw [Dev.set?_push, sets]

namespace Dev.Outgoing

variable {k : Nat} {d e : Dev} {c : Chan}

theorem setSessCart {i : CartIx} (h : d.Outgoing k e) : d.Outgoing k (e.setSessCart c i) := by
  rcases e.setSessCart_cases c i with eq | ⟨s, y, eq⟩ <;> rw [eq]
  · exact h
  · have moved := (h.of_tables (e.cartUnclaimed_frame s)).modSess (c := c) (f := Session.movedTo i y)
    exact ((moved.of_tables (Dev.cartLeft_frame ..)).of_tables (Dev.claimHere_frame ..)).look

theorem startMediaWait {timed : Bool} (h : d.Outgoing k e) : d.Outgoing k (e.startMediaWait c timed).1 := by
  rcases e.startMediaWait_cases c timed with eq | ⟨-, eq⟩ | eq <;> rw [eq]
  · exact h
  · exact h
  · exact h.modSess

/-- R152: VERIFY_DONE and SESSION_ENDED at most. -/
theorem verifyAbort {why : Reason} (h : d.Outgoing k e) : d.Outgoing (k + 2) (e.verifyAbort c why) := by
  cases verify : e.verify? c with
  | none => rw [Dev.verifyAbort, verify]; exact h.mono (Nat.le_add_right k 2)
  | some p =>
    rw [Dev.verifyAbort_eq (x := p.1) (v := p.2) why verify]
    exact ((ite h h.refuseOpen).verifyReleased why).endSession.sessionEnded.answerOpt

theorem verifyWait (h : d.Outgoing k e) : d.Outgoing (k + 2) (e.verifyWait c) := by
  cases verify : e.verify? c with
  | none => rw [Dev.verifyWait, verify]; exact h.mono (Nat.le_add_right k 2)
  | some p =>
    obtain ⟨s, v⟩ := p
    cases segment : (e.setOf s).bind fun p => p.2.segment v.segment with
    | none =>
      have eq : e.verifyWait c = e.verifyAbort c .driveFault := by rw [Dev.verifyWait, verify]; simp only [segment]
      rw [eq]
      exact h.verifyAbort
    | some g =>
      have placed : d.Outgoing k ((e.verifyPlaced c g.cart).startMediaWait c v.started).1 := h.modVerify.setSessCart.startMediaWait
      rw [Dev.verifyWait_eq verify segment]
      exact placed.verifyAbort.ite (placed.push.mono (Nat.le_add_right k 2))

end Dev.Outgoing

/-- R142: with an open-wait value other than 0 the session waits, its drive and pages left as they were. -/
theorem Dev.SessionStays.verifyWait {d e : Dev} {c : Chan} {s : Session} {v : Verify} {g : Segment} (h : d.SessionStays c e)
    (verify : e.verify? c = some (s, v)) (segment : ((e.setOf s).bind fun p => p.2.segment v.segment) = some g)
    (wait : e.cfg.openWait ≠ 0) : d.SessionStays c (e.verifyWait c) := by
  have cfg : (e.verifyPlaced c g.cart).cfg = e.cfg := ((Dev.Outgoing.refl e).modVerify.setSessCart).cfg
  have waits := Dev.startMediaWait_waits (d := e.verifyPlaced c g.cart) (by rwa [cfg]) c v.started
  rw [Dev.verifyWait_eq verify segment, if_neg (by simp [waits])]
  exact ((h.verifyPlaced g.cart).startMediaWait v.started).of_tables (.push ..)

/-! ### The CLOSE trailer has been written (R131, R138) -/

/-- R131: a set that is CLOSED, its index on the cartridge of its last segment. -/
def BackupSet.closed (b : Backup) (pos : Nat) (i : CartIx) (y : BackupSet) : BackupSet :=
  { y with state := .closed, locator := some ⟨i, b.indexPos.getD pos, b.nextIndex⟩
           digest := if y.digestOff then none else b.digest.map crc32Finish }

/-- R131: the set is CLOSED and the CLOSE_SET answered. -/
def Dev.closeAnswered (d : Dev) (c : Chan) (b : Backup) (pos : Nat) (k : SetIx) (i : CartIx) : Dev :=
  ((d.modSet k (BackupSet.closed b pos i)).answerOpt b.pendingClose .ok).modBackup c fun b => { b with pendingClose := none }

/-- R131, R138: a session that has closed its set, and has ended. -/
def Dev.closeOver (d : Dev) (c : Chan) (x : Session) (why : Reason) (k : SetIx) : Dev :=
  ((d.setInUse k none).endSession c).sessionEnded x why none .none

section Closed
variable {d : Dev} {c : Chan} {x : Session} {b : Backup} {k : SetIx} {y : BackupSet} {g : Segment} (pos : Nat) (i : CartIx)

theorem Dev.outgoing_closeAnswered : d.Outgoing 0 (d.closeAnswered c b pos k i) :=
  (Dev.Outgoing.refl d).modSet.answerOpt.modBackup

theorem Dev.set?_closeAnswered (j : SetIx) : (d.closeAnswered c b pos k i).set? j =
    if j = k then (d.set? k).map (BackupSet.closed b pos i) else d.set? j := by
  rw [← Dev.set?_modSet]
  exact Dev.set?_congr (by simp [Dev.closeAnswered]) j

theorem Dev.drive_closeAnswered : (d.closeAnswered c b pos k i).drive c = d.drive c := by
  rw [Dev.closeAnswered, Dev.drive_modBackup, Dev.drive_of_ch (Dev.answerOpt_ch ..), (Dev.TablesOnly.modSet ..).drive]

/-- R131, R173: the CLOSE_SET is answered OK at a port whose link is UP. -/
theorem Dev.mem_path_closeAnswered {r : ReqId} (asked : b.pendingClose = some r) (waits : r ∈ (d.port r.port).unanswered)
    (up : (d.port r.port).link = .up) : ∃ n, OutFrame.answer n r.tag r.handle .ok [] ∈
      ((d.closeAnswered c b pos k i).port r.port).path := by
  have port := (Dev.TablesOnly.modSet d k (BackupSet.closed b pos i)).port r.port
  have answered := Dev.mem_path_answer (d := d.modSet k (BackupSet.closed b pos i)) (r := r) (by rwa [port]) (by rwa [port]) .ok
  rwa [Dev.closeAnswered, asked, Dev.modBackup_eq, Dev.port_modSess]

theorem Dev.closeDone_eq (backup : d.backup? c = some (x, b)) (held : d.setOf x = some (k, y))
    (last : y.lastSegment = some g) : d.closeDone c pos =
    if b.verifyAfter && !b.lostHold then (d.closeAnswered c b pos k g.cart).verifyAfter c
    else (d.closeAnswered c b pos k g.cart).closeOver c x (if b.lostHold then .linkLost else .closed) k := by
  rw [Dev.closeDone, backup]
  simp only [held, last]
  rfl

theorem Dev.backup?_closeAnswered (backup : d.backup? c = some (x, b)) : (d.closeAnswered c b pos k i).backup? c =
    some ({ x with kind := .backup { b with pendingClose := none } }, { b with pendingClose := none }) :=
  Dev.backup?_modBackup ((Dev.backup?_of_sess ((Dev.sess_answerOpt ..).trans ((Dev.TablesOnly.modSet ..).sess c))).trans backup) _

theorem Dev.set?_closeAnswered_same (held : d.setOf x = some (k, y)) : (d.closeAnswered c b pos k i).set? k = some (y.closed b pos i) := by
  rw [Dev.set?_closeAnswered, if_pos rfl, (Dev.setOf_eq_some.mp held).2]
  rfl

/-- R131, R138: the end of a session without verify-after, or of one whose link's hold has expired. -/
theorem Dev.closeOver_leaves (backup : d.backup? c = some (x, b)) (held : d.setOf x = some (k, y)) (why : Reason) :
    let e := (d.closeAnswered c b pos k i).closeOver c x why k
    Dev.EndTold c x why .none d e ∧ e.set? k = some { y.closed b pos i with inUse := none } := by
  have sess := ((Dev.TablesOnly.setInUse _ k none).sess c).trans (Dev.backup?_eq_some.mp (Dev.backup?_closeAnswered (k := k) pos i backup)).1
  have ports := (Dev.outgoing_closeAnswered (d := d) (c := c) (b := b) (k := k) pos i).setInUse (i := k) (o := none)
  refine ⟨⟨Dev.vacant_ended x why none .none none .ok sess, ports.ended x why none .none none .ok (by omega)⟩, ?_⟩
  refine (Dev.set?_ended x why none .none none .ok k).trans ?_
  rw [Dev.set?_setInUse, if_pos rfl, Dev.set?_closeAnswered_same pos i held]
  rfl

end Closed

/-! ### Verify-after (R131, R141) -/

/-- R131: a session that verifies the set it has closed, before it has started. -/
def Session.verifying (s : Session) : Session :=
  { s with kind := .verify {}, recordsDone := 0, noted := none, goal := none, mediaTimer := none }

/-- R131: the session of a closed set is a verify session, its stage memory given back. -/
def Dev.turnVerify (d : Dev) (c : Chan) : Dev := (d.freeChannelMemory c).modSess c Session.verifying

/-- R141: the context of a verify session that starts. -/
def Verify.begun (v : Verify) : Verify :=
  { v with started := true, cutShort := false, dataClean := true, digest := crc32Preset, storedTotal := 0 }

theorem Dev.verifyAfter_eq (d : Dev) (c : Chan) : d.verifyAfter c = ((d.turnVerify c).verifyStart c).verifyWait c := rfl

section After
variable {d : Dev} {c : Chan} {s : Session} {k : SetIx} (sess : d.sess c = some s)
include sess

theorem Dev.verify?_turnVerify : (d.turnVerify c).verify? c = some (s.verifying, {}) :=
  Dev.verify?_eq_some.mpr ⟨by rw [Dev.turnVerify, Dev.sess_modSess, Dev.sess_freeChannelMemory, sess]; rfl, rfl⟩

theorem Dev.identity_turnVerify : ((d.turnVerify c).sess c).map Session.identity = some s.identity := by
  rw [Dev.turnVerify, Dev.sess_modSess, Dev.sess_freeChannelMemory, sess]
  rfl

variable (names : s.set = some k)
include names

theorem Dev.verifyStart_turnVerify : (d.turnVerify c).verifyStart c =
    ((d.turnVerify c).modSet k fun y => { y with verify := {} }).modVerify c Verify.begun := by
  rw [Dev.verifyStart, Dev.verify?_turnVerify sess]
  simp only [Session.verifying, names]
  rfl

theorem Dev.turnVerify_stays : (d.turnVerify c).SessionStays c ((d.turnVerify c).verifyStart c) := by
  rw [Dev.verifyStart_turnVerify sess names]
  exact ((Dev.SessionStays.refl _).of_tables (.modSet ..)).modVerify _

/-- R131, R141: no set but the one closed is touched by what follows. -/
theorem Dev.set?_verifyAfter_of_ne {j : SetIx} (other : j ≠ k) : (d.verifyAfter c).set? j = d.set? j := by
  have turned : (d.turnVerify c).sess c = some s.verifying := (Dev.verify?_eq_some.mp (Dev.verify?_turnVerify sess)).1
  have stays := Dev.turnVerify_stays sess names
  have memory : (d.turnVerify c).cat = d.cat := by simp [Dev.turnVerify, Dev.freeChannelMemory]
  rw [Dev.verifyAfter_eq, Dev.set?_verifyWait_of_ne, Dev.verifyStart_turnVerify sess names]
  · exact (Dev.set?_modSet ..).trans ((if_neg other).trans (Dev.set?_congr memory j))
  · rw [stays.set, turned]
    simpa [Session.verifying, names] using Ne.symm other

theorem Dev.Outgoing.verifyAfter {n : Nat} {d₀ : Dev} (h : d₀.Outgoing n d) :
    d₀.Outgoing (n + 2) (d.verifyAfter c) := by
  rw [Dev.verifyAfter_eq, Dev.verifyStart_turnVerify sess names]
  exact h.freeChannelMemory.modSess.modSet.modVerify.verifyWait

/-- R131, R141, R142: the verify session waits for the cartridge of the first segment, its drive still claimed. -/
theorem Dev.verifyAfter_waits {y : BackupSet} {g : Segment} (set : d.set? k = some y) (first : y.segment 1 = some g)
    (wait : d.cfg.openWait ≠ 0) : let e := d.verifyAfter c
    e.set? k = some { y with verify := {} } ∧ e.drive c = d.drive c ∧ e.smc.heldBy c = 0 ∧
      ∃ x' v, e.verify? c = some (x', v) ∧ x'.identity = s.identity ∧ x'.cart = some g.cart ∧ v.state = .waitMedia ∧
        v.segment = 1 ∧ v.started = true := by
  let m := d.turnVerify c
  have cat : m.cat = d.cat := by simp [m, Dev.turnVerify, Dev.freeChannelMemory]
  have cfg : m.cfg = d.cfg := by simp [m, Dev.turnVerify, Dev.freeChannelMemory]
  have begins : Dev.Verifies m c s.verifying k {} y (m.chan c).index m :=
    .start (Dev.verify?_turnVerify sess) (Dev.setOf_eq_some.mpr ⟨names, (Dev.set?_congr cat k).trans set⟩)
  have starts := (begins.modSet fun y => { y with verify := {} }).modVerify Verify.begun
  rw [← Dev.verifyStart_turnVerify sess names] at starts
  have wait : m.cfg.openWait ≠ 0 := by rwa [cfg]
  obtain ⟨t, waits, -, cart⟩ := starts.verifyWait (g := g) first wait
  have stays : m.SessionStays c ((m.verifyStart c).verifyWait c) :=
    (Dev.turnVerify_stays sess names).verifyWait starts.verify? (by rw [starts.setOf]; exact first) (by rwa [starts.cfg])
  have identity := stays.identity.trans (Dev.identity_turnVerify sess)
  rw [waits.sess] at identity
  have drive : m.drive c = d.drive c := (Dev.drive_modSess ..).trans (d.drive_freeChannelMemory c c)
  refine ⟨waits.set, stays.drive.trans drive, ?_, _, _, waits.verify?, Option.some.inj identity, cart, rfl, rfl, rfl⟩
  rw [Dev.verifyAfter_eq, stays.smc]
  exact d.heldBy_freeChannelMemory c

end After

/-! ### The obligation -/

/-- Settles O19: CLOSE_SET is `Dev.closeTaken` on the device the request has joined; the end of the trailer's WRITE is
`Dev.closeAnswered`, after which the session ends (`Dev.closeOver_leaves`) or verifies its set (`Dev.verifyAfter_waits`). -/
theorem closeSetArmsTheIndexBuilder : Obligations.CloseSetArmsTheIndexBuilder := by
  refine ⟨fun s f c x b takes payload named kind granting closed => ?_, fun d c x b i y g pos backup held last => ?_⟩
  · intro r d y block
    have chan : (s.dev.begin.joined f .closeSet).chan c = y := Dev.chan_of_ch (Dev.joined_ch ..) c
    have joined := Dev.backup?_joined named .closeSet kind
    have tape : (s.dev.begin.joined f .closeSet).setOf x = s.dev.setOf x := Dev.setOf_of_sets (by simp) x
    have closes : (s.dev.begin.joined f .closeSet).closeSet r c x b = (s.dev.begin.joined f .closeSet).closeTaken r c x := by
      simp [Dev.closeSet, closed]
    rw [exec_closeSet_named takes named kind granting payload, closes]
    refine ⟨fun empty => ?_, fun filling => ?_⟩
    · rw [Dev.closeTaken_empty r x (by rwa [chan])]
      rfl
    · rw [Dev.closeTaken_filling r x joined (by rwa [chan]), chan, tape]
      rfl
  · intro e closed
    have eq : e = _ := Dev.closeDone_eq pos backup held last
    obtain ⟨names, set⟩ := Dev.setOf_eq_some.mp held
    obtain ⟨sess, -⟩ := Dev.backup?_eq_some.mp (Dev.backup?_closeAnswered (k := i) pos g.cart backup)
    have others (j : SetIx) (other : j ≠ i) : (d.closeAnswered c b pos i g.cart).set? j = d.set? j :=
      (Dev.set?_closeAnswered ..).trans (if_neg other)
    have ports := Dev.outgoing_closeAnswered (d := d) (c := c) (b := b) (k := i) pos g.cart
    have answered (kept : ∀ p, ∀ m ∈ ((d.closeAnswered c b pos i g.cart).port p).path, m ∈ (e.port p).path) (r : ReqId)
        (asked : b.pendingClose = some r) (waits : r ∈ (d.port r.port).unanswered) (up : (d.port r.port).link = .up) :
        ∃ n, OutFrame.answer n r.tag r.handle .ok [] ∈ (e.port r.port).path :=
      (Dev.mem_path_closeAnswered (c := c) (k := i) pos g.cart asked waits up).imp fun n => kept r.port _
    by_cases verifies : (b.verifyAfter && !b.lostHold) = true
    · rw [if_pos verifies] at eq
      obtain ⟨after, hold⟩ : b.verifyAfter = true ∧ b.lostHold = false := by simpa using verifies
      refine ⟨fun j other => ?_, answered ?_, fun ends => ?_, fun h _ _ wait first => ?_⟩
      · rw [eq, Dev.set?_verifyAfter_of_ne sess names other, others j other]
      · rw [eq]
        exact ((Dev.Outgoing.refl (d.closeAnswered c b pos i g.cart)).verifyAfter sess names).path
      · simp [after, hold] at ends
      · have first : closed.segment 1 = some h := first
        obtain ⟨closes, drive, pages, x', v, verify, identity, facts⟩ := Dev.verifyAfter_waits sess names
          (Dev.set?_closeAnswered_same pos g.cart held) first (by rwa [ports.cfg])
        obtain ⟨handle, owner, names'⟩ : x'.handle = x.handle ∧ x'.owner = x.owner ∧ x'.set = x.set := by
          simpa [Session.identity] using identity
        rw [← eq] at closes drive pages verify
        exact ⟨closes, by rw [drive, Dev.drive_closeAnswered], pages, x', v, verify, handle, owner, names'.trans names, facts⟩
    · rw [if_neg verifies] at eq
      obtain ⟨told, closes⟩ := Dev.closeOver_leaves pos g.cart backup held (if b.lostHold then .linkLost else .closed)
      refine ⟨fun j other => ?_, answered ?_, fun _ => ?_, fun h after hold => ?_⟩
      · rw [eq, Dev.closeOver]
        refine (Dev.set?_ended x _ none .none none .ok j).trans ?_
        rw [Dev.set?_setInUse, if_neg other, others j other]
      · rw [eq]
        exact (Dev.Outgoing.refl (d.closeAnswered c b pos i g.cart)).setInUse.endSession.sessionEnded.path
      · rw [← eq] at told closes
        obtain ⟨gone, pages, -, -⟩ := told.vacant
        exact ⟨closes, gone.sess, gone.claim, pages, told.told⟩
      · exact absurd (by simp [after, hold]) verifies

end Sys2Proof.Machine
end

section
/-! OPEN_VERIFY, OPEN_RESTORE and REBUILD (R140, R154, R164): an open that passes its checks is offered to the wait list. -/

namespace Sys2Proof.Machine

/-! ### From `exec` to the operation -/

theorem exec_openVerify (f : Req) (s : State) : exec (.openVerify f) s = s.does fun d => d.arrive f .openVerify fun r d =>
    d.withForm r (parseWord f.payload) fun n d => d.openVerify r n := by rfl
theorem exec_openRestore (f : Req) (s : State) : exec (.openRestore f) s = s.does fun d => d.arrive f .openRestore fun r d =>
    d.withForm r (parseRestore f.payload) fun q d => d.openRestore r q.1 q.2 := by rfl
theorem exec_rebuild (f : Req) (s : State) : exec (.rebuild f) s = s.does fun d => d.arrive f .rebuild fun r d =>
    d.withForm r (parseByte f.payload) fun n d => d.panelOnly r fun d => d.openRebuild r n := by rfl

section Taken
variable {s : State} {f : Req} (takes : s.dev.takes f)
include takes

theorem exec_openVerify_taken {n : Nat} (payload : parseWord f.payload = some n) : exec (.openVerify f) s = .next { s with dev :=
    ((s.dev.begin.joined f .openVerify).openVerify (s.dev.begin.newReq f .openVerify) n).finish } := by
  rw [exec_openVerify, State.does_arrive _ _ takes, payload, Dev.withForm_some]

theorem exec_openRestore_taken {n : Nat} {fs : List Nat} (payload : parseRestore f.payload = some (n, fs)) :
    exec (.openRestore f) s = .next { s with dev :=
      ((s.dev.begin.joined f .openRestore).openRestore (s.dev.begin.newReq f .openRestore) n fs).finish } := by
  rw [exec_openRestore, State.does_arrive _ _ takes, payload, Dev.withForm_some]

theorem exec_rebuild_taken {b : Byte} (panel : f.port = .P) (payload : f.payload = [b]) : exec (.rebuild f) s = .next { s with dev :=
    ((s.dev.begin.joined f .rebuild).openRebuild (s.dev.begin.newReq f .rebuild) b.toNat).finish } :=
  (exec_rebuild f s).trans (State.does_panel .rebuild (fun r n d => d.openRebuild r n) takes panel
    (by rw [payload, parseByte_single]))

end Taken

/-! ### The checks of each open -/

section Named
variable {d : Dev} {r : ReqId} {n : Nat} {i : SetIx} {x : BackupSet} (named : d.liveSet n = some i) (set : d.set? i = some x)
  (unused : x.inUse = none)
include named set unused

/-- R140: the panel may verify any set, a client its own. -/
theorem Dev.openVerify_passes (allowed : r.port = .P ∨ x.owner = r.port) (ended : x.state ≠ .opened) (whole : x.noGap = true) :
    d.openVerify r n = d.offerOpen r (.verify i) ((x.segment 1).map (·.cart)) := by
  have owner : ¬ (r.port ≠ .P ∧ x.owner ≠ r.port) := fun ⟨client, other⟩ => allowed.elim client other
  simp only [Dev.openVerify, named, set]
  rw [if_neg owner, if_neg ended, if_neg (by simp [unused]), if_neg (by simp [whole])]

/-- R154: the set is the client's own and shows an index locator. -/
theorem Dev.openRestore_passes {fs : List Nat} (files : filesOk fs = true) (owner : x.owner = r.port)
    (ended : x.state = .closed ∨ x.state = .recovered) (located : x.locator ≠ none) :
    d.openRestore r n fs = d.offerOpen r (.restore i fs) (x.locator.map (·.cart)) := by
  have indexed : ¬ ((x.state ≠ .closed ∧ x.state ≠ .recovered) ∨ x.locator.isNone = true) := by
    rintro (⟨closed, recovered⟩ | missing)
    · exact ended.elim closed recovered
    · exact located (Option.isNone_iff_eq_none.mp missing)
  rw [Dev.openRestore, if_neg (by simp [files])]
  simp only [named, set]
  rw [if_neg (not_not.mpr owner), if_neg (by simp [unused]), if_neg indexed]

end Named

/-- R164: the cartridge is in the library and no live set on it is in use. -/
theorem Dev.openRebuild_passes {d : Dev} {i : CartIx} {x : Cart} (r : ReqId) (registered : d.cart i = some x)
    (located : x.location ≠ none) (unused : ∀ e ∈ d.liveSetsOn i, ∀ y, d.set? e = some y → y.inUse = none) :
    d.openRebuild r i.val = d.offerOpen r (.rebuild i) (some i) := by
  have idle : ¬ ((d.liveSetsOn i).any fun e => (d.set? e).any fun y => y.inUse.isSome) = true := by
    intro busy
    obtain ⟨e, mem, used⟩ := List.any_eq_true.mp busy
    obtain ⟨y, held, inUse⟩ := (Option.any_eq_true ..).mp used
    simp [unused e mem y held] at inUse
  rw [Dev.openRebuild, dif_pos i.isLt]
  simp only [Fin.eta, registered]
  rw [if_neg (by simpa using located), if_neg idle]

/-- Settles O12: the checks are made on the device the request has joined, whose catalogue is the old one. -/
theorem readOpensAreOffered : Obligations.ReadOpensAreOffered := by
  intro s f takes
  have cat (k : ReqKind) : (s.dev.begin.joined f k).cat = s.dev.cat := Dev.joined_cat ..
  have live (k : ReqKind) {n : Nat} {i : SetIx} (named : s.dev.liveSet n = some i) : (s.dev.begin.joined f k).liveSet n = some i :=
    (Dev.liveSet_of_cat (cat k) n).trans named
  have held (k : ReqKind) {i : SetIx} {x : BackupSet} (set : s.dev.set? i = some x) : (s.dev.begin.joined f k).set? i = some x :=
    (Dev.set?_congr (cat k) i).trans set
  refine ⟨fun n i x payload named set allowed ended unused whole => ?_,
    fun n fs i x payload files named set owner unused ended located => ?_, fun b i x panel payload same registered located unused => ?_⟩
  · rw [exec_openVerify_taken takes payload, Dev.openVerify_passes (live _ named) (held _ set) unused allowed ended whole]
  · rw [exec_openRestore_taken takes payload, Dev.openRestore_passes (live _ named) (held _ set) unused files owner ended located]
  · have sets : (s.dev.begin.joined f .rebuild).liveSetsOn i = s.dev.liveSetsOn i := Dev.liveSetsOn_of_sets (congrArg _ (cat _)) i
    rw [exec_rebuild_taken takes panel payload, same, Dev.openRebuild_passes _ ((Dev.cart_congr (cat _) i).trans registered) located]
    intro e mem y set
    exact unused e (sets ▸ mem) y ((Dev.set?_congr (cat _) e).symm.trans set)

end Sys2Proof.Machine
end

section
/-! GRANT (R158), one step of delivery (R157 to R160), and what a record leaves of a restore and its set (R160, R161). -/

namespace Sys2Proof.Machine

/-! ### GRANT (R158) -/

theorem exec_grant (f : Req) (s : State) : exec (.grant f) s = s.does fun d => d.arrive f .grant fun r d =>
    d.withForm r (parseByte f.payload) fun n d => d.withSession r fun c x d => d.grantCredits r n c x := by rfl

theorem exec_grant_named {s : State} {f : Req} {c : Chan} {x : Session} {n : Byte} (takes : s.dev.takes f) (payload : f.payload = [n])
    (named : s.dev.names f c x) : exec (.grant f) s = .next { s with dev :=
      ((s.dev.begin.joined f .grant).grantCredits (s.dev.begin.newReq f .grant) n.toNat c x).finish } := by
  rw [exec_grant, State.does_arrive _ _ takes, payload, parseByte_single, Dev.withForm_some, Dev.withSession_joined named]

section Granted
variable {d : Dev} (r : ReqId) {n : Nat} (c : Chan) {x : Session} {y : Restore}

theorem Dev.grantCredits_adds (kind : x.kind = .restore y) (positive : n ≠ 0) (room : y.credits + n ≤ 64) : d.grantCredits r n c x =
    ((d.modRestore c fun y => { y with credits := y.credits + n }).answerWith r .ok r.handle (leBytes 1 (y.credits + n))).push
      (.deliver c) := by
  simp only [Dev.grantCredits, kind]
  rw [if_neg (by omega)]

theorem Dev.grantCredits_outside (kind : x.kind = .restore y) (outside : n = 0 ∨ 64 < y.credits + n) :
    d.grantCredits r n c x = d.answer r .badRequest := by
  simp only [Dev.grantCredits, kind, if_pos outside]

theorem Dev.grantCredits_other (other : ∀ y, x.kind ≠ .restore y) : d.grantCredits r n c x = d.answer r .badState := by
  unfold Dev.grantCredits
  split
  · exact absurd ‹_› (other _)
  · rfl

end Granted

/-- A request joins its port's queue whether a session is changed before or after. -/
theorem Dev.joined_modSess (d : Dev) (f : Req) (k : ReqKind) (c : Chan) (g : Session → Session) :
    (d.joined f k).modSess c g = (d.modSess c g).joined f k := by
  unfold Dev.joined Dev.modPort Dev.newReq
  cases f.port <;> rfl

/-- R173: a request that changes a restore's context and is answered at once. -/
theorem Dev.takes_modRestore_answerWith {s : State} {f : Req} (k : ReqKind) (takes : s.dev.takes f) (c : Chan)
    (g : Restore → Restore) (st : Status) (result : List Byte) :
    ((s.dev.begin.joined f k).modRestore c g).answerWith (s.dev.begin.newReq f k) st (s.dev.begin.newReq f k).handle result =
      (s.dev.begin.modRestore c g).answered f k st f.handle.toNat result := by
  have port : (s.dev.begin.modRestore c g).port f.port = s.dev.begin.port f.port := Dev.port_modSess ..
  have req : s.dev.begin.newReq f k = (s.dev.begin.modRestore c g).newReq f k := by simp only [Dev.newReq, port]
  have joined : (s.dev.begin.joined f k).modRestore c g = (s.dev.begin.modRestore c g).joined f k := Dev.joined_modSess ..
  rw [joined, req, Dev.joined_answerWith k st _ result (port ▸ Dev.takes_up takes), Dev.newReq_handle]

/-! ### A restore at work -/

@[simp] theorem Dev.sess_freeHalf (d : Dev) (c h k : Chan) : (d.freeHalf c h).sess k = d.sess k := by
  rw [Dev.freeHalf, Dev.sess_push]
  exact Dev.sess_modChan d c k _ fun _ => rfl

@[simp] theorem Dev.port_freeHalf (d : Dev) (c h : Chan) (p : Port) : (d.freeHalf c h).port p = d.port p := by
  rw [Dev.freeHalf, Dev.port_push, Dev.port_modChan]

@[simp] theorem Dev.freeHalf_cat (d : Dev) (c h : Chan) : (d.freeHalf c h).cat = d.cat := by simp [Dev.freeHalf]

theorem Dev.restore?_of_sess {d e : Dev} {c : Chan} (h : e.sess c = d.sess c) : e.restore? c = d.restore? c := by
  simp [Dev.restore?, h]

@[simp] theorem Dev.port_freePages (d : Dev) (c : Chan) (n : Nat) (p : Port) : (d.freePages c n).port p = d.port p :=
  Dev.port_of_units (by simp) (by simp) (by simp) p

@[simp] theorem Dev.port_endRun (d : Dev) (c : Chan) (p : Port) : (d.endRun c).port p = d.port p := by
  unfold Dev.endRun
  rw [Dev.port_freePages, Dev.port_modChan]
  split
  · exact d.port_freeHalf ..
  · rfl

/-- R161: the hard error that a restore has found against a record of its set. -/
def BackupSet.hardFound (ordinal record : Nat) (cause : Cause) (day : Nat) (z : BackupSet) : BackupSet :=
  { z with verify := { z.verify.hardError ordinal record cause with result := .failed, day := some day } }

theorem Dev.restoreHardData_frame (d : Dev) (c : Chan) (q : Nat) (cause : Cause) : d.TablesOnly (d.restoreHardData c q cause) := by
  unfold Dev.restoreHardData Dev.restoreHard
  split
  · exact .modSet ..
  · exact .refl d

/-- R161: a hard error is written into the verify record of the session's set, against the segment the record lies in. -/
theorem Dev.set?_restoreHardData {d : Dev} {c : Chan} {s : Session} {i : SetIx} {z : BackupSet} {g : Segment} {q : Nat} (cause : Cause)
    (sess : d.sess c = some s) (held : d.setOf s = some (i, z)) (segment : z.segmentOf q = some g) :
    (d.restoreHardData c q cause).set? i = some (z.hardFound g.ordinal q cause d.cat.day) := by
  obtain ⟨names, set⟩ := Dev.setOf_eq_some.mp held
  simp only [Dev.restoreHardData, Dev.restoreHard, sess, Option.bind_some, names, held, segment, Option.map_some, Option.getD_some,
    Dev.set?_modSet_same, set]
  rfl

theorem Dev.countFailed_first {d : Dev} {c : Chan} {s : Session} {r : Restore} {q : Nat} (restore : d.restore? c = some (s, r))
    (first : r.lastFailed ≠ some q) (cause : Cause) :
    d.countFailed c q cause = (d.restoreHardData c q cause).modRestore c fun r => { r with lastFailed := some q } := by
  simp only [Dev.countFailed, restore, if_neg first]

/-- R159: the context of a restore whose current file has stopped or ended. -/
def Restore.fileOver (o : FileOutcome) (matched : Bool) (r : Restore) : Restore :=
  { r with finished := true, crcMatched := matched, files := r.files.modify r.current fun f => { f with outcome := o } }

/-- A restore session on a channel, with its own context and what stands in the response path of its owner port. -/
structure Dev.Restores (c : Chan) (s : Session) (r : Restore) (path : List OutFrame) (d : Dev) : Prop where
  sess : d.sess c = some { s with kind := .restore r }
  path : (d.port s.owner).path = path

namespace Dev.Restores

variable {d e : Dev} {c : Chan} {s : Session} {r : Restore} {path : List OutFrame}

theorem start (h : d.restore? c = some (s, r)) : d.Restores c s r (d.port s.owner).path := by
  obtain ⟨sess, kind⟩ := Dev.restore?_eq_some.mp h
  exact ⟨by rw [sess, ← kind], rfl⟩

theorem restore? (h : d.Restores c s r path) : d.restore? c = some ({ s with kind := .restore r }, r) :=
  Dev.restore?_eq_some.mpr ⟨h.sess, rfl⟩

/-- What changes neither the session nor a port changes nothing of the restore. -/
theorem same (h : d.Restores c s r path) (sess : e.sess c = d.sess c) (port : ∀ p, e.port p = d.port p) : e.Restores c s r path :=
  ⟨sess.trans h.sess, by rw [port, h.path]⟩

theorem of_tables (h : d.Restores c s r path) (frame : d.TablesOnly e) : e.Restores c s r path := h.same (frame.sess c) frame.port

theorem push (h : d.Restores c s r path) (t : Todo) : (d.push t).Restores c s r path := h.of_tables (.push ..)

theorem modRestore (h : d.Restores c s r path) (f : Restore → Restore) : (d.modRestore c f).Restores c s (f r) path where
  sess := by rw [Dev.modRestore, Dev.sess_modSess, h.sess]; rfl
  path := (congrArg PortUnit.path (Dev.port_modSess ..)).trans h.path

/-- R158: a delivery frame joins the response path for one credit. -/
theorem hand (h : d.Restores c s r path) (g : Delivery) :
    (d.hand c g).Restores c s { r with credits := r.credits - 1 } (path ++ [.delivery s.handle s.serial g]) := by
  have paid := h.modRestore fun r => { r with credits := r.credits - 1 }
  rw [Dev.hand, h.restore?]
  refine push ⟨?_, ?_⟩ _
  · rw [Dev.sess_modPort]; exact paid.sess
  · rw [Dev.port_modPort]; exact congrArg (· ++ _) paid.path

theorem endRun (h : d.Restores c s r path) : (d.endRun c).Restores c s r path := h.same (d.sess_endRun c c) (d.port_endRun c)

theorem freeHalves (h : d.Restores c s r path) (l : List Chan) : (l.foldl (fun d h => d.freeHalf c h) d).Restores c s r path := by
  induction l generalizing d with
  | nil => exact h
  | cons k l ih => exact ih (h.same (d.sess_freeHalf c k c) (d.port_freeHalf c k))

theorem releaseBut (h : d.Restores c s r path) (keep : InRec → Bool) :
    (d.releaseBut c keep).Restores c s { r with inbox := r.inbox.filter keep } path := by
  rw [Dev.releaseBut, h.restore?]
  exact (h.freeHalves _).modRestore fun r => { r with inbox := r.inbox.filter keep }

theorem stopRun (h : d.Restores c s r path) :
    (d.restoreStopRun c).Restores c s { r with inbox := r.inbox.filter fun _ => false, runSegment := none } path :=
  (h.releaseBut fun _ => false).endRun.modRestore fun r => { r with runSegment := none }

/-- R159: the current file has stopped or ended. -/
theorem fileFinish (h : d.Restores c s r path) (o : FileOutcome) (matched : Bool) :
    (d.fileFinish c o matched).Restores c s (r.fileOver o matched) path := (h.modRestore (Restore.fileOver o matched)).push _

/-- R160: a record that has failed is the last that failed, whether it is counted now or was before. -/
theorem countFailed (h : d.Restores c s r path) (q : Nat) (cause : Cause) :
    (d.countFailed c q cause).Restores c s { r with lastFailed := some q } path := by
  by_cases again : r.lastFailed = some q
  · rw [Dev.countFailed_again d c q cause _ r h.restore? again, ← again]
    exact h
  · rw [Dev.countFailed_first h.restore? again]
    exact (h.of_tables (d.restoreHardData_frame c q cause)).modRestore fun r => { r with lastFailed := some q }

theorem fileStops (h : d.Restores c s r path) (q : Nat) (short : Bool) : ∃ l, (d.fileStops c q short).Restores c s
    (Restore.fileOver .damaged false { r with lastFailed := l }) path := by
  cases short
  · exact ⟨r.lastFailed, h.fileFinish .damaged false⟩
  · exact ⟨some q, (h.countFailed q .indexMismatch).fileFinish .damaged false⟩

/-- R159: a file begins with the credits, the place in the list and the restart mark as they stand. -/
theorem fileStart (h : d.Restores c s r path) : ∃ z, (d.fileStart c).Restores c s z path ∧
    z.credits = r.credits ∧ z.current = r.current ∧ z.restart = r.restart := by
  have fresh := h.modRestore fun r =>
    { r with headSent := false, finished := false, delivered := 0, crc := crc32Preset
             inbox := r.inbox.filter fun y => y.half.isSome || y.cause.isSome }
  rw [Dev.fileStart, h.restore?]
  dsimp only
  split
  · exact ⟨r, h, rfl, rfl, rfl⟩
  split
  · exact ⟨_, fresh.fileFinish .indexDamaged false, rfl, rfl, rfl⟩
  split
  · exact ⟨_, fresh.fileFinish .notInSet false, rfl, rfl, rfl⟩
  · next e _ =>
    have placed := fresh.modRestore fun r => { r with seq := e.startSeq, off := e.startOff }
    split
    · exact ⟨_, placed.fileFinish .ok true, rfl, rfl, rfl⟩
    split
    · exact ⟨_, placed.fileFinish .damaged false, rfl, rfl, rfl⟩
    · exact ⟨_, placed.push _, rfl, rfl, rfl⟩

end Dev.Restores

/-! ### One step of delivery (R158, R159) -/

/-- R159: the FILE_HEAD of a file in the index is handed. -/
def Dev.headHanded (d : Dev) (c : Chan) (r : Restore) (file : Nat) (e : IndexEntry) : Dev :=
  ((d.hand c (.head file e.tag e.length r.restart)).modRestore c fun r => { r with headSent := true, restart := false }).push
    (.deliver c)

/-- R157: the next file of the list becomes the current one; what it does not begin in is released. -/
def Dev.nextFile (d : Dev) (c : Chan) (next : Option Nat) : Dev :=
  let d := d.modRestore c fun r => { r with current := r.current + 1, restart := false }
  let d := match next with
    | some q => d.releaseBelow c q none
    | none => d.restoreStopRun c
  d.fileStart c

/-- R159: the FILE_DONE of the current file is handed. -/
def Dev.doneHanded (d : Dev) (c : Chan) (r : Restore) (f : RestoreFile) : Dev :=
  let d := d.hand c (.done f.file f.outcome r.delivered r.crcMatched)
  d.nextFile c (d.nextStart c r)

/-- R159: the bytes of a DATA frame extend the running CRC and are added to the bytes delivered; the cursor moves past them. -/
def Restore.given (out : List Byte) (seq off : Nat) (r : Restore) : Restore :=
  { r with seq := seq, off := off, delivered := r.delivered + out.length, crc := crc32Extend r.crc out }

/-- R159: the last byte of a file has been delivered, and its CRC is compared. -/
def Dev.bytesEnd (d : Dev) (c : Chan) (e : IndexEntry) (crc : BitVec 32) (seq : Nat) : Dev :=
  let ok := crc32Finish crc = e.crc
  (if ok then d else d.restoreHardData c (e.lastSeq.getD seq) .indexMismatch).fileFinish c (if ok then .ok else .damaged) ok

/-- R159: a DATA frame of the current file is handed, and what has been delivered in full is released. -/
def Dev.dataHanded (d : Dev) (c : Chan) (r : Restore) (e : IndexEntry) (out : List Byte) (seq off : Nat) : Dev :=
  let d := (d.hand c (.data out)).modRestore c (Restore.given out seq off)
  let done := decide (e.length ≤ r.delivered + out.length)
  let d := d.releaseBelow c (if done then seq + 1 else seq) (d.nextStart c r)
  if done then d.bytesEnd c e (crc32Extend r.crc out) seq else d.push (.deliver c)

/-- R159: the bytes the next DATA frame is to hold. -/
def Restore.want (r : Restore) (e : IndexEntry) : Nat := min 4096 (e.length - r.delivered)

/-- R159: what the record the cursor is in, as decoded, gives to the next DATA frame. -/
def Restore.here (r : Restore) (e : IndexEntry) (bs : List Byte) : List Byte := (bs.drop r.off).take (r.want e)

/-- R158: the session has a credit and its owner port's link is UP. -/
def Dev.mayHand (d : Dev) (s : Session) (r : Restore) : Bool := 0 < r.credits && (d.port s.owner).link = .up

theorem Dev.mayHand_iff {d : Dev} {s : Session} {r : Restore} :
    d.mayHand s r = true ↔ 0 < r.credits ∧ (d.port s.owner).link = .up := by simp [Dev.mayHand]

/-- R156, R157: the index entry of a file of the list, while the index can be used. -/
def Dev.entryOf (d : Dev) (c : Chan) (r : Restore) (f : RestoreFile) : Option IndexEntry :=
  if r.indexBad then none else d.fileEntry c f.file

section Step
variable {d : Dev} {c : Chan} {x : Session} {y : Restore} {f : RestoreFile} {t : IndexEntry} (restore : d.restore? c = some (x, y))
  (index : y.readsIndex = false) (file : y.currentFile = some f)
include restore index file

theorem Dev.deliver_eq : d.deliver c =
    match y.finished, y.headSent, d.entryOf c y f with
    | true, false, some t => if d.mayHand x y then d.headHanded c y f.file t else d
    | true, _, _ => if d.mayHand x y then d.doneHanded c y f else d
    | false, false, some t => if d.mayHand x y then d.headHanded c y f.file t else d.deliverBytes c y t false
    | false, true, some t => d.deliverBytes c y t (d.mayHand x y)
    | false, _, none => d := by
  simp only [Dev.deliver, restore, index, file]
  rfl

theorem Dev.deliver_head (entry : d.entryOf c y f = some t) (head : y.headSent = false) (may : d.mayHand x y = true) :
    d.deliver c = d.headHanded c y f.file t := by
  rw [Dev.deliver_eq restore index file, head, entry, may]
  cases y.finished <;> rfl

theorem Dev.deliver_done (finished : y.finished = true) (head : y.headSent = true ∨ d.entryOf c y f = none) :
    d.deliver c = if d.mayHand x y then d.doneHanded c y f else d := by
  rw [Dev.deliver_eq restore index file, finished]
  rcases head with sent | missing
  · rw [sent]
  · rw [missing]
    cases y.headSent <;> rfl

theorem Dev.deliver_bytes (entry : d.entryOf c y f = some t) (going : y.finished = false) (head : y.headSent = true) :
    d.deliver c = d.deliverBytes c y t (d.mayHand x y) := by
  rw [Dev.deliver_eq restore index file, going, head, entry]

end Step

section Bytes
variable {d : Dev} {c : Chan} {y : Restore} {t : IndexEntry} {bs bs' : List Byte} {may : Bool}

theorem Dev.deliverBytes_stopped (stopped : (∃ cause, d.holding c y t y.seq = .stopped cause) ∨ d.holding c y t y.seq = .short) :
    ∃ short, d.deliverBytes c y t may = d.fileStops c y.seq short := by
  rcases stopped with ⟨cause, held⟩ | held
  · exact ⟨false, by rw [Dev.deliverBytes, held]⟩
  · exact ⟨true, by rw [Dev.deliverBytes, held]⟩

/-- R159: the frame takes its bytes from the record the cursor is in, and from the one after it when those are too few. -/
theorem Dev.deliverBytes_held (held : d.holding c y t y.seq = .bytes bs) : d.deliverBytes c y t true =
    if (y.here t bs).length = y.want t then
      if y.off + y.want t < 65536 then d.dataHanded c y t (y.here t bs) y.seq (y.off + y.want t)
      else d.dataHanded c y t (y.here t bs) (y.seq + 1) 0
    else
      match d.holding c y t (y.seq + 1) with
      | .missing => d.restoreSeek c (y.seq + 1)
      | .stopped _ => d.fileStops c (y.seq + 1) false
      | .short => d.fileStops c (y.seq + 1) true
      | .bytes bs' =>
        let rest := y.want t - (y.here t bs).length
        d.dataHanded c y t (y.here t bs ++ bs'.take rest) (y.seq + 1) rest := by
  rw [Dev.deliverBytes, held]
  rfl

theorem Dev.deliverBytes_within (held : d.holding c y t y.seq = .bytes bs) (full : (y.here t bs).length = y.want t) :
    ∃ seq off, d.deliverBytes c y t true = d.dataHanded c y t (y.here t bs) seq off := by
  rw [Dev.deliverBytes_held held, if_pos full]
  split
  · exact ⟨_, _, rfl⟩
  · exact ⟨_, _, rfl⟩

theorem Dev.deliverBytes_across (held : d.holding c y t y.seq = .bytes bs) (part : (y.here t bs).length ≠ y.want t)
    (next : d.holding c y t (y.seq + 1) = .bytes bs') : ∃ seq off, d.deliverBytes c y t true =
      d.dataHanded c y t (y.here t bs ++ bs'.take (y.want t - (y.here t bs).length)) seq off := by
  rw [Dev.deliverBytes_held held, if_neg part, next]
  exact ⟨_, _, rfl⟩

end Bytes

namespace Dev.Restores

variable {d : Dev} {c : Chan} {s : Session} {r : Restore} {path : List OutFrame} {t : IndexEntry}

theorem headHanded (h : d.Restores c s r path) (file : Nat) (e : IndexEntry) : (d.headHanded c r file e).Restores c s
    { r with credits := r.credits - 1, headSent := true, restart := false }
    (path ++ [.delivery s.handle s.serial (.head file e.tag e.length r.restart)]) :=
  ((h.hand _).modRestore fun r => { r with headSent := true, restart := false }).push _

theorem nextFile (h : d.Restores c s r path) (next : Option Nat) : ∃ z, (d.nextFile c next).Restores c s z path ∧
    z.credits = r.credits ∧ z.current = r.current + 1 ∧ z.restart = false := by
  have moved := h.modRestore fun r => { r with current := r.current + 1, restart := false }
  cases next with
  | some q => exact (moved.releaseBut _).fileStart
  | none => exact moved.stopRun.fileStart

theorem doneHanded (h : d.Restores c s r path) (f : RestoreFile) : ∃ z, (d.doneHanded c r f).Restores c s z
    (path ++ [.delivery s.handle s.serial (.done f.file f.outcome r.delivered r.crcMatched)]) ∧
      z.credits = r.credits - 1 ∧ z.current = r.current + 1 ∧ z.restart = false := (h.hand _).nextFile _

theorem bytesEnd (h : d.Restores c s r path) (t : IndexEntry) (crc : BitVec 32) (seq : Nat) :
    ∃ o m, (d.bytesEnd c t crc seq).Restores c s (r.fileOver o m) path := by
  unfold Dev.bytesEnd
  dsimp only
  refine ⟨_, _, fileFinish ?_ _ _⟩
  split
  · exact h
  · exact h.of_tables (d.restoreHardData_frame ..)

/-- R158, R159: a DATA frame costs a credit; its bytes are delivered, whether or not they end the file. -/
theorem dataHanded (h : d.Restores c s r path) (t : IndexEntry) (out : List Byte) (seq off : Nat) :
    ∃ z, (d.dataHanded c r t out seq off).Restores c s z (path ++ [.delivery s.handle s.serial (.data out)]) ∧
      z.credits = r.credits - 1 ∧ z.delivered = r.delivered + out.length ∧ z.crc = crc32Extend r.crc out := by
  have released := ((h.hand (.data out)).modRestore (Restore.given out seq off)).releaseBut
  unfold Dev.dataHanded
  dsimp only
  split
  · obtain ⟨o, m, ended⟩ := (released _).bytesEnd t (crc32Extend r.crc out) seq
    exact ⟨_, ended, rfl, rfl, rfl⟩
  · exact ⟨_, (released _).push _, rfl, rfl, rfl⟩

/-- R159: a DATA frame whose bytes lie in one record. -/
theorem frameWithin (h : d.Restores c s r path) {bs : List Byte} (held : d.holding c r t r.seq = .bytes bs)
    (full : (r.here t bs).length = r.want t) : ∃ z, (d.deliverBytes c r t true).Restores c s z
      (path ++ [.delivery s.handle s.serial (.data (r.here t bs))]) ∧ z.credits = r.credits - 1 ∧
        z.delivered = r.delivered + r.want t ∧ z.crc = crc32Extend r.crc (r.here t bs) := by
  obtain ⟨seq, off, eq⟩ := Dev.deliverBytes_within held full
  rw [eq, ← full]
  exact h.dataHanded t _ seq off

/-- R159: a DATA frame that takes its last bytes from the next record. -/
theorem frameAcross (h : d.Restores c s r path) {bs bs' : List Byte} (held : d.holding c r t r.seq = .bytes bs)
    (part : (r.here t bs).length < r.want t) (enough : r.want t - (r.here t bs).length ≤ bs'.length)
    (next : d.holding c r t (r.seq + 1) = .bytes bs') : ∃ z, (d.deliverBytes c r t true).Restores c s z
      (path ++ [.delivery s.handle s.serial (.data (r.here t bs ++ bs'.take (r.want t - (r.here t bs).length)))]) ∧
        z.credits = r.credits - 1 ∧ z.delivered = r.delivered + r.want t := by
  have length : (r.here t bs ++ bs'.take (r.want t - (r.here t bs).length)).length = r.want t := by
    rw [List.length_append, List.length_take_of_le enough, Nat.add_sub_of_le part.le]
  obtain ⟨seq, off, eq⟩ := Dev.deliverBytes_across held part.ne next
  obtain ⟨z, left, credits, delivered, -⟩ := h.dataHanded t _ seq off
  exact ⟨z, eq ▸ left, credits, by rw [delivered, length]⟩

/-- R160: a file that comes to a record which failed, or is too short, stops DAMAGED with no frame handed. -/
theorem fileDamaged (h : d.Restores c s r path) {f : RestoreFile} (file : r.currentFile = some f)
    (stopped : (∃ cause, d.holding c r t r.seq = .stopped cause) ∨ d.holding c r t r.seq = .short) (may : Bool) :
    ∃ z, (d.deliverBytes c r t may).Restores c s z path ∧ z.finished = true ∧ z.credits = r.credits ∧
      (z.files[r.current]?).map (·.outcome) = some .damaged := by
  obtain ⟨short, eq⟩ := Dev.deliverBytes_stopped stopped
  obtain ⟨l, left⟩ := h.fileStops r.seq short
  have listed : r.files[r.current]? = some f := file
  rw [eq]
  exact ⟨_, left, rfl, rfl, by simp [Restore.fileOver, listed]⟩

end Dev.Restores

/-! ### Records (R160, R161) -/

theorem Dev.needsRecord_first {d : Dev} {c : Chan} {r : Restore} {q : Nat} (needs : d.needsRecord c r q = true) :
    r.lastFailed ≠ some q := by
  intro failed
  simp [Dev.needsRecord, failed] at needs

/-- R160: the context of a restore that holds its expected record as one that failed. -/
def Restore.heldFailed (cause : Cause) (r : Restore) : Restore :=
  { r with inbox := r.inbox ++ [{ seq := r.expect, half := none, cause := some cause }], expect := r.expect + 1 }

/-- R160: the context of a restore that holds its expected record in a decode half. -/
def Restore.heldWhole (half : Chan) (bs : List Byte) (r : Restore) : Restore :=
  { r with inbox := r.inbox ++ [{ seq := r.expect, half := some half, length := bs.length }], expect := r.expect + 1 }

/-- R160, R161: a failed record is counted against its segment at once, and held as failed. -/
theorem Dev.holdFailed_leaves {d : Dev} {c : Chan} {x : Session} {y : Restore} {i : SetIx} {z : BackupSet} {cause : Cause}
    (restore : d.restore? c = some (x, y)) (held : d.setOf x = some (i, z)) (first : y.lastFailed ≠ some y.expect) :
    let e := d.holdFailed c cause
    (∀ g, z.segmentOf y.expect = some g → e.set? i = some (z.hardFound g.ordinal y.expect cause d.cat.day)) ∧
      e.Restores c x (Restore.heldFailed cause { y with lastFailed := some y.expect }) (d.port x.owner).path := by
  have counted := (Dev.Restores.start restore).countFailed y.expect cause
  have eq : d.holdFailed c cause =
      ((d.countFailed c y.expect cause).modRestore c (Restore.heldFailed cause)).push (.deliver c) := by
    rw [Dev.holdFailed, restore]
    rfl
  rw [eq]
  refine ⟨fun g segment => ?_, (counted.modRestore (Restore.heldFailed cause)).push _⟩
  rw [Dev.set?_push, Dev.countFailed_first restore first]
  exact Dev.set?_restoreHardData cause (Dev.restore?_eq_some.mp restore).1 held segment

section Record
variable {d : Dev} {c : Chan} (half : Chan) {x : Session} {y : Restore} {i : SetIx} {z : BackupSet} {r : ReadEntry}
  {out : Option (List Byte)} (restore : d.restore? c = some (x, y)) (held : d.setOf x = some (i, z))
  (data : y.state ≠ .readingIndex) (needs : d.needsRecord c y y.expect = true)
include restore held data needs

theorem Dev.restoreRecord_passes {bs : List Byte} (decoded : out = some bs)
    (passes : checkRecord (readHeader r.bytes) .data z.tape y.expect out = none) :
    d.restoreRecord c half r out = (d.modRestore c (Restore.heldWhole half bs)).push (.deliver c) := by
  subst decoded
  simp only [Dev.restoreRecord, restore, held, if_neg data, needs, passes]
  rfl

theorem Dev.restoreRecord_fails {cause : Cause}
    (fails : checkRecord (readHeader r.bytes) .data z.tape y.expect out = some cause) :
    d.restoreRecord c half r out = (d.freeHalf c half).holdFailed c cause := by
  simp only [Dev.restoreRecord, restore, held, if_neg data, needs, fails]
  rfl

end Record

/-- Settles O21: the request on the device it has joined; a step of delivery by which frame it is the turn of (`Dev.deliver_eq`), each
by what it leaves of the restore and of the response path (`Dev.Restores`); a record by its checks. -/
theorem grantAddsReceiveCredits : Obligations.GrantAddsReceiveCredits := by
  refine ⟨fun s f c x n takes payload named => ?_, fun d c x y f restore index file => ?_,
    fun d c half x y i z r out restore held data needs => ?_⟩
  · rw [exec_grant_named takes payload named]
    refine ⟨fun y kind positive room => ?_, fun y kind outside => ?_, fun other => ?_⟩
    · rw [Dev.grantCredits_adds _ _ kind positive room, Dev.takes_modRestore_answerWith .grant takes]
    · rw [Dev.grantCredits_outside _ _ kind outside, Dev.takes_answer .grant takes]
    · rw [Dev.grantCredits_other _ _ other, Dev.takes_answer .grant takes]
  · intro e hands now entry may
    have begins := Dev.Restores.start restore
    have seen {w : Restore} {path : List OutFrame} {p : Restore → Prop} (left : e.Restores c x w path) (holds : p w) :
        (e.port x.owner).path = path ∧ now p := ⟨left.path, _, w, left.restore?, rfl, holds⟩
    refine ⟨fun t found head may => ?_, fun finished head => ⟨fun held => ?_, fun may => ?_⟩, fun t found going head => ?_⟩
    · have eq : e = _ := Dev.deliver_head restore index file found head (Dev.mayHand_iff.mpr may)
      exact seen (eq ▸ begins.headHanded f.file t) rfl
    · have eq : e = _ := Dev.deliver_done restore index file finished head
      rw [eq, if_neg (mt Dev.mayHand_iff.mp held)]
    · have eq : e = _ := Dev.deliver_done restore index file finished head
      rw [if_pos (Dev.mayHand_iff.mpr may)] at eq
      obtain ⟨w, left, after⟩ := begins.doneHanded f
      exact seen (eq ▸ left) after
    · have eq : e = d.deliverBytes c y t (d.mayHand x y) := Dev.deliver_bytes restore index file found going head
      refine ⟨fun bs held may => ⟨fun full => ?_, fun bs' part enough next => ?_⟩, fun stopped => ?_⟩
      · obtain ⟨w, left, after⟩ := begins.frameWithin held full
        exact seen (by rw [eq, Dev.mayHand_iff.mpr may]; exact left) after
      · obtain ⟨w, left, after⟩ := begins.frameAcross held part enough next
        exact seen (by rw [eq, Dev.mayHand_iff.mpr may]; exact left) after
      · obtain ⟨w, left, after⟩ := begins.fileDamaged file stopped (d.mayHand x y)
        exact seen (eq ▸ left) after
  · intro e now
    refine ⟨fun bs decoded passes => ?_, fun cause fails => ?_⟩
    · have eq : e = _ := Dev.restoreRecord_passes half restore held data needs decoded passes
      have left := ((Dev.Restores.start restore).modRestore (Restore.heldWhole half bs)).push (.deliver c)
      exact ⟨by rw [eq, Dev.push_cat]; rfl, _, _, (eq ▸ left).restore?, rfl⟩
    · have eq : e = _ := Dev.restoreRecord_fails half restore held data needs fails
      obtain ⟨counted, left⟩ := Dev.holdFailed_leaves (cause := cause) ((Dev.restore?_of_sess (Dev.sess_freeHalf ..)).trans restore)
        ((Dev.setOf_of_sets (congrArg _ (Dev.freeHalf_cat ..)) x).trans held) (Dev.needsRecord_first needs)
      rw [Dev.freeHalf_cat] at counted
      exact ⟨fun g segment => eq ▸ counted g segment, _, _, (eq ▸ left).restore?, rfl⟩

end Sys2Proof.Machine
end

section
/-! The requests of the table, alike: how each is taken, and its checks of form, panel group and session in their order (R171, R172). -/

namespace Sys2Proof.Machine

/-! ### What a request's checks come to -/

theorem exec_config (f : Req) (s : State) : exec (.config f) s = s.does fun d => d.arrive f .config fun r d =>
    d.withForm r (parseConfig f.payload) fun q d => d.panelOnly r fun d => d.configure r q := by rfl
theorem exec_noticeMask (f : Req) (s : State) : exec (.noticeMask f) s = s.does fun d => d.arrive f .noticeMask fun r d =>
    d.withForm r (parseMask f.payload) fun q d => d.panelOnly r fun d => d.setMask r q.1 q.2 := by rfl
theorem exec_reset (f : Req) (s : State) : exec (.reset f) s = s.does fun d => d.arrive f .reset fun r d =>
    d.withForm r (parseNone f.payload) fun _ d => d.panelOnly r fun d => d.resetTaken r := by rfl

/-- R171, R172: the command `i` is a request of the kind `k` in the frame `f`: it arrives at its port, and its payload, read as
`parsed`, passes the check of its form before `act`; a request of the panel group then passes that check, and one that names a session
that one, before anything of its own. -/
structure Asks (i : Instr) (f : Req) (k : ReqKind) {α : Type} (parsed : Option α) (act : ReqId → α → Dev → Dev) : Prop where
  runs : ∀ s, exec i s = s.does fun d => d.arrive f k fun r d => d.withForm r parsed (act r)
  form : parsed.isSome = formOk i
  ofPanel : k.panel = true → ∀ r x d, ∃ own, act r x d = d.panelOnly r own
  ofSession : k.namesSession = true → ∀ r x d, ∃ own, act r x d = d.withSession r own

namespace Asks
variable {i : Instr} {f : Req} {k : ReqKind} {α : Type} {parsed : Option α}

/-- A request that comes to its own checks once its form is right. -/
theorem plain {act : ReqId → α → Dev → Dev}
    (runs : ∀ s, exec i s = s.does fun d => d.arrive f k fun r d => d.withForm r parsed (act r))
    (form : parsed.isSome = formOk i) (anyPort : k.panel = false) (noSession : k.namesSession = false) : Asks i f k parsed act :=
  ⟨runs, form, fun panel => by simp [anyPort] at panel, fun session => by simp [noSession] at session⟩

theorem panel {own : ReqId → α → Dev → Dev}
    (runs : ∀ s, exec i s = s.does fun d => d.arrive f k fun r d => d.withForm r parsed fun x d => d.panelOnly r (own r x))
    (form : parsed.isSome = formOk i) (noSession : k.namesSession = false) :
    Asks i f k parsed fun r x d => d.panelOnly r (own r x) :=
  ⟨runs, form, fun _ _ _ _ => ⟨_, rfl⟩, fun session => by simp [noSession] at session⟩

theorem session {own : ReqId → α → Chan → Session → Dev → Dev}
    (runs : ∀ s, exec i s = s.does fun d => d.arrive f k fun r d => d.withForm r parsed fun x d => d.withSession r (own r x))
    (form : parsed.isSome = formOk i) (anyPort : k.panel = false) : Asks i f k parsed fun r x d => d.withSession r (own r x) :=
  ⟨runs, form, fun panel => by simp [anyPort] at panel, fun _ _ _ _ => ⟨_, rfl⟩⟩

/-- A request that may come while files are sent names a session, whatever that session then is (R121). -/
theorem files {own : ReqId → α → Chan → Session → Backup → Dev → Dev}
    (runs : ∀ s, exec i s = s.does fun d => d.arrive f k fun r d => d.withForm r parsed fun x d => d.withFiles r (own r x))
    (form : parsed.isSome = formOk i) (anyPort : k.panel = false) : Asks i f k parsed fun r x d => d.withFiles r (own r x) :=
  ⟨runs, form, fun panel => by simp [anyPort] at panel, fun _ _ _ _ => ⟨_, rfl⟩⟩

end Asks

/-! ### The unit byte of CLEAR_FAULT (log entry 10) -/

theorem payload_eq_unit {bs : List Byte} (u : Byte) : bs = [u] ↔ parseByte bs = some u.toNat := by
  constructor
  · rintro rfl
    exact parseByte_single u
  · intro parsed
    match bs with
    | [] => cases parsed
    | [b] =>
      rw [parseByte_single, Option.some.injEq] at parsed
      rw [BitVec.eq_of_toNat_eq parsed]
    | _ :: _ :: _ => simp [parseByte, takeNum, whole] at parsed

theorem unitForm_drive (bs : List Byte) :
    (match parseByte bs with | some 0 => some Chan.ch0 | some 1 => some Chan.ch1 | _ => none).isSome =
      (decide (bs = [0]) || decide (bs = [1])) := by
  have first : bs = [0] ↔ parseByte bs = some 0 := payload_eq_unit 0
  have second : bs = [1] ↔ parseByte bs = some 1 := payload_eq_unit 1
  simp only [first, second]
  split <;> simp_all

theorem unitForm_changer (bs : List Byte) :
    (match parseByte bs with | some 2 => some () | _ => none).isSome = decide (bs = [2]) := by
  have unit : bs = [2] ↔ parseByte bs = some 2 := payload_eq_unit 2
  simp only [unit]
  split <;> simp_all

theorem unitForm_store (bs : List Byte) :
    (match parseByte bs with | some 3 => some () | _ => none).isSome = decide (bs = [3]) := by
  have unit : bs = [3] ↔ parseByte bs = some 3 := payload_eq_unit 3
  simp only [unit]
  split <;> simp_all

/-- Every request of the table is taken, and its form, port and session checked, before its own checks. -/
theorem request_asks {i : Instr} {f : Req} {k : ReqKind} (request : i.request? = some (f, k)) :
    ∃ (α : Type) (parsed : Option α) (act : ReqId → α → Dev → Dev), Asks i f k parsed act := by
  cases i <;> cases request
  case inquire => exact ⟨_, _, _, .plain (exec_inquire f) rfl rfl rfl⟩
  case cartridgeList => exact ⟨_, _, _, .plain (exec_cartridgeList f) rfl rfl rfl⟩
  case setList => exact ⟨_, _, _, .plain (exec_setList f) rfl rfl rfl⟩
  case setStatus => exact ⟨_, _, _, .plain (exec_setStatus f) rfl rfl rfl⟩
  case openBackup => exact ⟨_, _, _, .plain (exec_openBackup f) rfl rfl rfl⟩
  case cancel => exact ⟨_, _, _, .plain (exec_cancel f) rfl rfl rfl⟩
  case openVerify => exact ⟨_, _, _, .plain (exec_openVerify f) rfl rfl rfl⟩
  case openRestore => exact ⟨_, _, _, .plain (exec_openRestore f) rfl rfl rfl⟩
  case recycle => exact ⟨_, _, _, .plain (exec_recycle f) rfl rfl rfl⟩
  case sessionStatus => exact ⟨_, _, _, .session (exec_sessionStatus f) rfl rfl⟩
  case abort => exact ⟨_, _, _, .session (exec_abort f) rfl rfl⟩
  case grant => exact ⟨_, _, _, .session (exec_grant f) rfl rfl⟩
  case fileBegin => exact ⟨_, _, _, .files (exec_fileBegin f) rfl rfl⟩
  case data => exact ⟨_, _, _, .files (exec_data f) rfl rfl⟩
  case fileEnd => exact ⟨_, _, _, .files (exec_fileEnd f) rfl rfl⟩
  case closeSet => exact ⟨_, _, _, .files (exec_closeSet f) rfl rfl⟩
  case importCarts => exact ⟨_, _, _, .panel (exec_importCarts f) rfl rfl⟩
  case exportCart => exact ⟨_, _, _, .panel (exec_exportCart f) rfl rfl⟩
  case relocate => exact ⟨_, _, _, .panel (exec_relocate f) rfl rfl⟩
  case inventory => exact ⟨_, _, _, .panel (exec_inventory f) rfl rfl⟩
  case erase => exact ⟨_, _, _, .panel (exec_erase f) rfl rfl⟩
  case rebuild => exact ⟨_, _, _, .panel (exec_rebuild f) rfl rfl⟩
  case pools => exact ⟨_, _, _, .panel (exec_pools f) rfl rfl⟩
  case lockPool => exact ⟨_, _, _, .panel (exec_lockPool f) rfl rfl⟩
  case day => exact ⟨_, _, _, .panel (exec_day f) rfl rfl⟩
  case config => exact ⟨_, _, _, .panel (exec_config f) rfl rfl⟩
  case noticeMask => exact ⟨_, _, _, .panel (exec_noticeMask f) rfl rfl⟩
  case stopResume => exact ⟨_, _, _, .panel (exec_stopResume f) rfl rfl⟩
  case clearFaultDrive => exact ⟨_, _, _, .panel (exec_clearFaultDrive f) (unitForm_drive f.payload) rfl⟩
  case clearFaultChanger => exact ⟨_, _, _, .panel (exec_clearFaultChanger f) (unitForm_changer f.payload) rfl⟩
  case clearFaultStore => exact ⟨_, _, _, .panel (exec_clearFaultStore f) (unitForm_store f.payload) rfl⟩
  case reset => exact ⟨_, _, _, .panel (exec_reset f) rfl rfl⟩

/-! ### The session a handle does not name (R172, check 3) -/

section Unnamed
variable {d : Dev} {r : ReqId} (own : Chan → Session → Dev → Dev)

theorem Dev.withSession_noHandle (absent : r.handle = 0 ∨ r.handle = 255) : d.withSession r own = d.answer r .badRequest :=
  if_pos absent

variable (zero : r.handle ≠ 0) (all : r.handle ≠ 255)
include zero all

theorem Dev.withSession_unheld (unheld : d.sessionOf r.handle = none) : d.withSession r own =
    d.answer r (if d.waitList.any (·.handle = r.handle) then .badState else .badRequest) := by
  simp only [Dev.withSession, zero, all, or_self, if_false, unheld]
  split <;> rfl

theorem Dev.withSession_foreign {c : Chan} {x : Session} (held : d.sessionOf r.handle = some c) (sess : d.sess c = some x)
    (foreign : x.owner ≠ r.port) : d.withSession r own = d.answer r .notOwner := by
  simp [Dev.withSession, zero, all, held, sess, foreign]

end Unnamed

/-! ### A request that its port takes -/

section Taken
variable {s : State} {i : Instr} {f : Req} {k : ReqKind} {α : Type} {parsed : Option α} {act : ReqId → α → Dev → Dev}
  (asks : Asks i f k parsed act) (takes : s.dev.takes f)
include asks takes

theorem Asks.exec_malformed (form : formOk i = false) :
    exec i s = .next { s with dev := (s.dev.begin.answered f k .badRequest f.handle.toNat []).finish } := by
  have unread : parsed = none := Option.isNone_iff_eq_none.mp (Option.isSome_eq_false_iff.mp (asks.form.trans form))
  rw [asks.runs, State.does_arrive k _ takes, unread, Dev.withForm_none, Dev.takes_answer k takes]

theorem Asks.exec_formed (form : formOk i = true) : ∃ x, exec i s =
    .next { s with dev := (act (s.dev.begin.newReq f k) x (s.dev.begin.joined f k)).finish } := by
  obtain ⟨x, read⟩ := Option.isSome_iff_exists.mp (asks.form.trans form)
  exact ⟨x, by rw [asks.runs, State.does_arrive k _ takes, read, Dev.withForm_some]⟩

theorem Asks.exec_client (form : formOk i = true) (panel : k.panel = true) (client : f.port ≠ .P) :
    exec i s = .next { s with dev := (s.dev.begin.answered f k .notOwner f.handle.toNat []).finish } := by
  obtain ⟨x, runs⟩ := asks.exec_formed takes form
  obtain ⟨own, checks⟩ := asks.ofPanel panel (s.dev.begin.newReq f k) x (s.dev.begin.joined f k)
  rw [runs, checks, Dev.panelOnly_client _ _ _ client, Dev.takes_answer k takes]

/-- R172, check 3, on the device the request has joined: its answer when the handle is turned away with `st`. -/
theorem Asks.exec_unnamed {st : Status} (form : formOk i = true) (names : k.namesSession = true)
    (turned : ∀ own, (s.dev.begin.joined f k).withSession (s.dev.begin.newReq f k) own =
      (s.dev.begin.joined f k).answer (s.dev.begin.newReq f k) st) :
    exec i s = .next { s with dev := (s.dev.begin.answered f k st f.handle.toNat []).finish } := by
  obtain ⟨x, runs⟩ := asks.exec_formed takes form
  obtain ⟨own, checks⟩ := asks.ofSession names (s.dev.begin.newReq f k) x (s.dev.begin.joined f k)
  rw [runs, checks, turned, Dev.takes_answer k takes]

end Taken

/-- Settles O4: every request is checked in the one order (`request_asks`), on a device it has joined, whose sessions and wait list are
the old ones. -/
theorem requestsAreCheckedFirst : Obligations.RequestsAreCheckedFirst := by
  intro s i f k request takes h turned
  obtain ⟨α, parsed, act, asks⟩ := request_asks request
  have ch : (s.dev.begin.joined f k).ch = s.dev.ch := Dev.joined_ch ..
  have held : (s.dev.begin.joined f k).sessionOf h = s.dev.sessionOf h := Dev.sessionOf_of_ch ch h
  refine ⟨asks.exec_malformed takes, asks.exec_client takes, fun form names => ⟨fun absent => ?_, fun zero all unheld => ?_, ?_⟩⟩
  · exact asks.exec_unnamed takes form names fun own => Dev.withSession_noHandle own absent
  · have waits : (s.dev.begin.joined f k).waitList = s.dev.waitList := Dev.joined_waitList ..
    rw [← waits]
    exact asks.exec_unnamed takes form names fun own => Dev.withSession_unheld own zero all (held.trans unheld)
  · intro c x zero all ofHandle sess foreign
    exact asks.exec_unnamed takes form names fun own =>
      Dev.withSession_foreign own zero all (held.trans ofHandle) ((Dev.sess_of_ch ch c).trans sess) foreign

/-! ### A full queue, and a port that is not heard -/

section Overflowed
variable {d : Dev} {f : Req}

theorem Dev.arrive_full (k : ReqKind) (act : ReqId → Dev → Dev) (hears : d.hears f.port = true)
    (full : Config.maxRequests ≤ (d.port f.port).queue.length) : d.arrive f k act = d.overflowed f := by
  simp only [Dev.arrive, hears, full, if_true]

theorem Dev.overflowed_answered (few : ((d.port f.port).path.filter OutFrame.isOverflow).length < 4) : d.overflowed f =
    (d.setPort f.port { d.port f.port with path := (d.port f.port).path ++ [.overflow f.tag.toNat f.handle.toNat] }).push
      (.transmit f.port) := if_pos few

theorem Dev.overflowed_lost (many : 4 ≤ ((d.port f.port).path.filter OutFrame.isOverflow).length) :
    d.overflowed f = d.setPort f.port { d.port f.port with lost := true } := if_neg (Nat.not_lt.mpr many)

end Overflowed

theorem exec_frameError (p : Port) (s : State) : exec (.frameError p) s = s.does fun d => d.badFrame p := by rfl
theorem exec_unknownFrameKind (p : Port) (tag handle : Byte) (s : State) :
    exec (.unknownFrameKind p tag handle) s = s.does fun d => d.unknownKind p tag handle := by rfl

section Unheard
variable {d : Dev} {p : Port} (deaf : d.hears p = false)
include deaf

theorem Dev.badFrame_unheard : d.badFrame p = d := if_neg (by simp [deaf])
theorem Dev.unknownKind_unheard (tag handle : Byte) : d.unknownKind p tag handle = d := if_neg (by simp [deaf])

end Unheard

/-- Settles O3: what becomes of a frame that joins no queue, for each request by its arrival (`request_asks`). -/
theorem fullOrDeafPortTurnsAFrameAway : Obligations.FullOrDeafPortTurnsAFrameAway := by
  refine ⟨fun s i f k request hears full => ?_, fun s i f k request deaf => ?_, fun s p deaf => ?_⟩
  · intro u waiting
    obtain ⟨α, parsed, act, asks⟩ := request_asks request
    have port : s.dev.begin.port f.port = u := Dev.port_begin ..
    rw [asks.runs, State.does, Dev.arrive_full k _ ((Dev.hears_begin ..).trans hears) (by rw [port]; exact full)]
    refine ⟨fun few => ?_, fun many => ?_⟩
    · rw [Dev.overflowed_answered (by rw [port]; exact few), port]
    · rw [Dev.overflowed_lost (by rw [port]; exact many), port]
  · obtain ⟨α, parsed, act, asks⟩ := request_asks request
    rw [asks.runs, State.does, Dev.arrive_unheard k _ ((Dev.hears_begin ..).trans deaf)]
  · have deaf := (Dev.hears_begin s.dev p).trans deaf
    refine ⟨?_, fun tag handle => ?_⟩
    · rw [exec_frameError, State.does, Dev.badFrame_unheard deaf]
    · rw [exec_unknownFrameKind, State.does, Dev.unknownKind_unheard deaf]

end Sys2Proof.Machine
end

section
/-! The port units' events: frames that are no request (R170), frames that leave (R174), and the loss, return and hold expiry of a client
link (R178 to R181). -/

namespace Sys2Proof.Machine

/-! ### Frames that are no request (R170) -/

section Heard
variable {d : Dev} {p : Port} (hears : d.hears p = true)
include hears

theorem Dev.badFrame_first (first : (d.port p).path.any OutFrame.isFrameError = false) :
    d.badFrame p = (d.setPort p { d.port p with path := (d.port p).path ++ [.frameError] }).push (.transmit p) :=
  if_pos ⟨hears, first⟩

theorem Dev.unknownKind_heard (tag handle : Byte) : d.unknownKind p tag handle =
    (d.setPort p { d.port p with path := (d.port p).path ++ [.answer none tag.toNat handle.toNat .badRequest []] }).push
      (.transmit p) := if_pos hears

end Heard

theorem Dev.badFrame_waiting {d : Dev} {p : Port} (waiting : (d.port p).path.any OutFrame.isFrameError = true) : d.badFrame p = d :=
  if_neg fun taken => by simp [waiting] at taken

/-- Settles O6: a bad frame by whether a FRAME_ERROR waits, an unknown kind as it is heard. -/
theorem framesThatAreNoRequestAreAnswered : Obligations.FramesThatAreNoRequestAreAnswered := by
  refine ⟨fun s p hears => ?_, fun s p tag handle hears => ?_⟩
  · intro u
    have hears := (Dev.hears_begin s.dev p).trans hears
    have port : s.dev.begin.port p = u := Dev.port_begin ..
    rw [exec_frameError, State.does]
    refine ⟨fun first => ?_, fun waiting => ?_⟩
    · rw [Dev.badFrame_first hears (by rw [port]; exact first), port]
    · rw [Dev.badFrame_waiting (by rw [port]; exact waiting)]
  · rw [exec_unknownFrameKind, State.does, Dev.unknownKind_heard ((Dev.hears_begin s.dev p).trans hears), Dev.port_begin]

/-! ### Frames that leave (R171, R174) -/

theorem exec_frameLeft (p : Port) (s : State) : exec (.frameLeft p) s = s.does fun d => d.frameGone p := by rfl
theorem exec_panelReadCutShort (s : State) : exec .panelReadCutShort s = s.does id := by rfl

theorem Dev.frameGone_held {d : Dev} {p : Port} {f : OutFrame} (held : (d.port p).tx = some f) :
    d.frameGone p = ((d.setPort p { d.port p with tx := none }).leftPort p f).push (.transmit p) := by
  unfold Dev.frameGone
  rw [held]
  rfl

/-- R171, R174: a frame that is neither an answer with an entry nor a restore's FILE_DONE has nobody to tell. -/
theorem Dev.leftPort_other (d : Dev) (p : Port) {f : OutFrame} (answer : ∀ n t h st r, f ≠ .answer (some n) t h st r)
    (done : ∀ h q n o k m, f ≠ .delivery h q (.done n o k m)) : d.leftPort p f = d := by
  unfold Dev.leftPort
  split
  · exact (answer _ _ _ _ _ rfl).elim
  · exact (done _ _ _ _ _ _ rfl).elim
  · rfl

/-- Settles O7: the frame that left is told by its kind (`Dev.leftPort`); a panel read cut short has no effect. -/
theorem transmitterIsToldWhenAFrameLeaves : Obligations.TransmitterIsToldWhenAFrameLeaves := by
  refine ⟨fun s p f held => ?_, fun s => ⟨?_, fun idle => ?_⟩⟩
  · intro u e
    have gone : s.dev.begin.frameGone p = (e.leftPort p f).push (.transmit p) := by
      rw [Dev.frameGone_held ((congrArg PortUnit.tx (Dev.port_begin ..)).trans held), Dev.port_begin]
    rw [exec_frameLeft, State.does, gone]
    refine ⟨?_, ?_, fun answer done => ?_⟩
    · rintro n t h st r rfl
      rw [Dev.leftPort, Dev.modPort, Dev.port_setPort, Dev.setPort_setPort]
    · rintro h q n o k m rfl
      rfl
    · rw [Dev.leftPort_other e p answer done]
  · rw [exec_panelReadCutShort, State.does, id]
  · have still : s.dev.begin.finish = s.dev.begin := Dev.finish_idle _ idle
    rw [exec_panelReadCutShort, State.does, id, still]
    rfl

/-! ### The client links (R178 to R181) -/

theorem exec_linkDown (p : Port) (s : State) : exec (.linkDown p) s = s.does fun d => d.linkLost p := by rfl
theorem exec_linkUp (p : Port) (s : State) : exec (.linkUp p) s = s.does fun d => d.linkReturned p := by rfl
theorem exec_holdTimerExpiry (p : Port) (s : State) : exec (.holdTimerExpiry p) s = s.does fun d => d.holdExpired p := by rfl

@[simp] theorem Dev.channelsOf_setPort (d : Dev) (p q : Port) (u : PortUnit) : (d.setPort p u).channelsOf q = d.channelsOf q := by
  simp [Dev.channelsOf]

@[simp] theorem Dev.channelsOf_begin (d : Dev) (q : Port) : d.begin.channelsOf q = d.channelsOf q := rfl

section Links
variable {d : Dev} {p : Port}

theorem Dev.linkLost_up (client : p ≠ .P) (up : (d.port p).link = .up) : d.linkLost p =
    (d.channelsOf p).foldl Dev.restoreLost (d.setPort p { d.port p with
      present := false, queue := [], path := [], notices := [], tx := none, link := .holding, hold := some Config.holdMs }) := by
  simp [Dev.linkLost, Dev.modPort, client, up]

theorem Dev.linkLost_notUp (other : (d.port p).link ≠ .up) : d.linkLost p = d.setPort p { d.port p with present := false } := by
  simp [Dev.linkLost, Dev.modPort, other]

theorem Dev.linkReturned_down (down : (d.port p).link = .down) :
    d.linkReturned p = d.setPort p { d.port p with present := true, link := .up } := by
  simp [Dev.linkReturned, Dev.modPort, down]

theorem Dev.linkReturned_up (up : (d.port p).link = .up) : d.linkReturned p = d.setPort p { d.port p with present := true } := by
  simp [Dev.linkReturned, Dev.modPort, up]

/-- R180: the port of a link that has returned within its hold. -/
def PortUnit.returned (u : PortUnit) : PortUnit := { u with present := true, link := .up, hold := none }

theorem Dev.linkReturned_holding (holding : (d.port p).link = .holding) : d.linkReturned p =
    (((d.setPort p (d.port p).returned).shuffled (d.channelsOf p)).1.foldl Dev.sessionReturned
      ((d.setPort p (d.port p).returned).shuffled (d.channelsOf p)).2) := by
  simp [Dev.linkReturned, Dev.modPort, holding, PortUnit.returned]

/-- R181: the device when a link's hold has expired and its port's waiting opens have left the list. -/
def Dev.holdOver (d : Dev) (p : Port) : Dev :=
  (d.waitList.filter fun w => w.req.port = p).foldl (fun d w => d.leaveList w none)
    (d.setPort p { d.port p with hold := none, link := .down })

theorem Dev.holdExpired_running (running : (d.port p).hold ≠ none) : d.holdExpired p =
    ((d.holdOver p).shuffled ((d.holdOver p).channelsOf p)).1.foldl Dev.loseSession
      ((d.holdOver p).shuffled ((d.holdOver p).channelsOf p)).2 := by
  simp [Dev.holdExpired, Dev.modPort, running, Dev.holdOver]

end Links

/-- Settles O8: each of the links' events by the state the link was in. -/
theorem clientLinksAreLostHeldAndReturned : Obligations.ClientLinksAreLostHeldAndReturned := by
  refine ⟨fun s p client => ?_, fun s p client => ?_, fun s p running => ?_⟩
  · intro u
    have port : s.dev.begin.port p = u := Dev.port_begin ..
    rw [exec_linkDown, State.does]
    refine ⟨fun up => ?_, fun other => ?_⟩
    · rw [Dev.linkLost_up client (by rw [port]; exact up), port, Dev.channelsOf_begin]
    · rw [Dev.linkLost_notUp (by rw [port]; exact other), port]
  · intro u
    have port : s.dev.begin.port p = u := Dev.port_begin ..
    rw [exec_linkUp, State.does]
    refine ⟨fun down => ?_, fun holding => ?_, fun up => ?_⟩
    · rw [Dev.linkReturned_down (by rw [port]; exact down), port]
    · intro e
      rw [Dev.linkReturned_holding (by rw [port]; exact holding), port, Dev.channelsOf_begin]
      rfl
    · rw [Dev.linkReturned_up (by rw [port]; exact up), port]
  · intro _ e
    have left : s.dev.begin.holdOver p = e := by
      rw [Dev.holdOver, Dev.port_begin]
      rfl
    rw [exec_holdTimerExpiry, State.does, Dev.holdExpired_running (by rw [Dev.port_begin]; exact running), left]

/-! ### The transmitter (R174) -/

section Transmits
variable {d : Dev} {p : Port}

theorem Dev.transmit_still (still : (d.port p).tx ≠ none ∨ (d.port p).link ≠ .up) : d.transmit p = d :=
  if_pos (by simpa [Option.isSome_iff_ne_none] using still)

variable (free : (d.port p).tx = none) (up : (d.port p).link = .up)
include free up

theorem Dev.transmit_empty (path : (d.port p).path = []) (notices : (d.port p).notices = []) : d.transmit p = d := by
  simp [Dev.transmit, free, up, path, notices]

theorem Dev.transmit_path {f : OutFrame} {fs : List OutFrame} (path : (d.port p).path = f :: fs)
    (turn : (d.port p).notices = [] ∨ (d.port p).lastNotice = true) :
    d.transmit p = d.setPort p { d.port p with path := fs, tx := some f, lastNotice := false } := by
  cases notices : (d.port p).notices with
  | nil => simp [Dev.transmit, free, up, path, notices]
  | cons n ns =>
    have last : (d.port p).lastNotice = true := turn.resolve_left (by simp [notices])
    simp [Dev.transmit, free, up, path, notices, last]

theorem Dev.transmit_notice {n : Notice} {ns : List Notice} (notices : (d.port p).notices = n :: ns)
    (turn : (d.port p).path = [] ∨ (d.port p).lastNotice = false) : d.transmit p =
      (d.setPort p { d.port p with notices := ns, tx := some (.notice n), lastNotice := true }).push (.creditRetry p) := by
  cases path : (d.port p).path with
  | nil => simp [Dev.transmit, free, up, path, notices]
  | cons f fs =>
    have last : (d.port p).lastNotice = false := turn.resolve_left (by simp [path])
    simp [Dev.transmit, free, up, path, notices, last]

end Transmits

/-- Settles O51: the transmitter by what the two sources hold and which it took from last. -/
theorem transmitterTakesFromThePathsInTurn : Obligations.TransmitterTakesFromThePathsInTurn := fun _ _ =>
  ⟨Dev.transmit_still, fun free up => ⟨fun _ _ => Dev.transmit_path free up, fun _ _ => Dev.transmit_notice free up,
    Dev.transmit_empty free up⟩⟩

end Sys2Proof.Machine
end

section
/-! CONFIG (R192) and NOTICE_MASK (R177). -/

namespace Sys2Proof.Machine

/-! ### A change of the settings that comes with a request's answer -/

/-- The device with other settings. -/
def Dev.withCfg (d : Dev) (g : Settings) : Dev := { d with cfg := g }

@[simp] theorem Dev.port_withCfg (d : Dev) (g : Settings) (p : Port) : (d.withCfg g).port p = d.port p := by cases p <;> rfl

theorem Dev.port_dirty (d : Dev) (b : Nat) (p : Port) : (d.dirty b).port p = d.port p := by
  rw [Dev.dirty, Dev.port_push, Dev.port_modCst]

/-- A request joins its port's queue as well after the settings have changed as before. -/
theorem Dev.joined_withCfg (d : Dev) (f : Req) (k : ReqKind) (g : Settings) : (d.joined f k).withCfg g = (d.withCfg g).joined f k := by
  unfold Dev.joined Dev.modPort Dev.newReq
  cases f.port <;> rfl

theorem Dev.joined_dirty (d : Dev) (f : Req) (k : ReqKind) (b : Nat) : (d.joined f k).dirty b = (d.dirty b).joined f k :=
  Dev.joined_modCat_dirty d f k id b

/-- R173: the answer to a request whose meaning was a change, to the device `e`, that leaves its port as it was. -/
theorem Dev.takes_changed_answerWith {s : State} {f : Req} {e : Dev} (k : ReqKind) (takes : s.dev.takes f)
    (port : e.port f.port = s.dev.begin.port f.port) (st : Status) (result : List Byte) :
    (e.joined f k).answerWith (s.dev.begin.newReq f k) st (s.dev.begin.newReq f k).handle result =
      e.answered f k st f.handle.toNat result := by
  have req : s.dev.begin.newReq f k = e.newReq f k := by simp only [Dev.newReq, port]
  rw [req, Dev.joined_answerWith k st _ result (port ▸ Dev.takes_up takes), Dev.newReq_handle]

/-! ### CONFIG -/

/-- R189, R192: the device with other settings, block 0 marked dirty when they are not what they were. -/
def Dev.configuredTo (d : Dev) (g : Settings) : Dev := if g ≠ d.cfg then (d.withCfg g).dirty 0 else d.withCfg g

theorem Dev.port_configuredTo (d : Dev) (g : Settings) (p : Port) : (d.configuredTo g).port p = d.port p := by
  unfold Dev.configuredTo
  split
  · rw [Dev.port_dirty, Dev.port_withCfg]
  · rw [Dev.port_withCfg]

theorem Dev.joined_configuredTo (d : Dev) (f : Req) (k : ReqKind) (g : Settings) :
    (d.joined f k).configuredTo g = (d.configuredTo g).joined f k := by
  have cfg : (d.joined f k).cfg = d.cfg := by simp [Dev.joined]
  unfold Dev.configuredTo
  rw [cfg, Dev.joined_withCfg, Dev.joined_dirty]
  split <;> rfl

theorem Dev.configure_eq (d : Dev) (r : ReqId) (q : ConfigReq) : d.configure r q =
    ((d.configuredTo (d.cfg.configured q)).answerWith r .ok r.handle (settingsBytes (d.cfg.configured q))).doorUpdate := by
  simp [Dev.configure, Dev.configuredTo, Dev.withCfg]

theorem exec_config_taken {s : State} {f : Req} {q : ConfigReq} (takes : s.dev.takes f) (panel : f.port = .P)
    (payload : parseConfig f.payload = some q) : exec (.config f) s = .next { s with dev :=
      (((s.dev.begin.configuredTo (s.dev.cfg.configured q)).answered f .config .ok f.handle.toNat
        (settingsBytes (s.dev.cfg.configured q))).doorUpdate).finish } := by
  have cfg : (s.dev.begin.joined f .config).cfg = s.dev.cfg := by simp [Dev.joined]
  rw [exec_config, State.does_panel .config (fun r q d => d.configure r q) takes panel payload, Dev.configure_eq, cfg,
    Dev.joined_configuredTo, Dev.takes_changed_answerWith .config takes (Dev.port_configuredTo ..)]

/-! ### NOTICE_MASK -/

section Masked
variable {s : State} {f : Req} {code : Nat} {m : List Bool} (takes : s.dev.takes f) (panel : f.port = .P)
  (payload : parseMask f.payload = some (code, m))
include takes panel payload

theorem exec_noticeMask_port {p : Port} (coded : portOfCode code = some p) : exec (.noticeMask f) s = .next { s with dev :=
    (((s.dev.begin.withCfg (s.dev.cfg.withMask m p)).dirty 0).answered f .noticeMask .ok f.handle.toNat
      (leBytes 2 (bitsNat m))).finish } := by
  have cfg : (s.dev.begin.joined f .noticeMask).cfg = s.dev.cfg := by simp [Dev.joined]
  have masked (d : Dev) (r : ReqId) : d.setMask r code m =
      ((d.withCfg (d.cfg.withMask m p)).dirty 0).answerWith r .ok r.handle (leBytes 2 (bitsNat m)) := by
    rw [Dev.setMask, coded]
    rfl
  rw [exec_noticeMask, State.does_panel .noticeMask (fun r q d => d.setMask r q.1 q.2) takes panel payload, masked, cfg,
    Dev.joined_withCfg, Dev.joined_dirty,
    Dev.takes_changed_answerWith .noticeMask takes (by rw [Dev.port_dirty, Dev.port_withCfg])]

theorem exec_noticeMask_noPort (uncoded : portOfCode code = none) : exec (.noticeMask f) s =
    .next { s with dev := (s.dev.begin.answered f .noticeMask .badRequest f.handle.toNat []).finish } := by
  have refused (d : Dev) (r : ReqId) : d.setMask r code m = d.answer r .badRequest := by rw [Dev.setMask, uncoded]
  rw [exec_noticeMask, State.does_panel .noticeMask (fun r q d => d.setMask r q.1 q.2) takes panel payload, refused,
    Dev.takes_answer .noticeMask takes]

end Masked

/-- Settles O26: the settings of the device a request has joined are the old ones, and a change of them leaves the ports as they are. -/
theorem configAndMasksAreStored : Obligations.ConfigAndMasksAreStored := by
  refine ⟨fun s f q takes panel payload => exec_config_taken takes panel payload, fun s f code m takes panel payload => ?_⟩
  exact ⟨fun p => exec_noticeMask_port takes panel payload, exec_noticeMask_noPort takes panel payload⟩

end Sys2Proof.Machine
end

section
/-! The frames of the requests, read back (R170, R197). -/

namespace Sys2Proof.Machine

theorem leNat_leBytes (k n : Nat) : leNat (leBytes k n) = n % 256 ^ k := by
  induction k generalizing n with
  | zero => simp [leBytes, leNat, Nat.mod_one]
  | succ k ih => rw [leBytes, leNat, toNat_byte, ih, pow_succ', Nat.mod_mul]

@[simp] theorem byte_toNat (b : Byte) : byte b.toNat = b := by simp [byte]

theorem leBytes_length (k n : Nat) : (leBytes k n).length = k := by
  induction k generalizing n with
  | zero => rfl
  | succ k ih => rw [leBytes, List.length_cons, ih]

/-! ### A frame's bytes -/

section Body
variable (kind tag handle flags : Nat) (payload rest : List Byte)

theorem frameBody_length : (frameBody kind tag handle flags payload).length = 6 + payload.length := by
  simp [frameBody, leBytes_length]
  omega

/-- R197: the payload length field of a frame. -/
theorem fieldAt_frameBody (fits : payload.length ≤ 4096) :
    fieldAt (frameBody kind tag handle flags payload ++ rest) 4 2 = payload.length := by
  have field : ((frameBody kind tag handle flags payload ++ rest).drop 4).take 2 = leBytes 2 payload.length := by
    simp [frameBody, leBytes]
  rw [fieldAt, field, leNat_leBytes]
  omega

theorem payload_frameBody : ((frameBody kind tag handle flags payload ++ rest).drop 6).take payload.length = payload := by
  simp [frameBody, leBytes]

/-- R170, R197: a frame as it is written is a good frame. -/
theorem goodFrame_frameBytes (fits : payload.length ≤ 4096) : goodFrame (frameBytes kind tag handle flags payload) = true := by
  have body := frameBody_length kind tag handle flags payload
  have length : (frameBytes kind tag handle flags payload).length = 8 + payload.length := by
    simp [frameBytes, body, crc16Bytes]
    omega
  have check : (frameBytes kind tag handle flags payload).drop (6 + payload.length) =
      crc16Bytes (crc16 (frameBody kind tag handle flags payload)) := List.drop_left' body
  have checked : (frameBytes kind tag handle flags payload).take (6 + payload.length) = frameBody kind tag handle flags payload :=
    List.take_left' body
  have field : fieldAt (frameBytes kind tag handle flags payload) 4 2 = payload.length := fieldAt_frameBody _ _ _ _ _ _ fits
  simp only [goodFrame, field, length, check, checked]
  simp [fits]
  omega

end Body

/-! ### The request a frame brings -/

@[simp] theorem reqKindOf_code (k : ReqKind) : reqKindOf (byte k.code).toNat = some k := by cases k <;> rfl

/-- R170, R197: the frame of a request arrives as the request its kind names, with every field as it was written. -/
theorem decodeFrame_requestFrame (f : Req) (k : ReqKind) (fits : f.payload.length ≤ 4096) :
    decodeFrame f.port (requestFrame f k) = requestOf f k := by
  have good : goodFrame (requestFrame f k) = true := goodFrame_frameBytes _ _ _ _ _ fits
  have field : fieldAt (requestFrame f k) 4 2 = f.payload.length := fieldAt_frameBody _ _ _ _ _ _ fits
  have payload : ((requestFrame f k).drop 6).take f.payload.length = f.payload := payload_frameBody ..
  have kind : (requestFrame f k).getD 0 0 = byte k.code := rfl
  have tag : (requestFrame f k).getD 1 0 = f.tag := byte_toNat _
  have handle : (requestFrame f k).getD 2 0 = f.handle := byte_toNat _
  have flags : (requestFrame f k).getD 3 0 = f.flags := byte_toNat _
  simp only [decodeFrame, good, if_true, field, payload, kind, tag, handle, flags, reqKindOf_code]

/-! ### The requests that can arrive -/

section ClearFault
variable {f : Req}

theorem clearFaultDrive_wellFormed :
    (Instr.clearFaultDrive f).wellFormed = true ↔ f.payload.length ≤ 4096 ∧ f.payload ≠ [2] ∧ f.payload ≠ [3] := by
  simp [Instr.wellFormed, Req.wellFormed, and_assoc]
theorem clearFaultChanger_wellFormed : (Instr.clearFaultChanger f).wellFormed = true ↔ f.payload = [2] := by simp [Instr.wellFormed]
theorem clearFaultStore_wellFormed : (Instr.clearFaultStore f).wellFormed = true ↔ f.payload = [3] := by simp [Instr.wellFormed]

end ClearFault

/-- R177, R197: a request that can arrive is the one its kind and its unit byte name. -/
theorem requestOf_request {i : Instr} {f : Req} {k : ReqKind} (request : i.request? = some (f, k)) (wf : i.wellFormed = true) :
    requestOf f k = i := by
  cases i <;> cases request
  case clearFaultDrive =>
    obtain ⟨-, changer, store⟩ := clearFaultDrive_wellFormed.mp wf
    exact (if_neg changer).trans (if_neg store)
  case clearFaultChanger => exact if_pos (clearFaultChanger_wellFormed.mp wf)
  case clearFaultStore =>
    have unit := clearFaultStore_wellFormed.mp wf
    exact (if_neg (by simp [unit])).trans (if_pos unit)
  all_goals rfl

/-- R170: the payload of a request that can arrive fits a frame. -/
theorem payload_fits {i : Instr} {f : Req} {k : ReqKind} (request : i.request? = some (f, k)) (wf : i.wellFormed = true) :
    f.payload.length ≤ 4096 := by
  cases i <;> cases request
  case clearFaultDrive => exact (clearFaultDrive_wellFormed.mp wf).1
  case clearFaultChanger => simp [clearFaultChanger_wellFormed.mp wf]
  case clearFaultStore => simp [clearFaultStore_wellFormed.mp wf]
  all_goals exact of_decide_eq_true wf

/-- Settles O57: a good frame is read field by field (`decodeFrame_requestFrame`), and its kind and unit byte name the request. -/
theorem requestFramesDecodeToTheRequest : Obligations.RequestFramesDecodeToTheRequest := fun _ f k request wf =>
  (decodeFrame_requestFrame f k (payload_fits request wf)).trans (requestOf_request request wf)

end Sys2Proof.Machine
end

section
/-! The door state and the power hold (R184, R185). -/

namespace Sys2Proof.Machine

/-! ### The door (R184) -/

theorem Dev.doorLevel_iff (d : Dev) : d.doorLevel = true ↔ ∃ l : Fin 4, d.cfg.fn l = .door ∧ (d.line l).level = .low := by
  simp [Dev.doorLevel]

theorem Dev.doorUpdate_still {d : Dev} (still : d.doorLevel = d.doorOpen) : d.doorUpdate = d := if_pos still

/-- R184: at a door event the door state and the door hold are set as start-up sets them; a closing then starts an inventory. -/
theorem Dev.doorUpdate_event {d : Dev} (event : d.doorLevel ≠ d.doorOpen) :
    d.doorUpdate = if d.doorLevel then d.setDoor.noticeAll (.door d.doorLevel)
      else (d.setDoor.noticeAll (.door d.doorLevel)).startInventory.push .send := if_neg event

/-- R184: what else a door event brings leaves the door state and the holds as they were set. -/
theorem Dev.Outside.doorUpdate {d : Dev} (event : d.doorLevel ≠ d.doorOpen) : d.setDoor.Outside d.doorUpdate := by
  have noticed := Dev.Outside.noticeAll d.setDoor (.door d.doorLevel)
  rw [Dev.doorUpdate_event event]
  split
  · exact noticed
  · exact (noticed.trans (Dev.Ensues.startInventory _).outside).trans (.push ..)

/-- R184: a change or none, the door state is then what the DOOR lines show. -/
theorem Dev.doorUpdate_doorOpen (d : Dev) : d.doorUpdate.doorOpen = d.doorLevel := by
  by_cases still : d.doorLevel = d.doorOpen
  · rw [Dev.doorUpdate_still still, still]
  · exact (Dev.Outside.doorUpdate still).doorOpen

theorem Dev.doorUpdate_holdDoor {d : Dev} (event : d.doorLevel ≠ d.doorOpen) : d.doorUpdate.mqu.holdDoor = d.doorLevel :=
  (Dev.Outside.doorUpdate event).holdDoor

/-! ### A power-fail event (R185) -/

theorem Dev.powerFail_held {d : Dev} (held : d.mqu.holdPower = true) : d.powerFail = d := if_pos held

theorem Dev.powerFail_free {d : Dev} (free : d.mqu.holdPower = false) : d.powerFail =
    (((d.modMqu fun m => { m with holdPower := true }).modCst fun s => { s with pass := some (s.pass.getD {}) }).noticeAll
      .powerHold).push .flush := if_neg (by simp [free])

/-- Settles O38: the door by whether its state changes (`Dev.doorUpdate_doorOpen`), a power-fail event by whether the hold is there. -/
theorem doorAndPowerFollowTheirLines : Obligations.DoorAndPowerFollowTheirLines := by
  refine ⟨fun d => ⟨?_, fun change => ?_⟩, fun d => ⟨Dev.powerFail_held, fun free => ?_⟩⟩
  · rw [Dev.doorUpdate_doorOpen, Dev.doorLevel_iff]
  · rw [Dev.doorUpdate_doorOpen] at change ⊢
    exact Dev.doorUpdate_holdDoor change.symm
  · have flush : Todo.flush ∈ d.powerFail.todo := by rw [Dev.powerFail_free free]; exact Dev.mem_push ..
    refine ⟨?mqu, ⟨d.cst.pass.getD {}, ?cst⟩, flush, ?ch, ?cat, ?cfg, ?smc⟩
    all_goals simp [Dev.powerFail_free free]

end Sys2Proof.Machine
end

section
/-! The settings and their ranges (R192): what the readers of block 0 and of CONFIG's payload can give, the commands that load or change
the settings, and the step. -/

namespace Sys2Proof.Machine

/-! ### Numbers and lists as they are read (R196) -/

theorem leNat_lt (bs : List Byte) : leNat bs < 256 ^ bs.length := by
  induction bs with
  | nil => simp [leNat]
  | cons b bs ih =>
    have := b.isLt
    rw [leNat, List.length_cons, pow_succ]
    omega

/-- A number of `k` bytes is below the `k`-th power of 256. -/
theorem takeNum_lt {k v : Nat} {bs r : List Byte} (h : takeNum k bs = some (v, r)) : v < 256 ^ k := by
  unfold takeNum at h
  split at h
  · cases h
  · cases h
    have taken : (bs.take k).length = k := List.length_take_of_le (by omega)
    simpa only [taken] using leNat_lt (bs.take k)

theorem takeIn_range {k lo hi v : Nat} {bs r : List Byte} (h : takeIn k lo hi bs = some (v, r)) : lo ≤ v ∧ v ≤ hi := by
  unfold takeIn at h
  split at h
  · split at h <;> cases h
    assumption
  · cases h

theorem takeMany_length {α : Type} {f : List Byte → Option (α × List Byte)} {n : Nat} {bs r : List Byte} {xs : List α}
    (h : takeMany f n bs = some (xs, r)) : xs.length = n := by
  induction n generalizing bs xs with
  | zero => cases h; rfl
  | succ n ih =>
    unfold takeMany at h
    split at h
    · cases h
    · obtain ⟨⟨ys, r'⟩, rest, eq⟩ := Option.map_eq_some_iff.mp h
      cases eq
      rw [List.length_cons, ih rest]

theorem whole_eq_some {α : Type} {o : Option (α × List Byte)} {x : α} (h : whole o = some x) : o = some (x, []) := by
  unfold whole at h
  split at h <;> cases h
  rfl

/-! ### Block 0 (R199) and CONFIG (R192) -/

/-- A parser that goes on after a field has read that field. -/
theorem field_read {α β : Type} {o : Option (α × List Byte)} {rest : α × List Byte → Option β} {y : β} (h : (o >>= rest) = some y) :
    ∃ a r, o = some (a, r) ∧ rest (a, r) = some y := by
  obtain ⟨⟨a, r⟩, read, on⟩ := Option.bind_eq_some_iff.mp h
  exact ⟨a, r, read, on⟩

/-- R192, R199: the settings of a block 0 that is not bad are in their ranges. -/
theorem readBlock0_inRange {body : List Byte} {x : Block0} (h : readBlock0 body = some x) : x.cfg.inRange := by
  unfold readBlock0 at h
  obtain ⟨live, _, -, h⟩ := field_read h
  obtain ⟨staged, _, -, h⟩ := field_read h
  obtain ⟨day, _, -, h⟩ := field_read h
  obtain ⟨next, _, -, h⟩ := field_read h
  obtain ⟨retire, _, retireIn, h⟩ := field_read h
  obtain ⟨openWait, _, openIn, h⟩ := field_read h
  obtain ⟨idle, _, idleIn, h⟩ := field_read h
  obtain ⟨settle, _, settleIn, h⟩ := field_read h
  obtain ⟨watermark, _, watermarkIn, h⟩ := field_read h
  obtain ⟨ahead, _, aheadIn, h⟩ := field_read h
  obtain ⟨reserve, _, reserveIn, h⟩ := field_read h
  obtain ⟨fns, _, four, h⟩ := field_read h
  obtain ⟨maskA, _, -, h⟩ := field_read h
  obtain ⟨maskB, _, -, h⟩ := field_read h
  obtain ⟨maskP, _, -, h⟩ := field_read h
  have settleLt := takeNum_lt settleIn
  have reserveLt := takeNum_lt reserveIn
  cases h
  exact ⟨(takeIn_range openIn).2, (takeIn_range idleIn).2, ⟨by dsimp only; omega, Nat.mul_mod_right ..⟩, takeIn_range watermarkIn,
    takeIn_range aheadIn, by dsimp only; omega, takeIn_range retireIn, takeMany_length four⟩

/-- R182, R192: CONFIG gives a function or the mark of no change for each of the four lines. -/
theorem parseConfig_fns {bs : List Byte} {q : ConfigReq} (h : parseConfig bs = some q) : q.fns.length = 4 := by
  unfold parseConfig at h
  obtain ⟨openWait, _, -, h⟩ := field_read h
  obtain ⟨idle, _, -, h⟩ := field_read h
  obtain ⟨settle, _, -, h⟩ := field_read h
  obtain ⟨watermark, _, -, h⟩ := field_read h
  obtain ⟨ahead, _, -, h⟩ := field_read h
  obtain ⟨reserve, _, -, h⟩ := field_read h
  obtain ⟨retire, _, -, h⟩ := field_read h
  obtain ⟨fns, four, h⟩ := Option.bind_eq_some_iff.mp h
  cases h
  exact takeMany_length (whole_eq_some four)

theorem clampTo_range {lo hi : Nat} (h : lo ≤ hi) (v : Nat) : lo ≤ clampTo lo hi v ∧ clampTo lo hi v ≤ hi := by
  unfold clampTo
  split
  · omega
  · split <;> omega

theorem setting_range {old lo hi : Nat} (h : lo ≤ old ∧ old ≤ hi) (v : Option Nat) :
    lo ≤ setting old lo hi v ∧ setting old lo hi v ≤ hi := by
  cases v with
  | none => exact h
  | some v => exact clampTo_range (h.1.trans h.2) v

/-- R192: CONFIG clamps each value to its range. -/
theorem Settings.configured_inRange {g : Settings} {q : ConfigReq} (h : g.inRange) (lines : q.fns.length = 4) :
    (g.configured q).inRange := by
  obtain ⟨openWait, idle, settle, watermark, ahead, reserve, retire, fns⟩ := h
  have settles : (g.configured q).settle ≤ 2550 ∧ (g.configured q).settle % 10 = 0 := by
    unfold Settings.configured
    dsimp only
    split
    · exact settle
    · next v _ =>
      have := (clampTo_range (Nat.zero_le 2550) v).2
      omega
  exact ⟨(setting_range ⟨Nat.zero_le _, openWait⟩ _).2, (setting_range ⟨Nat.zero_le _, idle⟩ _).2, settles, setting_range watermark _,
    setting_range ahead _, (setting_range ⟨Nat.zero_le _, reserve⟩ _).2, setting_range retire _,
    by simp [Settings.configured, fns, lines]⟩

theorem Settings.withMask_inRange {g : Settings} (h : g.inRange) (m : List Bool) (p : Port) : (g.withMask m p).inRange := by
  cases p <;> exact h

/-- R192: the factory settings. -/
theorem Settings.factory_inRange : ({} : Settings).inRange := by simp [Settings.inRange]

/-! ### The reads of the store (R193) -/

theorem Dev.defaultBlock_inRange {d : Dev} (h : d.cfg.inRange) (b : Nat) (lost : Bool) : (d.defaultBlock b lost).cfg.inRange := by
  unfold Dev.defaultBlock
  split
  · exact Settings.factory_inRange
  · split <;> exact h

theorem Dev.loadBody_inRange {d e : Dev} {b : Nat} {body : List Byte} (h : d.cfg.inRange) (loaded : d.loadBody b body = some e) :
    e.cfg.inRange := by
  unfold Dev.loadBody at loaded
  split at loaded
  · obtain ⟨x, read, rfl⟩ := Option.map_eq_some_iff.mp loaded
    exact readBlock0_inRange read
  · split at loaded
    all_goals
      obtain ⟨xs, -, rfl⟩ := Option.map_eq_some_iff.mp loaded
      exact h

theorem Dev.settleBlock_inRange {d : Dev} (h : d.cfg.inRange) (b : Nat) (x y : CopyRead) : (d.settleBlock b x y).cfg.inRange := by
  have chosen {q : Prop} [Decidable q] (f : Store → Store) :
      ((if q then { d with races := d.races + 1 } else d).modCst f).cfg.inRange := by split <;> exact h
  have bad {e : Dev} (he : e.cfg.inRange) : (e.badBlock b).cfg.inRange := Dev.defaultBlock_inRange he b true
  unfold Dev.settleBlock
  dsimp only
  split
  · split
    · next loaded => exact Dev.loadBody_inRange (chosen _) loaded
    · exact bad (chosen _)
  · exact Dev.defaultBlock_inRange (chosen _) b false
  · exact bad (chosen _)

/-- R193: a read of the store leaves the settings in their ranges. -/
theorem Dev.storeReadDone_inRange {d : Dev} (h : d.cfg.inRange) (r : StoreRead) : (d.storeReadDone r).cfg.inRange := by
  have settled {g : Dev} (b : Nat) (x y : CopyRead) (hg : g.cfg.inRange) : (if b < 20 then
      ((g.settleBlock b x y).modCst fun s => { s with read := some ⟨b + 1, none⟩ }).emit (.storeRead (b + 1) 0)
      else { g.settleBlock b x y with phase := .loaded, cst := { (g.settleBlock b x y).cst with read := none } }).cfg.inRange := by
    split <;> exact Dev.settleBlock_inRange hg b x y
  unfold Dev.storeReadDone
  split
  · exact h
  · dsimp only
    split
    · cases r <;> exact h
    · refine settled _ _ _ ?_
      cases r <;> exact h

/-! ### The step -/

/-- R171, R172: a request of the panel group comes to its meaning with its payload read, or leaves the settings and the pages. -/
theorem Dev.arrive_panel {α : Type} (d : Dev) (f : Req) (k : ReqKind) (parsed : Option α) (act : ReqId → α → Dev → Dev) :
    let e := d.arrive f k fun r d => d.withForm r parsed fun a d => d.panelOnly r (act r a)
    d.Steady e ∨ ∃ r a, parsed = some a ∧ e = act r a (d.joined f k) := by
  have joined : d.Steady (d.joined f k) := .joined (.refl d)
  unfold Dev.arrive
  split
  · split
    · exact .inl (.overflowed (.refl d))
    · cases parsed with
      | none => exact .inl joined.answer
      | some a =>
        simp only [Dev.withForm_some, Dev.panelOnly]
        split
        · exact .inr ⟨_, a, rfl, rfl⟩
        · exact .inl joined.answer
  · exact .inl (.refl d)

theorem Dev.setMask_inRange {d : Dev} (h : d.cfg.inRange) (r : ReqId) (n : Nat) (m : List Bool) : (d.setMask r n m).cfg.inRange := by
  unfold Dev.setMask
  split
  · rw [(Dev.Steady.refl d).answer.cfg]
    exact h
  · next p _ =>
    rw [(Dev.Steady.refl ({ d with cfg := d.cfg.withMask m p } : Dev)).dirty.answerWith.cfg]
    exact Settings.withMask_inRange h m p

variable {s t : State}

/-- A command whose effect keeps the settings in their ranges. -/
theorem State.does_inRange {effect : Dev → Dev} (h : s.does effect = .next t)
    (each : ∀ d : Dev, d.cfg.inRange → (effect d).cfg.inRange) (hs : s.dev.cfg.inRange) : t.dev.cfg.inRange := by
  cases h
  dsimp only
  rw [(Dev.Steady.refl _).finish.cfg]
  exact each _ hs

/-- R192: the settings stay in their ranges through every command. -/
theorem exec_inRange (i : Instr) (h : exec i s = .next t) (hs : s.dev.cfg.inRange) : t.dev.cfg.inRange := by
  cases i with
  | powerOn inputs =>
    cases h
    exact Settings.factory_inRange
  | storeReadCompletion r =>
    unfold exec execStoreReadCompletion at h
    exact State.does_inRange h (fun d hd => Dev.storeReadDone_inRange hd r) hs
  | config f =>
    rw [exec_config] at h
    refine State.does_inRange h (fun d hd => ?_) hs
    rcases d.arrive_panel f .config (parseConfig f.payload) fun r q d => d.configure r q with same | ⟨r, q, read, eq⟩
    · rw [same.cfg]
      exact hd
    · rw [eq, (Dev.configure_steady _ r q).cfg]
      exact Settings.configured_inRange (by rwa [(Dev.Steady.refl d).joined.cfg]) (parseConfig_fns read)
  | noticeMask f =>
    rw [exec_noticeMask] at h
    refine State.does_inRange h (fun d hd => ?_) hs
    rcases d.arrive_panel f .noticeMask (parseMask f.payload) fun r q d => d.setMask r q.1 q.2 with same | ⟨r, q, -, eq⟩
    · rw [same.cfg]
      exact hd
    · rw [eq]
      exact Dev.setMask_inRange (by rwa [(Dev.Steady.refl d).joined.cfg]) r q.1 q.2
  | _ =>
    rw [(exec_steady _ rfl h).cfg]
    exact hs

/-- Settles O59: an idle step changes nothing, and a command keeps the ranges (`exec_inRange`): the settings are set by the reads of
block 0, CONFIG, NOTICE_MASK and power-on alone, and each gives settings in their ranges. -/
theorem settingsStayInRange : Obligations.SettingsStayInRange := by
  intro s t hs h
  unfold step at h
  split at h
  · cases h
    exact hs
  · exact exec_inRange _ h hs

end Sys2Proof.Machine
end

section
/-! The catalogue store (R188 to R193): block writes and their ends, the order of a flush pass, power-on, the start-up reads, and the
choice between two copies. -/

namespace Sys2Proof.Machine

/-! ### From `exec` to the event -/

theorem exec_storeWriteCompletion (ok : Bool) (s : State) :
    exec (.storeWriteCompletion ok) s = s.does fun d => d.storeCompleted ok := by rfl
theorem exec_storeReadCompletion (r : StoreRead) (s : State) :
    exec (.storeReadCompletion r) s = s.does fun d => d.storeReadDone r := by rfl
theorem exec_startUp (s : State) : exec .startUp s = s.does Dev.startUp := by rfl
theorem exec_powerOn (i : Inputs) (s : State) : exec (.powerOn i) s = .next { s with dev := s.dev.powerOn i } := by rfl

/-! ### The end of a block write (R188 to R191) -/

section Written
variable {d : Dev} {w : StoreWrite} (inFlight : d.cst.write = some w)
include inFlight

theorem Dev.storeCompleted_ok : d.storeCompleted true = d.storeWritten w := by simp [Dev.storeCompleted, inFlight]
theorem Dev.storeCompleted_failed : d.storeCompleted false = d.storeFailed w := by simp [Dev.storeCompleted, inFlight]

end Written

/-- R188: the device after a failed write of `w`: its slot is neither valid nor erased (log entry 16). -/
def Dev.slotTorn (d : Dev) (w : StoreWrite) : Dev :=
  d.modCst fun t => { t with write := none, slots := t.slots.set (2 * w.block + w.copy) .torn }

/-- R190: the write is made again. -/
theorem Dev.storeFailed_retry (d : Dev) {w : StoreWrite} (due : w.retry = true) : d.storeFailed w =
    ((d.slotTorn w).modCst fun t => { t with clear := w.clear.orElse fun _ => t.clear }).startWrite w.block false := by
  rw [Dev.storeFailed, if_pos due]
  rfl

/-- R191: a pass that has just taken the block `b` leaves it out of the rest. -/
def Pass.without (b : Nat) (p : Pass) : Pass := if p.cursor = b + 1 then { p with failed := p.failed ++ [b] } else p

/-- R190, R191: the block stays dirty, and CST enters STORE_FAULT. -/
theorem Dev.storeFailed_again (d : Dev) {w : StoreWrite} (spent : w.retry = false) : d.storeFailed w =
    ((((d.slotTorn w).modCst fun t => { t with dirty := t.dirty.set w.block true, pass := t.pass.map (Pass.without w.block) }).storeFault
      ).answerOpt w.clear .fault).push .flush := by
  rw [Dev.storeFailed, if_neg (by simp [spent])]
  rfl

/-! ### The order of a flush pass (R191) -/

/-- R191: a dirty block that has not failed in the pass. -/
def Store.due (m : Store) (p : Pass) (b : Nat) : Bool := m.isDirty b && !p.failed.contains b

theorem Store.due_iff (m : Store) (p : Pass) (b : Nat) : m.due p b = true ↔ m.isDirty b = true ∧ b ∉ p.failed := by simp [Store.due]

/-- R191: the lowest block due at or after the cursor, else the lowest due. -/
theorem Store.passNext_eq {m : Store} (noClear : m.clear = none) (p : Pass) : m.passNext p =
    ((List.range 21).find? fun b => m.due p b && decide (p.cursor ≤ b)).orElse fun _ => (List.range 21).find? (m.due p) := by
  simp only [Store.passNext, noClear, Option.isSome_none, Bool.false_eq_true, if_false, List.find?_filter, List.head?_filter,
    Bool.decide_and, Bool.decide_eq_true]
  rfl

/-- What a search of the blocks finds is the lowest of them. -/
theorem find?_range_lowest {n b : Nat} {q : Nat → Bool} (h : (List.range n).find? q = some b) :
    q b = true ∧ ∀ k, k < n → q k = true → b ≤ k := by
  obtain ⟨found, -, before⟩ := List.find?_range_eq_some.mp h
  refine ⟨found, fun k _ hk => Nat.le_of_not_lt fun lower => ?_⟩
  simpa [hk] using before k lower

theorem Store.passNext_spec {m : Store} {p : Pass} {b : Nat} (noClear : m.clear = none) (next : m.passNext p = some b) :
    m.due p b = true ∧ ∀ k, k < 21 → m.due p k = true →
      (p.cursor ≤ b → p.cursor ≤ k → b ≤ k) ∧ (b < p.cursor → k < p.cursor ∧ b ≤ k) := by
  rw [Store.passNext_eq noClear] at next
  cases ahead : (List.range 21).find? fun b => m.due p b && decide (p.cursor ≤ b) with
  | some a =>
    obtain rfl : a = b := by simpa [ahead] using next
    obtain ⟨found, lowest⟩ := find?_range_lowest ahead
    simp only [Bool.and_eq_true, decide_eq_true_eq] at found lowest
    exact ⟨found.1, fun k hk due => ⟨fun _ on => lowest k hk ⟨due, on⟩, fun behind => absurd found.2 (Nat.not_le_of_lt behind)⟩⟩
  | none =>
    obtain ⟨found, lowest⟩ := find?_range_lowest (n := 21) (q := m.due p) (by simpa [ahead] using next)
    have behind (k : Nat) (hk : k < 21) (due : m.due p k = true) : k < p.cursor := by
      simpa [due] using List.find?_eq_none.mp ahead k (List.mem_range.mpr hk)
    exact ⟨found, fun k hk due => ⟨fun _ _ => lowest k hk due, fun _ => ⟨behind k hk due, lowest k hk due⟩⟩⟩

/-! ### The start-up reads (R193) -/

/-- R193: the slot `i`, as a copy of the block `b`. -/
def Dev.slotCopy (d : Dev) (b i : Nat) : CopyRead := (d.cst.slots.getD i .erased).asCopy b

/-- R193: the first copy of a block has been read, and its second is read next. -/
def Dev.firstRead (d : Dev) (b : Nat) (got : CopyRead) : Dev :=
  (d.modCst fun t => { t with read := some ⟨b, some got⟩ }).emit (.storeRead b 1)

/-- R193: both copies of a block have been read; the next block is read, or every block has been. -/
def Dev.bothRead (d : Dev) (b : Nat) (x got : CopyRead) : Dev :=
  if b < 20 then ((d.settleBlock b x got).modCst fun t => { t with read := some ⟨b + 1, none⟩ }).emit (.storeRead (b + 1) 0)
  else { d.settleBlock b x got with phase := .loaded, cst := { (d.settleBlock b x got).cst with read := none } }

section Reads
variable {d : Dev} {b : Nat}

theorem Dev.storeReadDone_first (reading : d.cst.read = some ⟨b, none⟩) :
    d.storeReadDone .stored = d.firstRead b (d.slotCopy b (2 * b + 0)) ∧ d.storeReadDone .failed = d.firstRead b .bad := by
  constructor <;> (rw [Dev.storeReadDone, reading]; rfl)

theorem Dev.storeReadDone_second {x : CopyRead} (reading : d.cst.read = some ⟨b, some x⟩) :
    d.storeReadDone .stored = d.bothRead b x (d.slotCopy b (2 * b + 1)) ∧ d.storeReadDone .failed = d.bothRead b x .bad := by
  constructor <;> (rw [Dev.storeReadDone, reading]; rfl)

end Reads

/-- R194: START_UP has its effect in its phase alone (log entry 13). -/
theorem Dev.startUp_elsewhere {d : Dev} (phase : d.phase ≠ .loaded) : d.startUp = d := if_pos phase

/-! ### The choice between two copies (R188, R193) -/

theorem newerGen_iff {g g' : Nat} (hg : g < 65536) (hg' : g' < 65536) :
    newerGen g g' = true ↔ ∃ k, 1 ≤ k ∧ k ≤ 32767 ∧ g = (g' + k) % 65536 := by
  simp only [newerGen, Bool.and_eq_true, decide_eq_true_eq]
  constructor
  · intro h
    exact ⟨(g + 65536 - g') % 65536, h.1, h.2, by omega⟩
  · rintro ⟨k, low, high, rfl⟩
    omega

/-- R188: of two copies at most one is newer than the other. -/
theorem newerGen_asymm {g g' : Nat} (h : newerGen g g' = true) : newerGen g' g = false := by
  simp only [newerGen, Bool.and_eq_true, decide_eq_true_eq, Bool.and_eq_false_iff, decide_eq_false_iff_not] at h ⊢
  omega

theorem settleCopies_newer {n g g' : Nat} {b b' : List Byte} (newer : newerGen g g' = true) :
    settleCopies n (.valid g b) (.valid g' b') = .taken ⟨0, g⟩ b ∧ settleCopies n (.valid g' b') (.valid g b) = .taken ⟨1, g⟩ b := by
  simp [settleCopies, newer, newerGen_asymm newer]

theorem settleCopies_only {n g : Nat} {b : List Byte} {x : CopyRead} (other : x = .erased ∨ x = .bad) :
    settleCopies n (.valid g b) x = .taken ⟨0, g⟩ b ∧ settleCopies n x (.valid g b) = .taken ⟨1, g⟩ b := by
  rcases other with rfl | rfl <;> exact ⟨rfl, rfl⟩

/-! ### The obligation -/

/-- Settles O52: the write's end by its outcome and its retry, the pass by what its search finds (`Store.passNext_spec`), power-on field
by field, the reads by the copy that was read, START_UP by its phase, and two copies by which is newer. -/
theorem storeIsWrittenAndRead : Obligations.StoreIsWrittenAndRead := by
  refine ⟨fun s w inFlight => ⟨?_, fun due => ?_, fun spent => ?_⟩, fun m p b clear next => ?_, fun s i => ?_, fun s b =>
    ⟨fun reading => ?_, fun x reading r hr => ?_⟩, fun s => ⟨fun _ => exec_startUp s, fun phase => ?_⟩, fun n g g' b b' x hg hg' => ?_⟩
  · rw [exec_storeWriteCompletion, State.does, Dev.storeCompleted_ok (d := s.dev.begin) inFlight]
    rfl
  · rw [exec_storeWriteCompletion, State.does, Dev.storeCompleted_failed (d := s.dev.begin) inFlight, Dev.storeFailed_retry _ due]
    rfl
  · rw [exec_storeWriteCompletion, State.does, Dev.storeCompleted_failed (d := s.dev.begin) inFlight, Dev.storeFailed_again _ spent]
    rfl
  · obtain ⟨due, lowest⟩ := Store.passNext_spec clear next
    obtain ⟨dirty, kept⟩ := (m.due_iff p b).mp due
    exact ⟨dirty, kept, fun k hk marked left => lowest k hk ((m.due_iff p k).mpr ⟨marked, left⟩)⟩
  · refine ⟨exec_powerOn i s, rfl, rfl, rfl, rfl, rfl, rfl, rfl, rfl, rfl, rfl, rfl, rfl, rfl, fun idle => ?_⟩
    have kept : s.dev.cst.afterPowerLoss = s.dev.cst.slots := by simp [Store.afterPowerLoss, idle]
    exact kept
  · obtain ⟨stored, failed⟩ := Dev.storeReadDone_first (d := s.dev.begin) reading
    rw [exec_storeReadCompletion, exec_storeReadCompletion, State.does, State.does, stored, failed]
    exact ⟨rfl, rfl⟩
  · obtain ⟨stored, failed⟩ := Dev.storeReadDone_second (d := s.dev.begin) reading
    have read : s.dev.begin.storeReadDone r.1 = s.dev.begin.bothRead b x r.2 := by
      rcases List.mem_pair.mp hr with rfl | rfl
      · exact stored
      · exact failed
    rw [exec_storeReadCompletion, State.does, read]
    exact ⟨fun more => by rw [Dev.bothRead, if_pos more], fun last => by rw [Dev.bothRead, if_neg (Nat.not_lt.mpr last)]⟩
  · rw [exec_startUp, State.does, Dev.startUp_elsewhere (d := s.dev.begin) phase]
  · exact ⟨fun newer => settleCopies_newer ((newerGen_iff hg hg').mpr newer), settleCopies_only, rfl, rfl, rfl, rfl⟩

end Sys2Proof.Machine
end

section
/-! RESET (R195): the requests, the wait list and the sessions end with no command sent, and what the device then is. -/

namespace Sys2Proof.Machine

/-! ### What the end of the requests and the sessions leaves -/

/-- Nothing is sent on the drive links and nothing outstanding there is taken: each drive context, cleared for a start-up, is the same
(R69, R90); the lines and the store's slots are left as they were. -/
structure Dev.SendsNothing (d e : Dev) : Prop where
  drive : ∀ c, (e.drive c).cleared = (d.drive c).cleared
  lines : e.lines = d.lines
  slots : e.cst.slots = d.cst.slots

namespace Dev.SendsNothing

variable {d e g : Dev} {c k : Chan} {p : Port} {r : ReqId} {n : Nat} {st : Status} {bs : List Byte} {t : Todo} {ts : List Todo}
  {why : Reason} {stat : Option Status} {s : Session}

theorem refl (d : Dev) : d.SendsNothing d := ⟨fun _ => rfl, rfl, rfl⟩

theorem of_ch (h : d.SendsNothing e) (ch : g.ch = e.ch) (lines : g.lines = e.lines) (slots : g.cst.slots = e.cst.slots) :
    d.SendsNothing g :=
  ⟨fun c => by rw [Dev.drive_of_ch ch, h.drive c], lines.trans h.lines, slots.trans h.slots⟩

theorem of_tables (h : d.SendsNothing e) (same : e.TablesOnly g) : d.SendsNothing g := h.of_ch same.ch same.lines same.slots

theorem ite {q : Prop} [Decidable q] (h : d.SendsNothing e) (h' : d.SendsNothing g) : d.SendsNothing (if q then e else g) := by
  split <;> assumption

theorem foldl {α : Type} {step : Dev → α → Dev} (h : d.SendsNothing e) (l : List α)
    (each : ∀ {g : Dev} (a : α), d.SendsNothing g → d.SendsNothing (step g a)) : d.SendsNothing (l.foldl step e) :=
  foldl_keeps (P := d.SendsNothing) (fun _ a hg => each a hg) l h

/-! #### Updates of the device's parts -/

theorem modChan {f : Channel → Channel} (h : d.SendsNothing e) (same : ∀ x, (f x).drive = x.drive := by intro; rfl) :
    d.SendsNothing (e.modChan k f) :=
  ⟨fun c => by rw [Dev.drive_modChan e k c f same, h.drive c], h.lines, h.slots⟩

theorem modSess {f : Session → Session} (h : d.SendsNothing e) : d.SendsNothing (e.modSess k f) := h.modChan

theorem modDrive {f : Drive → Drive} (h : d.SendsNothing e) (same : ∀ x, (f x).cleared = x.cleared) :
    d.SendsNothing (e.modDrive k f) := by
  refine ⟨fun c => (?_ : _ = _).trans (h.drive c), h.lines, h.slots⟩
  cases k <;> cases c
  case ch0.ch0 | ch1.ch1 => exact same _
  all_goals rfl

theorem modBackup {f : Backup → Backup} (h : d.SendsNothing e) : d.SendsNothing (e.modBackup k f) := h.modSess
theorem modRebuild {f : Rebuild → Rebuild} (h : d.SendsNothing e) : d.SendsNothing (e.modRebuild k f) := h.modSess
theorem modCat {f : Catalogue → Catalogue} (h : d.SendsNothing e) : d.SendsNothing (e.modCat f) := h.of_ch rfl rfl rfl
theorem setRaces (h : d.SendsNothing e) : d.SendsNothing { e with races := n } := h.of_ch rfl rfl rfl
theorem setWaitList {l : List WaitEntry} (h : d.SendsNothing e) : d.SendsNothing { e with waitList := l } := h.of_ch rfl rfl rfl
theorem putSet {i : SetIx} {x : SetEntry} (h : d.SendsNothing e) : d.SendsNothing (e.putSet i x) := h.of_tables (.putSet ..)
theorem freeSet {i : Option SetIx} (h : d.SendsNothing e) : d.SendsNothing (e.freeSet i) := h.of_tables (.freeSet ..)
theorem joinCart {i : CartIx} {b : Bool} (h : d.SendsNothing e) : d.SendsNothing (e.joinCart i b) := h.of_tables (.joinCart ..)
theorem push (h : d.SendsNothing e) : d.SendsNothing (e.push t) := h.of_tables (.push e t)
theorem pushAll (h : d.SendsNothing e) : d.SendsNothing (e.pushAll ts) := h.of_ch (by simp) (by simp) (by simp)
theorem look (h : d.SendsNothing e) : d.SendsNothing e.look := h.pushAll
theorem modMqu {f : Mover → Mover} (h : d.SendsNothing e) : d.SendsNothing (e.modMqu f) := h.of_ch rfl rfl rfl
theorem modPort {f : PortUnit → PortUnit} (h : d.SendsNothing e) : d.SendsNothing (e.modPort p f) :=
  h.of_ch (by simp) (by simp) (by simp)
theorem shuffled {α : Type} {l : List α} (h : d.SendsNothing e) : d.SendsNothing (e.shuffled l).2 := h.ite h.setRaces

theorem takePage (h : d.SendsNothing e) (taken : e.takePage k = some g) : d.SendsNothing g := by
  obtain ⟨-, rfl⟩ := (Dev.takePage_eq_some e g k).mp taken
  exact h.of_ch rfl rfl rfl

theorem freePages (h : d.SendsNothing e) : d.SendsNothing (e.freePages k n) := h.of_ch (by simp) (by simp) (by simp)

theorem answerWith (h : d.SendsNothing e) : d.SendsNothing (e.answerWith r st n bs) := h.of_ch (by simp) (by simp) (by simp)
theorem answerOpt {q : Option ReqId} (h : d.SendsNothing e) : d.SendsNothing (e.answerOpt q st) :=
  h.of_ch (by simp) (by simp) (by simp)
theorem noticeOwner {m : Notice} (h : d.SendsNothing e) : d.SendsNothing (e.noticeOwner p m) :=
  h.of_ch (by simp) (by simp) (by simp)

/-! #### The end of a session (R78, R79, R67) -/

theorem sessionEnded {q : EndCounts} (h : d.SendsNothing e) : d.SendsNothing (e.sessionEnded s why stat q) := h.noticeOwner
theorem freeChannelMemory (h : d.SendsNothing e) : d.SendsNothing (e.freeChannelMemory k) := h.modChan.freePages

/-- A command in flight keeps its number when its session ends. -/
theorem cleared_unclaimed (n : Nat) (x : Drive) : (x.unclaimed n).cleared = x.cleared := by
  cases out : x.out with
  | none => simp [Drive.cleared, Drive.unclaimed, out]
  | some o => by_cases owned : o.owner = some n <;> simp [Drive.cleared, Drive.unclaimed, out, owned]

theorem released (h : d.SendsNothing e) : d.SendsNothing (e.released k s) :=
  ((h.freeChannelMemory.of_tables (Dev.cartUnclaimed_frame ..)).modChan).modDrive (cleared_unclaimed s.handle)

theorem forgetRequester (h : d.SendsNothing e) : d.SendsNothing (e.forgetRequester n) := by
  rw [Dev.forgetRequester_eq]
  have forgets (x : Drive) : (x.forget n).cleared = x.cleared := rfl
  exact ((h.modMqu.modDrive forgets).modDrive forgets).push.push

theorem startIdle (h : d.SendsNothing e) : d.SendsNothing (e.startIdle k) := by
  obtain ⟨t, eq, -⟩ := e.startIdle_eq k
  rw [eq]
  exact h.modDrive fun _ => rfl

theorem endSession (h : d.SendsNothing e) : d.SendsNothing (e.endSession k) := by
  cases sess : e.sess k with
  | none => rw [Dev.endSession, sess]; exact h
  | some s =>
    rw [Dev.endSession_eq sess]
    exact (h.released.of_tables (Dev.cartLeft_frame ..)).modSess.forgetRequester.startIdle.pushAll.look

theorem refuseOpen (h : d.SendsNothing e) : d.SendsNothing (e.refuseOpen k st) := by
  unfold Dev.refuseOpen
  split
  · refine modSess ?_
    split
    · exact h.answerWith
    · exact h
  · exact h

theorem endRun (h : d.SendsNothing e) : d.SendsNothing (e.endRun k) := by
  refine freePages (modChan ?_)
  split
  · exact h.modChan.push
  · exact h

/-! #### The aborts (R136, R152, R163, R169) -/

theorem finishAbort (h : d.SendsNothing e) : d.SendsNothing (e.finishAbort k why stat) := by
  cases backup : e.backup? k with
  | none => rw [Dev.finishAbort, backup]; exact h
  | some x =>
    rw [Dev.finishAbort_eq why stat backup]
    exact (h.of_tables (e.setAborted_frame x.1)).refuseOpen.endSession.sessionEnded.answerOpt

theorem decideTrailer (h : d.SendsNothing e) : d.SendsNothing (e.decideTrailer k why stat) := by
  unfold Dev.decideTrailer
  split
  · refine ite ?_ h.finishAbort
    split
    · next taken => exact (h.takePage taken).modChan.push
    · exact h.modChan
  · exact h

theorem turnAborting {b : Backup} (h : d.SendsNothing e) : d.SendsNothing (e.turnAborting k b why stat) :=
  h.answerOpt.modSess.freeChannelMemory.modBackup

theorem backupAbort (h : d.SendsNothing e) : d.SendsNothing (e.backupAbort k why stat) := by
  cases backup : e.backup? k with
  | none => rw [Dev.backupAbort, backup]; exact h
  | some x =>
    rw [Dev.backupAbort_eq backup]
    exact h.ite ((h.turnAborting.finishAbort.ite (h.turnAborting.ite h.turnAborting.decideTrailer)).ite h.answerOpt.modSess.finishAbort)

theorem writeResult {i : SetIx} {q : VerifyResult} {b : Bool} (h : d.SendsNothing e) : d.SendsNothing (e.writeResult i q b) := by
  unfold Dev.writeResult
  dsimp only
  split
  · exact (h.of_tables (.modSet ..)).noticeOwner.ite (h.of_tables (.modSet ..))
  · exact h.of_tables (.modSet ..)

theorem verifyReleased {b : Bool} (h : d.SendsNothing e) : d.SendsNothing (e.verifyReleased s b why) := by
  unfold Dev.verifyReleased
  split
  · exact (h.writeResult.ite h).freeSet
  · exact h

theorem verifyAbort (h : d.SendsNothing e) : d.SendsNothing (e.verifyAbort k why) := by
  cases verify : e.verify? k with
  | none => rw [Dev.verifyAbort, verify]; exact h
  | some x =>
    rw [Dev.verifyAbort_eq why verify]
    exact (h.ite h.refuseOpen).verifyReleased.endSession.sessionEnded.answerOpt

theorem restoreAbort (h : d.SendsNothing e) : d.SendsNothing (e.restoreAbort k why) := by
  unfold Dev.restoreAbort
  split
  · exact (h.ite h.refuseOpen).freeSet.endSession.sessionEnded.answerOpt
  · exact h

/-! #### The groups of a rebuild (R167) and its end (R169) -/

theorem allocNumber (h : d.SendsNothing e) : d.SendsNothing e.allocNumber.2 :=
  h.modCat.of_tables (.dirty ..)

theorem joinGroup {i : CartIx} {j : SetIx} {q : Group} (h : d.SendsNothing e) : d.SendsNothing (e.joinGroup k i j q) := by
  unfold Dev.joinGroup
  split
  · exact (h.setRaces.ite h).putSet.modRebuild.joinCart
  · exact h

theorem placeGroup {q : Group} (h : d.SendsNothing e) : d.SendsNothing (e.placeGroup k q).1 := by
  have numbered {l : Prop} [Decidable l] (n : Nat) : d.SendsNothing (if l then e.allocNumber else (n, e)).2 := by
    split
    · exact h.allocNumber
    · exact h
  unfold Dev.placeGroup
  split
  · exact h
  split
  · exact h
  split
  · split
    · exact h.modRebuild
    · exact h.joinGroup
  split
  · exact h.modRebuild
  split
  · exact (h.of_tables (.setInUse ..)).joinGroup.modRebuild
  split
  · exact h
  · exact (numbered _).putSet.joinGroup.modRebuild

theorem closeGroup {q : GroupEnd} {t : Option CloseTrailer} (h : d.SendsNothing e) : d.SendsNothing (e.closeGroup k q t).1 := by
  unfold Dev.closeGroup
  split
  · split
    · exact h.modRebuild.placeGroup
    · exact h
  · exact h

theorem rebuildOver (h : d.SendsNothing e) : d.SendsNothing (e.rebuildOver k why) := by
  unfold Dev.rebuildOver
  split
  · exact (h.endRun.of_tables (Dev.freeHandle_frame ..)).endSession.sessionEnded.answerOpt
  · exact h

theorem rebuildIncomplete (h : d.SendsNothing e) : d.SendsNothing (e.rebuildIncomplete k why) := by
  have closed : d.SendsNothing (e.closeGroup k .none none).1 := h.closeGroup
  unfold Dev.rebuildIncomplete
  dsimp only
  split
  · refine rebuildOver ?_
    split
    · exact ((closed.of_tables (.modCart ..)).push.ite closed).of_tables ((Dev.TablesOnly.modCart ..).trans (.reselect _))
    · exact closed
  · exact closed

theorem rebuildAbort (h : d.SendsNothing e) : d.SendsNothing (e.rebuildAbort k why) := by
  unfold Dev.rebuildAbort
  split
  · exact h.rebuildIncomplete.ite h.refuseOpen.rebuildOver
  · exact h

theorem abortSession (h : d.SendsNothing e) : d.SendsNothing (e.abortSession k why) := by
  unfold Dev.abortSession
  split
  · split
    · exact h.backupAbort
    · exact h.verifyAbort
    · exact h.restoreAbort
    · exact h.rebuildAbort
  · exact h

/-! #### The requests, the wait list and the staged map (R14, R80, R173) -/

theorem abortRequests (h : d.SendsNothing e) : d.SendsNothing (e.abortRequests r p) := h.foldl _ fun _ hg => hg.answerWith

theorem dropAnswer (h : d.SendsNothing e) : d.SendsNothing (e.dropAnswer r) := h.modPort

theorem unlist {w : WaitEntry} (h : d.SendsNothing e) : d.SendsNothing (e.unlist w) :=
  h.setWaitList.freeSet

theorem leaveList {w : WaitEntry} (h : d.SendsNothing e) : d.SendsNothing (e.leaveList w none) := h.unlist.dropAnswer

theorem poolsTest (h : d.SendsNothing e) : d.SendsNothing e.poolsTest := by
  refine ite ?_ h
  cases staged : e.cat.staged with
  | none => rw [Dev.applyPools_unstaged staged]; exact h
  | some m =>
    have live : d.SendsNothing (e.mapLive m) := h.modCat.of_tables (.dirty ..)
    have pools := live.of_tables (.foldl (Dev.TablesOnly.poolAgain m) allCarts _)
    rw [Dev.applyPools_eq staged]
    exact (pools.of_ch (by simp) (by simp) (by simp)).push

end Dev.SendsNothing

/-! ### RESET (R195) -/

/-- R195: the requests answered, the wait list emptied, the sessions ended, and the staged map applied. -/
def Dev.allEnded (d : Dev) (r : ReqId) : Dev :=
  let d := (((d.abortRequests r .A).abortRequests r .B).abortRequests r .P).dropAnswer r
  let d := d.waitList.foldl (fun d e => d.leaveList e none) d
  let held := d.shuffled ([Chan.ch0, .ch1].filter fun c => (d.sess c).isSome)
  (held.1.foldl (fun d c => d.abortSession c .reset) held.2).poolsTest

/-- R195: the device as the flush pass begins, with nothing of it under way but the commands still to complete. -/
def Dev.stopped (d : Dev) (r : ReqId) : Dev :=
  { d with
    phase := .resetting, resetReq := some r, waitList := []
    ch := ⟨{ drive := d.ch.zero.drive.cleared }, { drive := d.ch.one.drive.cleared }⟩
    mqu := d.mqu.cleared
    cst := { d.cst with pass := some {}, clear := none, write := d.cst.write.map fun w => { w with clear := none } }
    lines := d.lines.map fun x => { x with timer := none }
    pa := { d.pa with hold := none }, pb := { d.pb with hold := none }, pp := { d.pp with hold := none }
    todo := d.todo.filter fun t => match t with | .transmit _ => true | _ => false }

theorem Dev.resetTaken_eq (d : Dev) (r : ReqId) : d.resetTaken r = ((d.allEnded r).stopped r).push .flush := rfl

theorem Dev.allEnded_sendsNothing (d : Dev) (r : ReqId) : d.SendsNothing (d.allEnded r) := by
  have answered : d.SendsNothing ((((d.abortRequests r .A).abortRequests r .B).abortRequests r .P).dropAnswer r) :=
    (Dev.SendsNothing.refl d).abortRequests.abortRequests.abortRequests.dropAnswer
  exact ((answered.foldl _ fun _ hg => hg.leaveList).shuffled.foldl _ fun _ hg => hg.abortSession).poolsTest

/-- R69, R195: the drive contexts of a device stopped by RESET are those it had, cleared. -/
theorem Dev.drive_resetTaken (d : Dev) (r : ReqId) (c : Chan) : (d.resetTaken r).drive c = (d.drive c).cleared := by
  rw [Dev.resetTaken_eq, Dev.drive_push, ← (d.allEnded_sendsNothing r).drive c]
  cases c <;> rfl

/-- R69, R90: a command still to complete stands when its context is cleared, and its timer with it. -/
theorem Drive.cleared_out {x : Drive} {o : Outstanding} (out : x.out = some o) :
    x.cleared.stale = some o.num ∧ x.cleared.cmdTimer = x.cmdTimer := by simp [Drive.cleared, out]

theorem Drive.cleared_idle {x : Drive} (out : x.out = none) (stale : x.stale = none) :
    x.cleared.stale = none ∧ x.cleared.cmdTimer = none := by simp [Drive.cleared, out, stale]

/-- R171: no port hears a frame outside normal running. -/
theorem Dev.unheard_of_phase {d : Dev} (phase : d.phase ≠ .running) (p : Port) : d.hears p = false := by simp [Dev.hears, phase]

/-- Settles O54: what ends before sends nothing (`Dev.allEnded_sendsNothing`), and the device is then stopped part by part
(`Dev.stopped`). -/
theorem resetEndsTheSessionsAndFlushes : Obligations.ResetEndsTheSessionsAndFlushes := by
  refine ⟨fun s f takes panel payload => ?_, fun d r => ?_⟩
  · rw [exec_reset, State.does_panel .reset (fun r _ d => d.resetTaken r) takes panel (by rw [payload]; rfl)]
  · have ended := d.allEnded_sendsNothing r
    have phase : (d.resetTaken r).phase = .resetting := by simp [Dev.resetTaken_eq, Dev.stopped]
    have cfg : (d.resetTaken r).cfg = d.cfg := (Dev.Steady.refl d).resetTaken.cfg
    have drive := d.drive_resetTaken r
    have chan (c : Chan) : (d.resetTaken r).sess c = none ∧ ((d.resetTaken r).chan c).wq = [] ∧ ((d.resetTaken r).chan c).rq = [] := by
      rw [Dev.resetTaken_eq]
      cases c <;> simp [Dev.stopped, Dev.sess, Dev.chan, Pair.get]
    have hold (p : Port) : ((d.resetTaken r).port p).hold = none := by
      rw [Dev.resetTaken_eq, Dev.port_push]
      cases p <;> rfl
    have mover : (d.resetTaken r).mqu = (d.allEnded r).mqu.cleared := by simp [Dev.resetTaken_eq, Dev.stopped]
    refine ⟨phase, ?_, ?_, chan, fun p => ⟨Dev.unheard_of_phase (by rw [phase]; decide) p, hold p⟩, ?_, Dev.mem_push .., by rw [mover]; rfl,
      by rw [mover]; rfl, fun c => ?_, fun c o out => ?_, fun c out stale => ?_, ?_, ?_, cfg⟩
    · simp [Dev.resetTaken_eq, Dev.stopped]
    · simp [Dev.resetTaken_eq, Dev.stopped]
    · simp [Dev.resetTaken_eq, Dev.stopped]
    · rw [drive, mover]
      exact ⟨rfl, rfl, rfl, by cases c <;> rfl⟩
    · rw [drive]
      exact Drive.cleared_out out
    · rw [drive]
      exact Drive.cleared_idle out stale
    · simp [Dev.resetTaken_eq, Dev.stopped, ended.lines]
    · simp [Dev.resetTaken_eq, Dev.stopped, ended.slots]

end Sys2Proof.Machine
end

section
/-! A step and the command at the front of the queue. -/

namespace Sys2Proof.Machine

/-- Settles O1, by what the step finds on a queue that is not empty. -/
theorem stepRunsTheFrontCommand : Obligations.StepRunsTheFrontCommand := fun s c rest queue => by rw [step, queue]

end Sys2Proof.Machine
end

section
/-! The fields of chapter 12 read back (R196): what a parser takes of bytes that begin with the field it reads, and the fields at fixed
offsets. -/

namespace Sys2Proof.Machine

/-! ### Bytes and bits -/

/-- R42: a CRC-32 is written as a number of four bytes is. -/
theorem crc32Bytes_eq (r : BitVec 32) : crc32Bytes r = leBytes 4 r.toNat := by
  have digit (n : Nat) : (r >>> n).setWidth 8 = byte (r.toNat / 2 ^ n) := by
    apply BitVec.eq_of_toNat_eq
    rw [BitVec.toNat_setWidth, BitVec.toNat_ushiftRight, Nat.shiftRight_eq_div_pow, toNat_byte]
  have first : r.setWidth 8 = byte r.toNat := digit 0 ▸ by simp
  simp [crc32Bytes, first, digit, leBytes, Nat.div_div_eq_div_mul]

theorem boolByte_eq (b : Bool) : boolByte b = leBytes 1 b.toNat := by cases b <;> rfl

theorem toNat_decide_eq_one (b : Bool) : decide (b.toNat = 1) = b := by cases b <;> rfl

theorem bitsNat_lt (bs : List Bool) : bitsNat bs < 2 ^ bs.length := by
  induction bs with
  | nil => simp [bitsNat]
  | cons b bs ih =>
    rw [bitsNat, List.length_cons, pow_succ]
    split <;> omega

theorem natBits_bitsNat (bs : List Bool) : natBits bs.length (bitsNat bs) = bs := by
  induction bs with
  | nil => rfl
  | cons b bs ih =>
    have low : decide (bitsNat (b :: bs) % 2 = 1) = b := by cases b <;> simp [bitsNat]
    have high : bitsNat (b :: bs) / 2 = bitsNat bs := by rw [bitsNat]; split <;> omega
    rw [List.length_cons, natBits, low, high, ih]

/-! ### Optional fields (R196) -/

theorem optBytes_none (width : Nat) : optBytes width none = leBytes 1 0 ++ List.replicate width 0 := rfl
theorem optBytes_some (width : Nat) (bs : List Byte) : optBytes width (some bs) = leBytes 1 1 ++ bs := rfl

/-! ### Lengths -/

theorem padTo_length {n : Nat} {bs : List Byte} (fits : bs.length ≤ n) : (padTo n bs).length = n := by
  simp [padTo, fits]

theorem optBytes_length {α : Type} {width : Nat} {o : Option α} {w : α → List Byte} (length : ∀ x, o = some x → (w x).length = width) :
    (optBytes width (o.map w)).length = width + 1 := by
  cases o with
  | none => simp [optBytes]
  | some x => simp [optBytes, length x rfl]

theorem flatMap_length {α : Type} {k : Nat} {xs : List α} {w : α → List Byte} (length : ∀ x ∈ xs, (w x).length = k) :
    (xs.flatMap w).length = xs.length * k := by
  rw [List.length_flatMap, List.sum_eq_card_nsmul _ k (by simpa using length), List.length_map, smul_eq_mul]

/-! ### Fields at fixed offsets -/

/-- R199: the condition byte of an entry, and what follows it. -/
theorem condition_padTo (n : Nat) (b : Byte) (bs : List Byte) : fieldAt (padTo n (b :: bs)) 0 1 = b.toNat ∧
    (padTo n (b :: bs)).drop 1 = bs ++ List.replicate (n - (b :: bs).length) 0 := ⟨rfl, rfl⟩

theorem fieldAt_zero {k n : Nat} (small : n < 256 ^ k) (rest : List Byte) : fieldAt (leBytes k n ++ rest) 0 k = n := by
  rw [fieldAt, List.drop_zero, List.take_left' (leBytes_length k n), leNat_leBytes, Nat.mod_eq_of_lt small]

section Skipped
variable {j off : Nat} (skip : j ≤ off)
include skip

theorem drop_skip (n : Nat) (rest : List Byte) : (leBytes j n ++ rest).drop off = rest.drop (off - j) := by
  rw [List.drop_append, List.drop_eq_nil_of_le (by rwa [leBytes_length]), leBytes_length, List.nil_append]

theorem fieldAt_skip (n : Nat) (rest : List Byte) (k : Nat) : fieldAt (leBytes j n ++ rest) off k = fieldAt rest (off - j) k := by
  rw [fieldAt, drop_skip skip, fieldAt]

theorem fieldAt_pad (b : Byte) (rest : List Byte) (k : Nat) :
    fieldAt (List.replicate j b ++ rest) off k = fieldAt rest (off - j) k := by
  rw [fieldAt, List.drop_append, List.drop_eq_nil_of_le (by rwa [List.length_replicate]), List.length_replicate, List.nil_append, fieldAt]

end Skipped

/-! ### Fields in turn -/

/-- A parser takes a value from the bytes it is written in, and leaves what follows them. -/
abbrev Takes {α : Type} (f : List Byte → Option (α × List Byte)) (bs : List Byte) (x : α) : Prop :=
  ∀ rest : List Byte, f (bs ++ rest) = some (x, rest)

/-- A parser that has read a field goes on with that field's value and what follows it. -/
theorem field_next {α β : Type} {o : Option α} {a : α} {g : α → Option β} {y : Option β} (read : o = some a) (on : g a = y) :
    (o >>= g) = y := by
  rw [read]
  exact on

theorem Takes.next {α β : Type} {f : List Byte → Option (α × List Byte)} {bs rest : List Byte} {x : α} {g : α × List Byte → Option β}
    {y : Option β} (taken : Takes f bs x) (on : g (x, rest) = y) : (f (bs ++ rest) >>= g) = y := field_next (taken rest) on

section Numbers
variable {k n v lo hi : Nat}

theorem takes_bytes {bs : List Byte} (length : bs.length = k) : Takes (takeBytes k) bs bs := fun rest => by
  rw [takeBytes, if_neg (by simp [length]), List.take_left' length, List.drop_left' length]

theorem takes_num (small : v < 256 ^ k) : Takes (takeNum k) (leBytes k v) v := fun rest => by
  have length := leBytes_length k v
  rw [takeNum, if_neg (by simp [length]), List.take_left' length, List.drop_left' length, leNat_leBytes, Nat.mod_eq_of_lt small]

theorem takes_below (below : v < n) (small : n ≤ 256 ^ k) : Takes (takeBelow k n) (leBytes k v) v := fun rest => by
  rw [takeBelow, takes_num (by omega)]
  exact if_pos below

theorem takes_in (least : lo ≤ v) (most : v ≤ hi) (small : hi < 256 ^ k) : Takes (takeIn k lo hi) (leBytes k v) v := fun rest => by
  rw [takeIn, takes_num (by omega)]
  exact if_pos ⟨least, most⟩

theorem takes_bool (b : Bool) : Takes (takeBelow 1 2) (boolByte b) b.toNat := by
  rw [boolByte_eq]
  exact takes_below (Bool.toNat_lt b) (by decide)

theorem takes_crc32 (r : BitVec 32) : Takes takeCrc32 (crc32Bytes r) r := fun rest => by
  rw [crc32Bytes_eq, takeCrc32, takes_num r.isLt]
  simp

/-- R199: a notice mask is read back. -/
theorem takes_mask {bs : List Bool} (twelve : bs.length = 12) : Takes takeMask (leBytes 2 (bitsNat bs)) bs := fun rest => by
  have small := bitsNat_lt bs
  have bits := natBits_bitsNat bs
  rw [twelve] at small bits
  simp only [takeMask, takes_below (k := 2) (n := 4096) small (by decide) rest, Option.map_some, bits]

end Numbers

section Combined
variable {α : Type} {f : List Byte → Option (α × List Byte)} {w : α → List Byte}

/-- R196: an optional field is read back. -/
theorem takes_opt {width : Nat} {o : Option α} (taken : ∀ x, o = some x → Takes f (w x) x) :
    Takes (takeOpt width f) (optBytes width (o.map w)) o := fun rest => by
  cases o with
  | none =>
    rw [Option.map_none, optBytes_none, List.append_assoc, takeOpt, takes_below Nat.two_pos (by decide)]
    simp only [zero_ne_one, if_false, takes_bytes (List.length_replicate ..) rest, Option.map_some]
  | some x =>
    rw [Option.map_some, optBytes_some, List.append_assoc, takeOpt, takes_below Nat.one_lt_two (by decide)]
    simp only [if_true, taken x rfl rest, Option.map_some]

theorem takes_many {n : Nat} {xs : List α} (length : xs.length = n) (taken : ∀ x ∈ xs, Takes f (w x) x) :
    Takes (takeMany f n) (xs.flatMap w) xs := by
  subst length
  induction xs with
  | nil => exact fun rest => rfl
  | cons x xs ih =>
    intro rest
    rw [List.flatMap_cons, List.append_assoc, List.length_cons, takeMany, taken x List.mem_cons_self]
    simp only [ih (fun y hy => taken y (List.mem_cons_of_mem x hy)), Option.map_some]

end Combined

end Sys2Proof.Machine
end

section
/-! Records, trailers and index entries read back (R198). -/

namespace Sys2Proof.Machine

/-! ### Records -/

@[simp] theorem RecKind.ofCode_code (k : RecKind) : RecKind.ofCode k.code = some k := by cases k <;> rfl
theorem RecKind.code_lt (k : RecKind) : k.code < 256 := by cases k <;> decide

section Records
variable (r : Record)

theorem headerBody_length : (headerBody r).length = 30 := by simp [headerBody, crc32Bytes_eq, boolByte_eq, leBytes_length]

theorem headerBody_append (rest : List Byte) : headerBody r ++ rest = leBytes 1 r.kind.code ++ (leBytes 1 r.shrunk.toNat ++
    (leBytes 1 r.ordinal ++ (List.replicate 1 0 ++ (leBytes 4 r.rawLength ++ (leBytes 4 r.payload.length ++ (leBytes 4 r.rawCrc.toNat ++
      (leBytes 2 r.tape ++ (leBytes 4 r.seq ++ (List.replicate 8 0 ++ rest))))))))) := by
  simp only [headerBody, crc32Bytes_eq, boolByte_eq, List.append_assoc, List.replicate_one]

theorem recordBytes_append : recordBytes r = headerBody r ++ (crc16Bytes (crc16 (headerBody r)) ++ r.payload) := by
  rw [recordBytes, List.append_assoc]

theorem recordBytes_length : (recordBytes r).length = r.stored := by
  simp [recordBytes_append, headerBody_length, crc16Bytes, Record.stored]
  omega

theorem readPayload_recordBytes : readPayload (recordBytes r) = r.payload :=
  List.drop_left' (by simp [headerBody_length, crc16Bytes])

/-- R32, R198: the header check of a record as it is written is correct. -/
theorem readHeader_check : (readHeader (recordBytes r)).check = true := by
  have header : (recordBytes r).take 30 = headerBody r := by
    rw [recordBytes_append, List.take_left' (headerBody_length r)]
  have check : ((recordBytes r).drop 30).take 2 = crc16Bytes (crc16 (headerBody r)) := by
    rw [recordBytes_append, List.drop_left' (headerBody_length r)]
    rfl
  have length : 32 ≤ (recordBytes r).length := by
    rw [recordBytes_length, Record.stored]
    omega
  simp [readHeader, header, check, length]

/-- R198: a record's header is read back. -/
theorem readHeader_recordBytes (payload : r.payload.length < 4294967296) (raw : r.rawLength < 4294967296) (tape : r.tape < 65536)
    (seq : r.seq < 4294967296) (ordinal : r.ordinal < 256) : readHeader (recordBytes r) =
      { kind := some r.kind, coding := if r.shrunk then 1 else 0, ordinal := r.ordinal, rawLength := r.rawLength
        payloadLength := r.payload.length, rawCrc := r.rawCrc, tape := r.tape, seq := r.seq, check := true } := by
  have check := readHeader_check r
  have kind := r.kind.code_lt
  have crc := r.rawCrc.isLt
  have coding : r.shrunk.toNat < 256 := r.shrunk.toNat_lt.trans (by decide)
  simp only [readHeader] at check
  simp only [readHeader, check]
  rw [recordBytes_append, headerBody_append]
  simp (disch := omega) only [fieldAt_skip, fieldAt_pad, fieldAt_zero, Nat.reduceSub, RecKind.ofCode_code, BitVec.ofNat_toNat,
    BitVec.setWidth_eq]
  rw [Bool.toNat, Bool.cond_eq_ite]

end Records

/-! ### Trailers -/

theorem closeTrailerBytes_length (t : CloseTrailer) : (closeTrailerBytes t).length = 64 := by
  simp [closeTrailerBytes, crc32Bytes_eq, leBytes_length]

/-- R198: a CLOSE trailer is read back. -/
theorem readCloseTrailer_closeTrailerBytes {t : CloseTrailer} (dataCount : t.dataCount < 4294967296) (ordinal : t.ordinal < 256)
    (mark : t.digestMark < 256) (files : t.fileCount < 65536) (indexCount : t.indexCount < 4294967296)
    (indexPos : t.indexPos < 4294967296) (stored : t.stored < 18446744073709551616) (raw : t.raw < 18446744073709551616) :
    readCloseTrailer (closeTrailerBytes t) = t := by
  have digest := t.digest.isLt
  simp only [readCloseTrailer, closeTrailerBytes, crc32Bytes_eq, List.append_assoc]
  simp (disch := omega) only [fieldAt_skip, fieldAt_pad, fieldAt_zero, Nat.reduceSub, BitVec.ofNat_toNat, BitVec.setWidth_eq]

section Counts
variable {count first next ordinal : Nat}

theorem spanTrailerBytes_length (count first next ordinal : Nat) : (spanTrailerBytes count first next ordinal).length = 64 := by
  simp [spanTrailerBytes, leBytes_length]

/-- R198: the fields of a SPAN trailer. -/
theorem fieldAt_spanTrailerBytes (hcount : count < 4294967296) (hfirst : first < 4294967296) (hnext : next < 4294967296)
    (hordinal : ordinal < 256) :
    let t := spanTrailerBytes count first next ordinal
    fieldAt t 0 4 = count ∧ fieldAt t 4 4 = first ∧ fieldAt t 8 4 = next ∧ fieldAt t 12 1 = ordinal := by
  simp only [spanTrailerBytes, List.append_assoc]
  simp (disch := omega) only [fieldAt_skip, fieldAt_zero, Nat.reduceSub, and_self]

theorem abortTrailerBytes_length (next ordinal : Nat) : (abortTrailerBytes next ordinal).length = 64 := by
  simp [abortTrailerBytes, leBytes_length]

/-- R198: the fields of an ABORT trailer, and the bytes a SPAN trailer has between them. -/
theorem fieldAt_abortTrailerBytes (hnext : next < 4294967296) (hordinal : ordinal < 256) :
    let u := abortTrailerBytes next ordinal
    fieldAt u 0 4 = next ∧ fieldAt u 12 1 = ordinal ∧ (u.drop 4).take 8 = List.replicate 8 0 := by
  simp only [abortTrailerBytes, List.append_assoc]
  simp (disch := omega) only [fieldAt_skip, fieldAt_pad, fieldAt_zero, drop_skip, Nat.reduceSub, true_and]
  rfl

end Counts

/-! ### Index entries -/

theorem entryBytes_append (x : IndexEntry) (rest : List Byte) : entryBytes x ++ rest = leBytes 2 x.file ++ (leBytes 4 x.startSeq ++
    (leBytes 2 x.startOff ++ (leBytes 8 x.length ++ (leBytes 4 x.crc.toNat ++ (leBytes 1 x.tag.length ++ (x.tag ++ rest)))))) := by
  have tag : tagBytes x.tag = leBytes 1 x.tag.length ++ x.tag := rfl
  simp only [entryBytes, crc32Bytes_eq, tag, List.append_assoc]

/-- R198: a packed index entry is read back. -/
theorem takeEntry_entryBytes {x : IndexEntry} (least : 1 ≤ x.file) (most : x.file ≤ 2048) (seq : x.startSeq < 4294967296)
    (off : x.startOff < 65536) (length : x.length < 18446744073709551616) (tag : x.tag.length ≤ 64) (rest : List Byte) :
    takeEntry (entryBytes x ++ rest) = some (x, rest) := by
  have crc := x.crc.isLt
  have size : (entryBytes x ++ rest).length = 21 + x.tag.length + rest.length := by
    simp [entryBytes_append, leBytes_length]
    omega
  have after : (entryBytes x ++ rest).drop 21 = x.tag ++ rest := by
    rw [entryBytes_append]
    simp (disch := omega) only [drop_skip, Nat.reduceSub, List.drop_zero]
  have leaves : (entryBytes x ++ rest).drop (21 + x.tag.length) = rest := by
    rw [← List.drop_drop, after, List.drop_left]
  have fields : fieldAt (entryBytes x ++ rest) 0 2 = x.file ∧ fieldAt (entryBytes x ++ rest) 20 1 = x.tag.length := by
    rw [entryBytes_append]
    simp (disch := omega) only [fieldAt_skip, fieldAt_zero, Nat.reduceSub, and_self]
  have inRange : ¬(64 < x.tag.length ∨ (entryBytes x ++ rest).length < 21 + x.tag.length ∨ x.file = 0 ∨ 2048 < x.file) := by omega
  rw [takeEntry, if_neg (by omega)]
  simp only [fields, leaves, after, List.take_left, if_neg inRange]
  rw [entryBytes_append]
  simp (disch := omega) only [fieldAt_skip, fieldAt_zero, Nat.reduceSub, BitVec.ofNat_toNat, BitVec.setWidth_eq]

end Sys2Proof.Machine
end

section
/-! Store copies, and what their bodies hold, read back (R199). -/

namespace Sys2Proof.Machine

/-! ### Copies (R188, R193) -/

section Copies
variable {b gen : Nat} {body : List Byte}

/-- The bytes of a copy that its check covers. -/
def copyHead (b gen : Nat) (body : List Byte) : List Byte := leBytes 1 b ++ [0] ++ leBytes 2 gen ++ body

theorem copyBytes_eq : copyBytes b gen body = copyHead b gen body ++ crc16Bytes (crc16 (copyHead b gen body)) := rfl

theorem copyHead_append (rest : List Byte) : copyHead b gen body ++ rest =
    leBytes 1 b ++ (List.replicate 1 0 ++ (leBytes 2 gen ++ (body ++ rest))) := by
  simp only [copyHead, List.replicate_one, List.append_assoc]

theorem copyHead_length (size : body.length = 2048) : (copyHead b gen body).length = 2052 := by
  simp [copyHead, leBytes_length, size]

theorem copyBytes_length (size : body.length = 2048) : (copyBytes b gen body).length = 2054 := by
  simp [copyBytes_eq, copyHead_length size, crc16Bytes]

/-- R199: the second byte of a copy is 0, so that it is not read as erased. -/
theorem copyBytes_not_erased : (copyBytes b gen body).all (· = 0xFF) = false := by
  have second : (0 : Byte) ∈ copyBytes b gen body := by simp [copyBytes_eq, copyHead]
  exact List.all_eq_false.mpr ⟨0, second, by decide⟩

/-- R188, R199: a store copy is read back. -/
theorem readCopy_copyBytes (block : b < 21) (generation : gen < 65536) (size : body.length = 2048) :
    readCopy b (copyBytes b gen body) = .valid gen body := by
  have check : (copyBytes b gen body).drop 2052 = crc16Bytes (crc16 (copyHead b gen body)) := List.drop_left' (copyHead_length size)
  have checked : (copyBytes b gen body).take 2052 = copyHead b gen body := List.take_left' (copyHead_length size)
  have fields : fieldAt (copyBytes b gen body) 0 1 = b ∧ fieldAt (copyBytes b gen body) 2 2 = gen := by
    rw [copyBytes_eq, copyHead_append]
    simp (disch := omega) only [fieldAt_skip, fieldAt_pad, fieldAt_zero, Nat.reduceSub, and_self]
  have content : ((copyBytes b gen body).drop 4).take 2048 = body := by
    rw [copyBytes_eq, copyHead_append]
    exact List.take_left' size
  simp only [readCopy, copyBytes_not_erased, copyBytes_length size, check, checked, fields, content, Bool.and_false, Bool.false_eq_true,
    BEq.rfl, decide_true, Bool.and_true, if_true, if_false]

end Copies

/-! ### Codes (R196) -/

@[simp] theorem CartState.ofCode_code (s : CartState) : CartState.ofCode s.code = s := by cases s <;> rfl
@[simp] theorem SetState.ofCode_code (s : SetState) : SetState.ofCode s.code = s := by cases s <;> rfl
@[simp] theorem VerifyResult.ofCode_code (v : VerifyResult) : VerifyResult.ofCode v.code = v := by cases v <;> rfl
@[simp] theorem Cause.ofCode_code (c : Cause) : Cause.ofCode c.code = c := by cases c <;> rfl
@[simp] theorem PoolKind.ofCode_code (k : PoolKind) : PoolKind.ofCode k.code = some k := by cases k <;> rfl
@[simp] theorem PoolOwner.ofCode_code (o : PoolOwner) : PoolOwner.ofCode o.code = some o := by cases o <;> rfl
@[simp] theorem LineFn.ofCode_code (f : LineFn) : LineFn.ofCode f.code = some f := by cases f <;> rfl

theorem CartState.code_lt (s : CartState) : s.code < 4 := by cases s <;> decide
theorem SetState.code_lt (s : SetState) : s.code < 5 := by cases s <;> decide
theorem VerifyResult.code_lt (v : VerifyResult) : v.code < 5 := by cases v <;> decide
theorem Cause.code_lt (c : Cause) : c.code < 8 := by cases c <;> decide
theorem PoolKind.code_lt (k : PoolKind) : k.code < 2 := by cases k <;> decide
theorem PoolOwner.code_lt (o : PoolOwner) : o.code < 3 := by cases o <;> decide
theorem LineFn.code_lt (f : LineFn) : f.code < 5 := by cases f <;> decide

theorem takes_location (p : Option Place) : Takes takeLocation (leBytes 1 (locCode p)) p := fun rest => by
  cases p with
  | none => simp only [takeLocation, locCode, takes_num (k := 1) (v := 255) (by decide) rest, if_true]
  | some p =>
    have code := placeCode_lt p
    simp only [takeLocation, locCode, takes_num (k := 1) (v := placeCode p) (by omega) rest, if_neg (show placeCode p ≠ 255 by omega),
      placeOfCode_placeCode, Option.map_some]

theorem takes_home (h : Option (Fin 24)) : Takes takeHome (leBytes 1 ((h.map Fin.val).getD 255)) h := fun rest => by
  cases h with
  | none => simp [takeHome, takes_num (k := 1) (v := 255) (by decide) rest]
  | some n =>
    have slot := n.isLt
    simp [takeHome, takes_num (k := 1) (v := n) (by omega) rest, show n.val ≠ 255 by omega]

theorem takes_cartIx (i : CartIx) : Takes takeCartIx (leBytes 1 i.val) i := fun rest => by
  have index := i.isLt
  simp only [takeCartIx, takes_num (k := 1) (v := i) (by omega) rest, dif_pos index]

theorem takes_lineFn (f : LineFn) : Takes takeLineFn (leBytes 1 f.code) f := fun rest => by
  have code := f.code_lt
  simp only [takeLineFn, takes_num (k := 1) (v := f.code) (by omega) rest, LineFn.ofCode_code, Option.map_some]

/-! ### Labels (R3, R196) -/

theorem labelChar_ne_zero {b : Byte} (char : labelChar b = true) : b ≠ 0 := by
  rintro rfl
  exact absurd char (by decide)

theorem takes_label {l : Option Label} (ok : ∀ x, l = some x → labelOk x = true) : Takes takeLabel (labelBytes l) l := fun rest => by
  cases l with
  | none =>
    have absent := takes_bytes (List.length_replicate (n := 8) (a := (0 : Byte))) rest
    simp only [takeLabel, labelBytes, absent]
    rfl
  | some l =>
    have label := ok l rfl
    obtain ⟨⟨least, most⟩, chars⟩ : (6 ≤ l.length ∧ l.length ≤ 8) ∧ ∀ b ∈ l, labelChar b = true := by
      simpa [labelOk] using label
    have text : (padTo 8 l).takeWhile (· ≠ 0) = l := by
      rw [padTo, List.takeWhile_append_of_pos (by simpa using fun b hb => labelChar_ne_zero (chars b hb))]
      simp
    have pad : ((padTo 8 l).drop l.length).all (· = 0) = true := by simp [padTo]
    have present : (padTo 8 l).all (· = 0) = false := by
      obtain ⟨b, hb⟩ := List.exists_mem_of_length_pos (show 0 < l.length by omega)
      simp only [List.all_eq_false]
      exact ⟨b, by simp [padTo, hb], by simpa using labelChar_ne_zero (chars b hb)⟩
    simp only [takeLabel, labelBytes, takes_bytes (padTo_length most) rest, present, text, pad, label, Bool.and_self, Bool.false_eq_true,
      if_true, if_false]

end Sys2Proof.Machine
end

section
/-! The entries and block 0 of the store read back (R188, R199). -/

namespace Sys2Proof.Machine

/-! ### Cartridge entries -/

/-- A cartridge whose fields fit their widths in the store (R199). -/
structure Cart.Storable (x : Cart) : Prop where
  label : ∀ l, x.label = some l → labelOk l = true
  pool : x.pool < 5
  loads : x.loads < 65536
  stops : x.stops < 65536
  capacity : ∀ n, x.capacity = some n → n < 4294967296
  written : x.written < 18446744073709551616
  endPos : x.endPos < 4294967296
  live : x.live ≤ 256

theorem labelBytes_length {l : Option Label} (ok : ∀ x, l = some x → labelOk x = true) : (labelBytes l).length = 8 := by
  cases l with
  | none => rfl
  | some l =>
    have label := ok l rfl
    simp only [labelOk, Bool.and_eq_true, decide_eq_true_eq] at label
    exact padTo_length label.1.2

namespace Cart.Storable
variable {x : Cart} (h : x.Storable)
include h

theorem cartFields_length : (cartFields x).length = 36 := by
  simp [cartFields, leBytes_length, labelBytes_length h.label, optBytes_length (w := leBytes 4) fun n _ => leBytes_length 4 n]

theorem takeCart_cartFields (rest : List Byte) : takeCart (cartFields x ++ rest) = some { x with claim := none } := by
  have capacity : Takes (takeOpt 4 (takeNum 4)) (optBytes 4 (x.capacity.map (leBytes 4))) x.capacity :=
    takes_opt fun n known => takes_num (h.capacity n known)
  have flags : bitsNat [x.suspect, x.writeProt, x.retired] < 8 := bitsNat_lt _
  have bits : natBits 3 (bitsNat [x.suspect, x.writeProt, x.retired]) = [x.suspect, x.writeProt, x.retired] :=
    natBits_bitsNat [x.suspect, x.writeProt, x.retired]
  unfold takeCart cartFields
  simp only [List.append_assoc]
  refine (takes_label h.label).next <| (takes_below x.state.code_lt (by decide)).next <| (takes_below flags (by decide)).next <|
    (takes_location _).next <| (takes_home _).next <| (takes_below h.pool (by decide)).next <| (takes_num h.loads).next <|
    (takes_num h.stops).next <| capacity.next <| (takes_num h.written).next <| (takes_num h.endPos).next <|
    (takes_below (Nat.lt_succ_of_le h.live) (by decide)).next ?_
  simp only [CartState.ofCode_code, bits]
  rfl

theorem cartEntryBytes_length : (cartEntryBytes (some x)).length = 48 :=
  padTo_length (by simp [h.cartFields_length])

/-- R199: a cartridge entry is read back but for its claim. -/
theorem readCartEntry_cartEntryBytes : readCartEntry (cartEntryBytes (some x)) = some (some { x with claim := none }) := by
  obtain ⟨condition, fields⟩ := condition_padTo 48 1 (cartFields x)
  simp only [readCartEntry, cartEntryBytes, condition, fields, h.takeCart_cartFields]
  rfl

end Cart.Storable

/-! ### Set entries -/

/-- A set whose fields fit their widths in the store (R199). -/
structure BackupSet.Storable (x : BackupSet) : Prop where
  number : 1 ≤ x.number ∧ x.number < 65536
  tape : 1 ≤ x.tape ∧ x.tape < 65536
  pool : x.pool < 5
  expiry : x.expiry < 65536
  writeDay : x.writeDay < 65536
  segments : 1 ≤ x.segments.length ∧ x.segments.length ≤ 4
  segment : ∀ g ∈ x.segments, 1 ≤ g.ordinal ∧ g.ordinal ≤ 4 ∧ g.firstPos < 4294967296 ∧ g.firstSeq < 4294967296 ∧ g.count < 4294967296
  dataCount : x.dataCount < 4294967296
  locator : ∀ l, x.locator = some l → l.pos < 4294967296 ∧ l.count < 4294967296
  fileCount : x.fileCount ≤ 2048
  rawBytes : x.rawBytes < 18446744073709551616
  storedBytes : x.storedBytes < 18446744073709551616
  soft : x.verify.soft < 65536
  hard : x.verify.hard < 65536
  failure : ∀ l, x.verify.locator = some l → 1 ≤ l.ordinal ∧ l.ordinal ≤ 4 ∧ l.record < 4294967296
  day : ∀ n, x.verify.day = some n → n < 65536

theorem takes_segment {g : Segment} (ordinal : 1 ≤ g.ordinal ∧ g.ordinal ≤ 4) (firstPos : g.firstPos < 4294967296)
    (firstSeq : g.firstSeq < 4294967296) (count : g.count < 4294967296) : Takes takeSegment (segmentBytes g) g := fun rest => by
  unfold takeSegment segmentBytes
  simp only [List.append_assoc]
  exact (takes_below (Nat.lt_succ_of_le ordinal.2) (by decide)).next <| (if_neg (by omega)).trans <| (takes_cartIx _).next <|
    (takes_num firstPos).next <| (takes_num firstSeq).next <| (takes_num count).next rfl

theorem takes_locator {l : Locator} (pos : l.pos < 4294967296) (count : l.count < 4294967296) :
    Takes takeLocator (locatorBytes l) l := fun rest => by
  unfold takeLocator locatorBytes
  simp only [List.append_assoc]
  exact (takes_cartIx _).next <| (takes_num pos).next <| (takes_num count).next rfl

theorem takes_failLoc {l : FailLoc} (ordinal : 1 ≤ l.ordinal ∧ l.ordinal ≤ 4) (record : l.record < 4294967296) :
    Takes takeFailLoc (failLocBytes l) l := fun rest => by
  unfold takeFailLoc failLocBytes
  simp only [List.append_assoc]
  refine (takes_below (Nat.lt_succ_of_le ordinal.2) (by decide)).next <| (if_neg (by omega)).trans <| (takes_num record).next <|
    (takes_below l.cause.code_lt (by decide)).next ?_
  rw [Cause.ofCode_code]
  rfl

/-- The fields of a set entry, after its condition byte (R199). -/
def setFields (x : BackupSet) : List Byte :=
  leBytes 2 x.number ++ leBytes 2 x.tape ++ leBytes 1 x.state.code ++ boolByte x.ownerB
    ++ leBytes 1 x.pool ++ leBytes 2 x.expiry ++ leBytes 2 x.writeDay
    ++ leBytes 1 (bitsNat [x.digestOff, x.noSpanMark, x.renumbered, x.indexMissing])
    ++ leBytes 1 x.segments.length ++ padTo 56 (x.segments.flatMap segmentBytes)
    ++ leBytes 4 x.dataCount ++ optBytes 9 (x.locator.map locatorBytes)
    ++ leBytes 2 x.fileCount ++ leBytes 8 x.rawBytes ++ leBytes 8 x.storedBytes
    ++ optBytes 4 (x.digest.map crc32Bytes) ++ leBytes 1 x.verify.result.code ++ leBytes 2 x.verify.soft
    ++ leBytes 2 x.verify.hard ++ optBytes 6 (x.verify.locator.map failLocBytes) ++ optBytes 2 (x.verify.day.map (leBytes 2))

theorem setEntryBytes_holds (x : BackupSet) : setEntryBytes (.holds x) = padTo 128 (2 :: setFields x) := by
  unfold setEntryBytes setFields
  simp only [List.append_assoc, List.cons_append, List.nil_append]

namespace BackupSet.Storable
variable {x : BackupSet} (h : x.Storable)
include h

theorem segments_length : (x.segments.flatMap segmentBytes).length ≤ 56 := by
  have segments := h.segments
  rw [flatMap_length (k := 14) fun g _ => by simp [segmentBytes, leBytes_length]]
  omega

/-- R17, R199: the segment slots are read back up to the count. -/
theorem takeMany_segments : takeMany takeSegment x.segments.length (padTo 56 (x.segments.flatMap segmentBytes)) =
    some (x.segments, List.replicate (56 - (x.segments.flatMap segmentBytes).length) 0) :=
  takes_many rfl (fun g member => by
    obtain ⟨least, most, firstPos, firstSeq, count⟩ := h.segment g member
    exact takes_segment ⟨least, most⟩ firstPos firstSeq count) _

theorem setFields_length : (setFields x).length = 121 := by
  have locator := optBytes_length (o := x.locator) (w := locatorBytes) (width := 9) fun l _ => by simp [locatorBytes, leBytes_length]
  have digest := optBytes_length (o := x.digest) (w := crc32Bytes) (width := 4) fun _ _ => rfl
  have failure := optBytes_length (o := x.verify.locator) (w := failLocBytes) (width := 6) fun l _ => by
    simp [failLocBytes, leBytes_length]
  have day := optBytes_length (o := x.verify.day) (w := leBytes 2) (width := 2) fun n _ => leBytes_length 2 n
  unfold setFields
  simp only [List.length_append, leBytes_length, boolByte_eq, padTo_length h.segments_length, locator, digest, failure, day]

theorem takeSet_setFields (rest : List Byte) :
    takeSet (setFields x ++ rest) = some { x with inUse := none, ends := [], closeLoc := none } := by
  have locator : Takes (takeOpt 9 takeLocator) (optBytes 9 (x.locator.map locatorBytes)) x.locator := takes_opt fun l known => by
    obtain ⟨pos, count⟩ := h.locator l known
    exact takes_locator pos count
  have digest : Takes (takeOpt 4 takeCrc32) (optBytes 4 (x.digest.map crc32Bytes)) x.digest := takes_opt fun r _ => takes_crc32 r
  have failure : Takes (takeOpt 6 takeFailLoc) (optBytes 6 (x.verify.locator.map failLocBytes)) x.verify.locator :=
    takes_opt fun l known => by
      obtain ⟨least, most, record⟩ := h.failure l known
      exact takes_failLoc ⟨least, most⟩ record
  have day : Takes (takeOpt 2 (takeNum 2)) (optBytes 2 (x.verify.day.map (leBytes 2))) x.verify.day :=
    takes_opt fun n known => takes_num (h.day n known)
  have flags : bitsNat [x.digestOff, x.noSpanMark, x.renumbered, x.indexMissing] < 16 := bitsNat_lt _
  have bits : natBits 4 (bitsNat [x.digestOff, x.noSpanMark, x.renumbered, x.indexMissing]) =
      [x.digestOff, x.noSpanMark, x.renumbered, x.indexMissing] :=
    natBits_bitsNat [x.digestOff, x.noSpanMark, x.renumbered, x.indexMissing]
  obtain ⟨leastNumber, numberFits⟩ := h.number
  obtain ⟨leastTape, tapeFits⟩ := h.tape
  obtain ⟨leastSegments, mostSegments⟩ := h.segments
  unfold takeSet setFields
  simp only [List.append_assoc]
  refine (takes_num numberFits).next <| (takes_num tapeFits).next <| (if_neg (by omega)).trans <|
    (takes_below x.state.code_lt (by decide)).next <| (takes_bool _).next <| (takes_below h.pool (by decide)).next <|
    (takes_num h.expiry).next <| (takes_num h.writeDay).next <| (takes_below flags (by decide)).next <|
    (takes_below (Nat.lt_succ_of_le mostSegments) (by decide)).next <| (if_neg (by omega)).trans <|
    (takes_bytes (padTo_length h.segments_length)).next <| field_next h.takeMany_segments <|
    (takes_num h.dataCount).next <| locator.next <| (takes_below (Nat.lt_succ_of_le h.fileCount) (by decide)).next <|
    (takes_num h.rawBytes).next <| (takes_num h.storedBytes).next <| digest.next <| (takes_below x.verify.result.code_lt (by decide)).next <|
    (takes_num h.soft).next <| (takes_num h.hard).next <| failure.next <| day.next ?_
  simp only [SetState.ofCode_code, VerifyResult.ofCode_code, bits, toNat_decide_eq_one]
  rfl

theorem setEntryBytes_length : (setEntryBytes (.holds x)).length = 128 := by
  rw [setEntryBytes_holds]
  exact padTo_length (by simp [h.setFields_length])

/-- R199: a set entry is read back but for what is not stored (log entries 36 and 51). -/
theorem readSetEntry_setEntryBytes :
    readSetEntry (setEntryBytes (.holds x)) = some (.holds { x with inUse := none, ends := [], closeLoc := none }) := by
  obtain ⟨condition, fields⟩ := condition_padTo 128 2 (setFields x)
  simp only [readSetEntry, setEntryBytes_holds, condition, fields, h.takeSet_setFields]
  rfl

end BackupSet.Storable

/-! ### Block 0 -/

theorem takes_pool (p : Pool) : Takes takePool (poolBytes p) p := fun rest => by
  unfold takePool poolBytes
  simp only [List.append_assoc]
  refine (takes_num (p.kind.code_lt.trans (by decide))).next <| (takes_num (p.owner.code_lt.trans (by decide))).next <|
    (takes_bool _).next ?_
  simp only [PoolKind.ofCode_code, PoolOwner.ofCode_code, toNat_decide_eq_one]
  rfl

section Maps
variable {m : PoolMap} (pools : m.pools.length = 5)
include pools

theorem mapBytes_length : (mapBytes m).length = 19 := by
  have length : (m.pools.flatMap poolBytes).length = 15 := by
    rw [flatMap_length (k := 3) fun p _ => by simp [poolBytes, boolByte, leBytes_length], pools]
  simp [mapBytes, leBytes_length, length]

theorem takes_map (bounds : boundsOk m.b1 m.b2 m.b3 m.b4 = true) : Takes takeMap (mapBytes m) m := fun rest => by
  obtain ⟨⟨⟨b12, b23⟩, b34⟩, b4⟩ : ((m.b1 ≤ m.b2 ∧ m.b2 ≤ m.b3) ∧ m.b3 ≤ m.b4) ∧ m.b4 ≤ 24 := by simpa [boundsOk] using bounds
  unfold takeMap mapBytes
  simp only [List.append_assoc]
  exact (takes_num (by omega)).next <| (takes_num (by omega)).next <| (takes_num (by omega)).next <| (takes_num (by omega)).next <|
    (if_pos bounds).trans <| (takes_many pools fun p _ => takes_pool p).next rfl

end Maps

/-- Block 0's contents that fit their widths in the store (R199). -/
structure Block0Storable (k : Catalogue) (g : Settings) : Prop where
  settings : g.inRange
  masks : g.maskA.length = 12 ∧ g.maskB.length = 12 ∧ g.maskP.length = 12
  maps : ∀ m, m = k.live ∨ k.staged = some m → boundsOk m.b1 m.b2 m.b3 m.b4 = true ∧ m.pools.length = 5
  day : k.day < 65536
  nextSet : 1 ≤ k.nextSet ∧ k.nextSet < 65536

/-- Block 0's items, before the pad of its body (R188). -/
def block0Items (k : Catalogue) (g : Settings) : List Byte :=
  mapBytes k.live ++ optBytes 19 (k.staged.map mapBytes) ++ leBytes 2 k.day ++ leBytes 2 k.nextSet
    ++ leBytes 2 g.retireLimit ++ leBytes 2 g.openWait ++ leBytes 2 g.idleUnload ++ leBytes 1 (g.settle / 10)
    ++ leBytes 2 g.watermark ++ leBytes 1 g.readAhead ++ leBytes 2 g.spanReserve ++ g.fns.flatMap (fun f => leBytes 1 f.code)
    ++ leBytes 2 (bitsNat g.maskA) ++ leBytes 2 (bitsNat g.maskB) ++ leBytes 2 (bitsNat g.maskP)

theorem block0Body_eq (k : Catalogue) (g : Settings) : block0Body k g = padTo 2048 (block0Items k g) := rfl

namespace Block0Storable
variable {k : Catalogue} {g : Settings} (h : Block0Storable k g)
include h

theorem block0Body_length : (block0Body k g).length = 2048 := by
  have staged := optBytes_length (o := k.staged) (w := mapBytes) (width := 19) fun m staged => mapBytes_length (h.maps m (.inr staged)).2
  have fns : (g.fns.flatMap fun f => leBytes 1 f.code).length = g.fns.length :=
    (flatMap_length fun f _ => leBytes_length 1 f.code).trans (Nat.mul_one _)
  obtain ⟨-, -, -, -, -, -, -, four⟩ := h.settings
  rw [block0Body_eq]
  refine padTo_length ?_
  simp [block0Items, leBytes_length, mapBytes_length (h.maps _ (.inl rfl)).2, staged, fns, four]

/-- R188, R199: block 0's items are read back. -/
theorem readBlock0_block0Body :
    readBlock0 (block0Body k g) = some { live := k.live, staged := k.staged, day := k.day, nextSet := k.nextSet, cfg := g } := by
  obtain ⟨openWait, idleUnload, settle, ⟨leastMark, mostMark⟩, ⟨leastAhead, mostAhead⟩, spanReserve, ⟨leastRetire, mostRetire⟩, four⟩ :=
    h.settings
  obtain ⟨maskA, maskB, maskP⟩ := h.masks
  obtain ⟨liveBounds, livePools⟩ := h.maps k.live (.inl rfl)
  obtain ⟨leastNext, mostNext⟩ := h.nextSet
  have staged : Takes (takeOpt 19 takeMap) (optBytes 19 (k.staged.map mapBytes)) k.staged := takes_opt fun m staged => by
    obtain ⟨bounds, pools⟩ := h.maps m (.inr staged)
    exact takes_map pools bounds
  have tens : 10 * (g.settle / 10) = g.settle := by omega
  rw [block0Body_eq]
  unfold readBlock0 padTo block0Items
  simp only [List.append_assoc]
  refine (takes_map livePools liveBounds).next <| staged.next <| (takes_num h.day).next <|
    (takes_in leastNext (Nat.le_of_lt_succ mostNext) (by decide)).next <| (takes_in leastRetire mostRetire (by decide)).next <|
    (takes_in (Nat.zero_le _) openWait (by decide)).next <| (takes_in (Nat.zero_le _) idleUnload (by decide)).next <|
    (takes_num (by omega)).next <| (takes_in leastMark mostMark (by decide)).next <| (takes_in leastAhead mostAhead (by decide)).next <|
    (takes_num (by omega)).next <| (takes_many four fun f _ => takes_lineFn f).next <| (takes_mask maskA).next <| (takes_mask maskB).next <|
    (takes_mask maskP).next ?_
  rw [tens]
  rfl

end Block0Storable

/-- Settles O56: each layout is written as its fields in turn, and a field's parser takes just the bytes it was written in (`Takes`); the
fields at fixed offsets are found by skipping those before them (`fieldAt_skip`). -/
theorem recordsAndStoreCopiesReadBack : Obligations.RecordsAndStoreCopiesReadBack := by
  refine ⟨fun r payload raw tape seq ordinal => ?record, fun t dataCount ordinal mark files indexCount indexPos stored raw => ?close,
    fun count first next ordinal hcount hfirst hnext hordinal => ?counts, fun x rest least most seq off length tag => ?entry,
    fun b gen body block generation size => ?copy, fun x label pool loads stops capacity written endPos live => ?cart,
    fun x number tape pool expiry writeDay segments segment dataCount locator fileCount rawBytes storedBytes soft hard failure day => ?set,
    fun k g settings maskA maskB maskP maps day least most => ?block0⟩
  case record => exact ⟨readHeader_recordBytes r payload raw tape seq ordinal, readPayload_recordBytes r, recordBytes_length r⟩
  case close =>
    exact ⟨readCloseTrailer_closeTrailerBytes dataCount ordinal mark files indexCount indexPos stored raw, closeTrailerBytes_length t⟩
  case counts =>
    obtain ⟨spanCount, spanFirst, spanNext, spanOrdinal⟩ := fieldAt_spanTrailerBytes hcount hfirst hnext hordinal
    exact ⟨spanTrailerBytes_length .., spanCount, spanFirst, spanNext, spanOrdinal, abortTrailerBytes_length ..,
      fieldAt_abortTrailerBytes hnext hordinal⟩
  case entry => exact takeEntry_entryBytes least most seq off length tag rest
  case copy => exact ⟨readCopy_copyBytes block generation size, copyBytes_length size⟩
  case cart =>
    have storable : x.Storable := ⟨label, pool, loads, stops, capacity, written, endPos, live⟩
    exact ⟨storable.readCartEntry_cartEntryBytes, storable.cartEntryBytes_length⟩
  case set =>
    have storable : x.Storable := ⟨number, tape, pool, expiry, writeDay, segments, segment, dataCount, locator, fileCount, rawBytes,
      storedBytes, soft, hard, failure, day⟩
    exact ⟨storable.readSetEntry_setEntryBytes, storable.setEntryBytes_length⟩
  case block0 =>
    have storable : Block0Storable k g := ⟨settings, ⟨maskA, maskB, maskP⟩, maps, day, least, most⟩
    exact ⟨storable.readBlock0_block0Body, storable.block0Body_length⟩

end Sys2Proof.Machine
end
